-- ==== Sys2Proof/Word.lean ====
section
/-! DEFINITION. The word types of the bus port. Byte order and signed readings are in Machine/Ops.lean. -/
namespace Sys2Proof

/-- One byte of common memory (R154). -/
abbrev Byte := BitVec 8

/-- One 16-bit access or register of the bus port (R154). -/
abbrev Word16 := BitVec 16

end Sys2Proof
end

