-- ==== Sys2Proof/Syntax.lean ====
section
/-! DEFINITION. The commands of the MP-340: one constructor for each row of spec/opcode_table.json, with the
operands its rule gives it. A take's operands lie in the slot in common memory (R155, R157), so its constructor
carries none; the operand of a line, sensor or timer event is what the line, sensor or counter shows. -/
namespace Sys2Proof

/-- The four axes (R96), in the order targets are issued (R9). -/
inductive Axis where
  | mast | pan | tilt | pol
  deriving DecidableEq, Repr

/-- The five hard limit switches (R96, R108). -/
inductive Switch where
  | mastTop | panPlus | panMinus | tiltUp | tiltDown
  deriving DecidableEq, Repr

/-- A host write to a 16-bit register: the word, or one of its bytes (R161, Byte access). -/
inductive PortWrite where
  | word (v : Word16)
  | lowByte (v : Byte)
  | highByte (v : Byte)
  deriving DecidableEq, Repr

/-- A host write to common memory: one byte, or one aligned 16-bit word (R154). -/
inductive BusData where
  | byte (v : Byte)
  | word (v : Word16)
  deriving DecidableEq, Repr

/-- The three kinds of reset (R165). -/
inductive ResetCause where
  | powerOn | brownOut | external
  deriving DecidableEq, Repr

/-- The levels of the four van and pendant lines, true for active (R137). -/
structure Lines where
  park : Bool
  overhead : Bool
  stow : Bool
  hold : Bool
  deriving DecidableEq, Repr

/-- One inclinometer reading: a pitch and a roll in cdeg, with the valid flag (R138). -/
structure Tilts where
  valid : Bool
  pitch : Int
  roll : Int
  deriving DecidableEq, Repr

/-- What the sensors show at the end of a wake warm-up (R171): an encoder that is not valid shows `none`. -/
structure WakeReadings where
  mast : Option Int
  pan : Option Int
  tilt : Option Int
  pol : Option Int
  incl : Tilts
  deriving DecidableEq, Repr

/-- The commands, one constructor per row of the table, in the table's order. -/
inductive Instr where
  /-- Take of the oldest slot, holding a RAISE (R15). -/
  | raise
  /-- Take of a LOWER (R16). -/
  | lower
  /-- Take of a STOW (R17). -/
  | stow
  /-- Take of an AIM (R18). -/
  | aim
  /-- Take of a PEAK (R19). -/
  | peak
  /-- Take of a POINT (R20). -/
  | point
  /-- Take of a HALT (R21). -/
  | halt
  /-- Take of a RECOVER_HOLD (R22). -/
  | recoverHold
  /-- Take of a SWAP (R85). -/
  | swap
  /-- Take of a SET_FIX (R32). -/
  | setFix
  /-- Take of a SET_LIMITS (R164). -/
  | setLimits
  /-- Take of a CLEAR_FAULT (R149). -/
  | clearFault
  /-- Take of a STANDBY (R170). -/
  | standby
  /-- Host write to NOTIFY (R156). -/
  | notifyWrite (w : PortWrite)
  /-- Host write to NOTICE (R161). -/
  | noticeWrite (w : PortWrite)
  /-- Host write to CONTROL (R161). -/
  | controlWrite (w : PortWrite)
  /-- Host write to STATUS or above the registers (R154, R160). -/
  | otherRegisterWrite (offset : Nat) (w : PortWrite)
  /-- Host write to common memory (R154). -/
  | hostMemoryWrite (offset : BitVec 15) (d : BusData)
  /-- A change of PARK is taken (R137). -/
  | parkChange (active : Bool)
  /-- A change of OVERHEAD is taken (R137, R144). -/
  | overheadChange (active : Bool)
  /-- A change of STOW_LINE is taken (R137). -/
  | stowLineChange (active : Bool)
  /-- HOLD_LINE is asserted (R112, R27). -/
  | holdLineAssert
  /-- HOLD_LINE is released (R27, R113). -/
  | holdLineRelease
  /-- ANEMO_OK goes low (R131). -/
  | anemoOkLow
  /-- ANEMO_OK returns high (R132). -/
  | anemoOkHigh
  /-- The one-second wind sample time, with the pulses of the second just ended (R125). -/
  | windSample (pulses : Nat)
  /-- The 60 s hold timer expires (R131). -/
  | holdTimerExpiry
  /-- The third sample time of a wake priming, with its pulses (R133). -/
  | primingEnd (pulses : Nat)
  /-- A 50 ms sample of the 12-bit level detector (R61). -/
  | levelSample (code : BitVec 12)
  /-- The settle time of a measurement expires (R64). -/
  | settleTimeExpiry
  /-- The one-second timer of the level watch expires (R78). -/
  | watchCheck
  /-- A 100 ms inclinometer reading (R138). -/
  | inclinometerReading (r : Tilts)
  /-- A valid reading of an axis encoder (R100, R166). -/
  | encoderReading (a : Axis) (v : Int)
  /-- An encoder's valid flag clears (R109). -/
  | encoderInvalid (a : Axis)
  /-- An encoder's valid flag returns, with the new reading (R109). -/
  | encoderValidReturn (a : Axis) (v : Int)
  /-- A hard limit switch trips (R108). -/
  | limitSwitchTrip (sw : Switch)
  /-- A hard limit switch's contact opens (R108). -/
  | limitSwitchOpen (sw : Switch)
  /-- An axis is at standstill (R100). -/
  | standstill (a : Axis)
  /-- The 500 ms mast lock release ends (R99). -/
  | lockReleaseEnd
  /-- The 500 ms mast lock engage ends (R101). -/
  | lockEngageEnd
  /-- A move deadline expires (R102). -/
  | deadlineExpiry (a : Axis)
  /-- A controlled stop has found no standstill for 2 s (R105). -/
  | controlledStopTimeout (a : Axis)
  /-- An immediate stop has found no standstill for 2 s (R106). -/
  | immediateStopTimeout (a : Axis)
  /-- The alarm-on time of the alarm period ends (R151). -/
  | alarmOnExpiry
  /-- The alarm period ends (R151). -/
  | alarmPeriodExpiry
  /-- The telemetry period expires (R163). -/
  | telemetryPeriodExpiry
  /-- A telemetry page write completes (R163). -/
  | telemetryPageWriteEnd
  /-- A second of uptime passes (R162). -/
  | uptimeTick
  /-- A reset ends (R165). -/
  | reset (cause : ResetCause)
  /-- The 50 ms supply settle ends; the lines and the FLEET_LOCK strap are read (R166). -/
  | settleEnd (lines : Lines) (strap : Bool)
  /-- WARM_UP ends (R166). -/
  | warmUpEnd
  /-- Priming ends at start-up: READY, with the pulses of the third sample time (R169). -/
  | ready (pulses : Nat)
  /-- The 100 ms wake warm-up ends; the sensors are read (R171). -/
  | wakeWarmUpEnd (r : WakeReadings)
  deriving DecidableEq, Repr

end Sys2Proof
end

