-- ==== Sys2Proof/Config.lean ====
section
/-! DEFINITION. The figures that the manual fixes for every MP-340. No value of the manual is left open in a
form that needs a free value (log 6), so this file holds no opaque constant. -/
namespace Sys2Proof.Config

/-- The nest height, 1,500 mm (R2, Terms). -/
def nestHeight : Int := 1500
/-- The greatest mast extension and target (R96). -/
def mastTravel : Int := 15000
/-- The extension at or below which the mast is NESTED (R4) and the MAST_UP lamp dark (R152). -/
def nestedLimit : Int := 20
/-- The target that takes a mast at rest below the nest height through it (R9). -/
def throughNest : Int := 1521
/-- Mast tolerance (R96). -/
def mastTolerance : Int := 20

/-- Stow targets of pan, tilt and pol (R5). -/
def stowPan : Int := 0
def stowTilt : Int := -9000
def stowPol : Int := 0

/-- Axis travels (R96). -/
def panTravel : Int := 27000
def tiltLow : Int := -9000
def tiltHigh : Int := 3000
def polTravel : Int := 9000
/-- The aim range of the tilt of a site solution (R40). -/
def aimLow : Int := -1000
def aimHigh : Int := 3000
/-- The bound on every trim (R52). -/
def trimBound : Int := 300

/-- Attitude limits of RAISE (R15, R138) and of the ATTITUDE trigger (R143). -/
def raiseAttitude : Int := 500
def stowAttitude : Int := 700

/-- Lowest level, and level a history starts at (R61). -/
def levelFloor : Int := -1000

/-- Part code and revision of the header (10.2). -/
def partCode : Nat := 0x0340
def partRevision : Nat := 1

/-- Common memory map (R154). -/
def headerBase : Nat := 0x0000
def slotBase : Nat := 0x0100
def telemetryBase : Nat := 0x0300
def siteBase : Nat := 0x0400
def packageBase : Nat := 0x0C00
def memorySize : Nat := 0x8000

end Sys2Proof.Config
end

