-- ==== Sys2Proof/Machine/State.lean ====
section
/-! DEFINITION. The state of the MP-340: plain data, every piece of state the manual gives the module, grouped by
the block that owns it, and the state after reset. -/
namespace Sys2Proof.Machine

/-! ## Names of the manual -/

/-- A slot number, 0 to 7 (R155). -/
abbrev Slot := Fin 8

/-- Common memory: the cells that do not read as an unlisted address does (0, log 4), addresses strictly rising. -/
abbrev Memory := List Host.Cell

/-- The thirteen command kinds (10.2, Codes). -/
inductive Kind where
  | raise | lower | stow | aim | peak | point | halt | swap | setFix | setLimits | clearFault | standby | recoverHold
  deriving DecidableEq, Repr

/-- The result codes (10.2, Codes). -/
inductive Code where
  | ok | badKind | badRecord | badState | interlock | noFix | badSite | tooClose | notStowed | emptyPackage
  | badPackage | superseded | swappedOut | faulted | halted | reset
  deriving DecidableEq, Repr

/-- The overall modes (R3). -/
inductive Mode where
  | starting | standby | recovery | normal | forcedStow | halted
  deriving DecidableEq, Repr

/-- The mast states (R4). -/
inductive MastState where
  | nested | rising | descending | held | failed
  deriving DecidableEq, Repr

/-- The dish states (R6). -/
inductive DishState where
  | stowed | stowing | nestWait | slewing | parked | onSolution | peaking | locked | failed
  deriving DecidableEq, Repr

/-- The sensors a SENSOR fault can name (R141). -/
inductive Sensor where
  | axis (a : Axis)
  | incl
  | level
  | anemo
  deriving DecidableEq, Repr

/-- A fault: a kind with its qualifier (R139, R141). -/
inductive FaultId where
  | stall (a : Axis)
  | limit (a : Axis)
  | sensor (q : Sensor)
  | overhead
  | vanMoved
  | attitude
  | windStow
  deriving DecidableEq, Repr

/-- The outcomes of a search (R72 to R77, 10.2). -/
inductive SearchOutcome where
  | none | locked | lockedEdge | probeLimit | noSignal | abandoned | faulted | sensor
  deriving DecidableEq, Repr

/-- Pan, tilt and pol targets. -/
structure Targets where
  pan : Int
  tilt : Int
  pol : Int
  deriving DecidableEq, Repr

/-- The warnings of a command (10.2). -/
structure Warnings where
  clamped : Bool
  ceilingLimited : Bool
  elevClamped : Bool
  rangeFar : Bool
  edge : Bool
  deriving DecidableEq, Repr

/-- No warning. -/
def Warnings.empty : Warnings := ⟨false, false, false, false, false⟩

/-! ## The live stance (R1) -/

inductive DishGoal where
  | none
  | stow
  | site
  | point (t : Targets)
  deriving DecidableEq, Repr

structure Stance where
  site : Option (Fin 32)
  mastGoal : Int
  dishGoal : DishGoal
  peakAfter : Bool
  watch : Bool
  peakPending : Bool
  deriving DecidableEq, Repr

/-! ## Stance Controller (R3 to R9, R35, R45, R79) -/

/-- Why the mast goal is still to be set to the extension at rest: HALT (R21), the OVERHEAD stop (R144), or the
entry into HALTED (R25). -/
inductive GoalAtRest where
  | halt | overhead | halted
  deriving DecidableEq, Repr

/-- Why a moving dish was stopped short: a stop (R6, R7), or the downward nest crossing (R11). -/
inductive StopShort where
  | stop | nest
  deriving DecidableEq, Repr

structure Control where
  mode : Mode
  returnMode : Mode
  mastState : MastState
  dishState : DishState
  effTarget : Int
  siteTargets : Targets
  siteTrimPan : Int
  siteTrimTilt : Int
  touchUpMark : Bool
  signalLost : Bool
  stowStatus : Bool
  goalAtRest : Option GoalAtRest
  goalOnReturn : Bool
  upwardDue : Bool
  dishShort : Option StopShort
  resumeDue : Bool
  deriving DecidableEq, Repr

/-! ## Geometry Unit and Solution Table (R30, R49) -/

structure Fix where
  datum : Nat
  east : Int
  north : Int
  ground : Int
  heading : Int
  deriving DecidableEq, Repr

/-- A trim block (R49). -/
structure Trim where
  valid : Bool
  pan : Int
  tilt : Int
  peak : Int
  datum : Nat
  east : Int
  north : Int
  heading : Int
  deriving DecidableEq, Repr

inductive SolutionState where
  | empty | computed | stale
  deriving DecidableEq, Repr

/-- A pointing solution: untrimmed P, T, Q, the reported bearing, elevation and range, RANGE_FAR (R40). -/
structure Solution where
  pan : Int
  tilt : Int
  pol : Int
  bearing : Int
  elevation : Int
  range : Int
  rangeFar : Bool
  deriving DecidableEq, Repr

/-- A solution entry (R49). -/
structure Entry where
  state : SolutionState
  fixGen : Nat
  height : Int
  sol : Solution
  revision : Nat
  trim : Trim
  deriving DecidableEq, Repr

structure Geometry where
  fix : Option Fix
  fixGen : Nat
  table : List Entry
  deriving DecidableEq, Repr

/-! ## Peak Search Engine and Level Monitor (R61 to R79) -/

inductive SearchKind where
  | full | touchUp
  deriving DecidableEq, Repr

/-- The axis a probe tries (R67). -/
inductive ProbeAxis where
  | pan | tilt
  deriving DecidableEq, Repr

/-- Where a search stands: at its reference measurement, at the first or second probe point of an axis, or on the
return move of an axis (R66 to R69). -/
inductive SearchStage where
  | reference
  | probe (ax : ProbeAxis) (plus : Bool)
  | back (ax : ProbeAxis)
  deriving DecidableEq, Repr

/-- What a search waits for (R64): the dish and mast at rest, the settle time, or samples (those taken so far). -/
inductive SearchWait where
  | moving
  | settling
  | sampling (taken : List Int)
  deriving DecidableEq, Repr

/-- The snapshot of the search parameters (R65). -/
structure SearchParams where
  initial : Nat
  minimum : Nat
  threshold : Nat
  probeLimit : Nat
  settle : Nat
  deriving DecidableEq, Repr

/-- The search context (R66), with where the search stands. -/
structure Search where
  kind : SearchKind
  site : Fin 32
  centrePan : Int
  centreTilt : Int
  startPan : Int
  startTilt : Int
  lc : Option Int
  step : Nat
  probes : Nat
  edge : Bool
  limit : Bool
  lockFloor : Int
  params : SearchParams
  stage : SearchStage
  wait : SearchWait
  asked : Targets
  plusLevel : Option Int
  minusLevel : Option Int
  moved : Bool
  deriving DecidableEq, Repr

structure Level where
  running : Bool
  history : List Int
  held : Int
  invalidRun : Nat
  search : Option Search
  /-- The watch count while the level watch runs (R78). -/
  watch : Option Nat
  deriving DecidableEq, Repr

/-! ## Exchange Unit (R81, R84) -/

/-- A package record as read (R81), its bytes taken as numbers; `reservedZero` says that every reserved byte was. -/
structure Package where
  state : Nat
  site : Nat
  dishGoal : Nat
  peakAfter : Nat
  watch : Nat
  peakPending : Nat
  trimValid : Nat
  mastGoal : Nat
  point : Targets
  trimPan : Int
  trimTilt : Int
  peak : Int
  heading : Nat
  east : Int
  north : Int
  datum : Nat
  savedAt : Nat
  reservedZero : Bool
  deriving DecidableEq, Repr

inductive SwapPhase where
  | idle | quiesce
  deriving DecidableEq, Repr

structure Swap where
  phase : SwapPhase
  number : Nat
  slot : Slot
  snapshot : Package
  deriving DecidableEq, Repr

/-! ## Axis Drives (R96 to R113) -/

inductive Priority where
  | ordinary | forcedStow
  deriving DecidableEq, Repr

inductive Phase where
  | atRest | waiting | releasing | driving | stopping | engaging | faulted
  deriving DecidableEq, Repr

inductive Lock where
  | engaged | releasing | released | engaging
  deriving DecidableEq, Repr

inductive StopKind where
  | controlled | immediate
  deriving DecidableEq, Repr

structure AxisState where
  position : Int
  target : Int
  encValid : Bool
  everValid : Bool
  /-- The last valid reading since the reset, kept where R166 puts the position at 0 (R25). -/
  lastValid : Int
  phase : Phase
  /-- Tenths of a second (R102). -/
  deadline : Option Nat
  arrived : Bool
  stop : Option StopKind
  faultStop : Bool
  skidding : Bool
  next : Option (Int × Priority)
  deriving DecidableEq, Repr

/-- One bit for each limit switch (R96). -/
structure Switches where
  mastTop : Bool
  panPlus : Bool
  panMinus : Bool
  tiltUp : Bool
  tiltDown : Bool
  deriving DecidableEq, Repr

structure Axes where
  mast : AxisState
  pan : AxisState
  tilt : AxisState
  pol : AxisState
  lock : Lock
  tripped : Switches
  contacts : Switches
  deriving DecidableEq, Repr

/-! ## Drive Budget Arbiter (R115) -/

structure Grant where
  axis : Axis
  draw : Nat
  deriving DecidableEq, Repr

structure Request where
  axis : Axis
  draw : Nat
  priority : Priority
  deriving DecidableEq, Repr

structure Arbiter where
  grants : List Grant
  waits : List Request
  deriving DecidableEq, Repr

/-! ## Wind Monitor (R124) -/

inductive Anemometer where
  | sampling | hold | degraded | refill
  deriving DecidableEq, Repr

/-- What REFILL carries on (R132). -/
inductive Carried where
  | heldFigure | bandTwo
  deriving DecidableEq, Repr

/-- A running residency period (R127): the sample times since its start, the period in force at its start, and
whether it started between two sample times (R135, log 8). -/
structure Residency where
  elapsed : Nat
  period : Nat
  offCadence : Bool
  deriving DecidableEq, Repr

structure Wind where
  running : Bool
  window : List Nat
  figure : Nat
  band : Nat
  residency : Option Residency
  anem : Anemometer
  carry : Carried
  holdTimer : Option Nat
  refill : Nat
  priming : Bool
  primingLost : Bool
  fleetLock : Bool
  anemoOk : Bool
  lowInSecond : Bool
  deriving DecidableEq, Repr

/-! ## Interlock and Fault Unit (R137 to R152) -/

/-- The four forced-stow trigger conditions (R143). -/
structure Triggers where
  vanMoved : Bool
  attitude : Bool
  windStow : Bool
  stowLine : Bool
  deriving DecidableEq, Repr

/-- The first-fault record (R142). -/
structure FirstFault where
  fault : Option FaultId
  uptime : Nat
  deriving DecidableEq, Repr

structure Interlock where
  lines : Lines
  pitch : Int
  roll : Int
  inclValid : Bool
  faults : List FaultId
  first : FirstFault
  alarmRunning : Bool
  alarmOn : Bool
  alarmPeriod : Nat
  alarmOnTime : Nat
  judged : Triggers
  deriving DecidableEq, Repr

/-! ## Board Manager (R154 to R164) -/

/-- The result data of an AIM fixed at its take (R36). -/
structure AimData where
  site : Nat
  bearing : Int
  elevation : Int
  range : Int
  targets : Targets
  deriving DecidableEq, Repr

/-- The search fields of PEAK and AIM (R74). -/
structure SearchFields where
  outcome : SearchOutcome
  trimPan : Int
  trimTilt : Int
  lc : Int
  probes : Nat
  deriving DecidableEq, Repr

/-- An open command (R157): its slot and kind, the warnings gathered (R159), and what its rule keeps of its take:
the clamped height of a LOWER (R16), the peak-after flag and data of an AIM (R18, R36), the search fields, and the
POINT values (R20). -/
structure OpenCommand where
  slot : Slot
  kind : Kind
  warnings : Warnings
  height : Int
  peakAfter : Bool
  aim : AimData
  search : SearchFields
  point : Targets
  deriving DecidableEq, Repr

structure Board where
  intake : List Slot
  openSet : List OpenCommand
  control : Word16
  notice : Word16
  headerSeq : Word16
  deriving DecidableEq, Repr

/-- The telemetry writer (R163). -/
structure Telemetry where
  gen : Word16
  writing : Bool
  timer : Option Nat
  deriving DecidableEq, Repr

/-- The limits in force (10.2, Limits record). -/
structure Limits where
  initialStep : Nat
  minStep : Nat
  threshold : Nat
  probeLimit : Nat
  watchDrop : Nat
  anemoK : Nat
  budget : Nat
  settle : Nat
  t1 : Nat
  t2 : Nat
  t3 : Nat
  c0 : Nat
  c1 : Nat
  c2 : Nat
  residency : Nat
  roof : Nat
  alarmPeriod : Nat
  alarmOn : Nat
  telemPeriod : Nat
  deriving DecidableEq, Repr

/-! ## Start-up and Power Controller (R165 to R171) -/

inductive StartPhase where
  | settle | warmUp | priming | done
  deriving DecidableEq, Repr

inductive StandbyState where
  | awake | asleep | waking
  deriving DecidableEq, Repr

structure Power where
  cause : ResetCause
  phase : StartPhase
  resetSet : List Slot
  standby : StandbyState
  ready : Bool
  mastUpAtReset : Bool
  slotsReturned : List Slot
  uptime : Nat
  mastUpLamp : Bool
  deriving DecidableEq, Repr

/-! ## The whole state -/

structure State where
  pending : List Instr
  mem : Memory
  board : Board
  telem : Telemetry
  limits : Limits
  stance : Stance
  ctl : Control
  geo : Geometry
  level : Level
  swap : Swap
  axes : Axes
  arb : Arbiter
  wind : Wind
  ilk : Interlock
  power : Power
  deriving DecidableEq, Repr

/-- Why the machine stops. -/
inductive Fault where
  /-- HOST_MEMORY_WRITE raises it for a 16-bit access at an odd offset: the bus is a 16-bit bus whose multi-byte
  fields are aligned (R154), and the manual gives such an access no effect. Safe: the model stops (log 7). -/
  | unalignedHostWord
  deriving DecidableEq, Repr

/-- Why a command has no meaning. -/
inductive Refusal where
  /-- A row of the table that has no meaning in the model yet. No arm raises it. Safe. -/
  | notModelled (mnemonic : String)
  deriving DecidableEq, Repr

/-! ## Values after reset -/

/-- The defaults of the limits record (R65, R116, R134, R38, R151, R163). -/
def Limits.defaults : Limits where
  initialStep := 40
  minStep := 5
  threshold := 2
  probeLimit := 40
  watchDrop := 30
  anemoK := 10
  budget := 40
  settle := 200
  t1 := 100
  t2 := 150
  t3 := 200
  c0 := 15000
  c1 := 10000
  c2 := 5000
  residency := 600
  roof := 3400
  alarmPeriod := 1000
  alarmOn := 500
  telemPeriod := 200

/-- No targets yet (log 5). -/
def Targets.zero : Targets := ⟨0, 0, 0⟩

/-- The trim block of an entry after a reset (R49). -/
def Trim.zero : Trim := ⟨false, 0, 0, 0, 0, 0, 0, 0⟩

def Solution.zero : Solution := ⟨0, 0, 0, 0, 0, 0, false⟩

/-- A solution entry after a reset (R49). -/
def Entry.zero : Entry := ⟨.empty, 0, 0, Solution.zero, 0, Trim.zero⟩

/-- An axis after a reset (R97); position and target until the first valid reading: log 5. -/
def AxisState.reset : AxisState where
  position := 0
  target := 0
  encValid := false
  everValid := false
  lastValid := 0
  phase := .atRest
  deadline := none
  arrived := false
  stop := none
  faultStop := false
  skidding := false
  next := none

def Switches.clear : Switches := ⟨false, false, false, false, false⟩

/-- An empty package record, the snapshot of an IDLE swap context (R84, log 5). -/
def Package.zero : Package where
  state := 0
  site := 0
  dishGoal := 0
  peakAfter := 0
  watch := 0
  peakPending := 0
  trimValid := 0
  mastGoal := 0
  point := Targets.zero
  trimPan := 0
  trimTilt := 0
  peak := 0
  heading := 0
  east := 0
  north := 0
  datum := 0
  savedAt := 0
  reservedZero := true

/-- The live stance after a reset (R1). -/
def Stance.reset : Stance := ⟨none, 0, .none, false, false, false⟩

/-- The Stance Controller after a reset (R3, R4, R45, R79; log 5). -/
def Control.reset : Control where
  mode := .starting
  returnMode := .normal
  mastState := .nested
  dishState := .stowed
  effTarget := 0
  siteTargets := Targets.zero
  siteTrimPan := 0
  siteTrimTilt := 0
  touchUpMark := false
  signalLost := false
  stowStatus := false
  goalAtRest := none
  goalOnReturn := false
  upwardDue := false
  dishShort := none
  resumeDue := false

/-- No fix, generation 0, every entry EMPTY (R30, R49). -/
def Geometry.reset : Geometry := ⟨none, 0, List.replicate 32 Entry.zero⟩

/-- The Level Monitor and the Peak Search Engine after a reset (R61, R78); the history, the held level and the run of
invalid samples stand from the reset as READY starts them (log 5). -/
def Level.reset : Level := ⟨false, List.replicate 20 Config.levelFloor, Config.levelFloor, 0, none, none⟩

/-- The swap context after a reset (R84). -/
def Swap.reset : Swap := ⟨.idle, 0, 0, Package.zero⟩

/-- The axes after a reset: brakes set, lock ENGAGED (R97); `contacts` is what the switches show. -/
def Axes.reset (contacts : Switches) : Axes where
  mast := AxisState.reset
  pan := AxisState.reset
  tilt := AxisState.reset
  pol := AxisState.reset
  lock := .engaged
  tripped := Switches.clear
  contacts := contacts

/-- The arbiter after a reset (R115). -/
def Arbiter.reset : Arbiter := ⟨[], []⟩

/-- The Wind Monitor after a reset (R124); `anemoOk` is what the ANEMO_OK line shows. -/
def Wind.reset (anemoOk : Bool) : Wind where
  running := false
  window := []
  figure := 0
  band := 0
  residency := none
  anem := .sampling
  carry := .heldFigure
  holdTimer := none
  refill := 0
  priming := false
  primingLost := false
  fleetLock := false
  anemoOk := anemoOk
  lowInSecond := false

/-- The Interlock and Fault Unit after a reset (R138, R139, R142, R151). -/
def Interlock.reset : Interlock where
  lines := ⟨false, false, false, false⟩
  pitch := 0
  roll := 0
  inclValid := false
  faults := []
  first := ⟨none, 0⟩
  alarmRunning := false
  alarmOn := false
  alarmPeriod := 0
  alarmOnTime := 0
  judged := ⟨false, false, false, false⟩

/-- The Board Manager after a reset (R156, R158, R161, R162). -/
def Board.reset : Board := ⟨[], [], 0, 0, 0⟩

/-- The telemetry writer after a reset (R163). -/
def Telemetry.reset : Telemetry := ⟨0, false, none⟩

/-- The Start-up and Power Controller at the end of a reset (R165, R168). -/
def Power.reset (cause : ResetCause) : Power where
  cause := cause
  phase := .settle
  resetSet := []
  standby := .awake
  ready := false
  mastUpAtReset := false
  slotsReturned := []
  uptime := 0
  mastUpLamp := false

/-- The module at the end of a reset (R165), given what a reset leaves alone: the queue, common memory, and the
levels of the ANEMO_OK line and the limit switch contacts. -/
def State.afterReset (cause : ResetCause) (pending : List Instr) (mem : Memory) (anemoOk : Bool)
    (contacts : Switches) : State where
  pending := pending
  mem := mem
  board := Board.reset
  telem := Telemetry.reset
  limits := Limits.defaults
  stance := Stance.reset
  ctl := Control.reset
  geo := Geometry.reset
  level := Level.reset
  swap := Swap.reset
  axes := Axes.reset contacts
  arb := Arbiter.reset
  wind := Wind.reset anemoOk
  ilk := Interlock.reset
  power := Power.reset cause

/-- The machine right after a POWER_ON reset (R165): memory with nothing listed, ANEMO_OK high and every switch
contact open (log 5). -/
def State.reset : State := State.afterReset .powerOn [] [] true Switches.clear

end Sys2Proof.Machine
end

