-- ==== Sys2Proof/Machine/Ops.lean ====
section
/-! DEFINITION. The named operations over common memory, the groups of State, the axes, and the Board Manager's
registers. -/
namespace Sys2Proof.Machine

/-! ## Byte order and signed fields (R154, 10.2) -/

/-- The two's complement reading of the low `w` bits of `n`. -/
def toSigned (w n : Nat) : Int :=
  if n % 2 ^ w < 2 ^ (w - 1) then ((n % 2 ^ w : Nat) : Int) else ((n % 2 ^ w : Nat) : Int) - ((2 ^ w : Nat) : Int)

/-- The low `w` bits of an integer in two's complement. -/
def fromSigned (w : Nat) (i : Int) : Nat := (i % ((2 ^ w : Nat) : Int)).toNat

/-- The `n` low bytes of a number, least significant first. -/
def leBytes : Nat → Nat → List Byte
  | 0, _ => []
  | n + 1, v => BitVec.ofNat 8 v :: leBytes n (v / 256)

/-- A 16-bit field, signed or unsigned. -/
def le16 (i : Int) : List Byte := leBytes 2 (fromSigned 16 i)

/-- A 32-bit field, signed or unsigned. -/
def le32 (i : Int) : List Byte := leBytes 4 (fromSigned 32 i)

/-- One byte, signed or unsigned. -/
def le8 (i : Int) : List Byte := leBytes 1 (fromSigned 8 i)

/-- A flag as a byte, 0 or 1. -/
def flagByte (b : Bool) : List Byte := [if b then 1 else 0]

/-- `bs` brought to exactly `n` bytes, the missing ones zero. -/
def padBytes : Nat → List Byte → List Byte
  | 0, _ => []
  | n + 1, [] => 0 :: padBytes n []
  | n + 1, b :: bs => b :: padBytes n bs

/-! ## Common memory (R154) -/

/-- The canonical form: addresses strictly rising, no listed byte equal to what an unlisted address reads as. -/
def Memory.wf : Memory → Bool
  | [] => true
  | [(_, b)] => b != 0
  | (a, b) :: (a', b') :: rest => b != 0 && (decide (a < a') && Memory.wf ((a', b') :: rest))

/-- The byte at an address; an unlisted address reads 0 (log 4). -/
def read8 : Memory → Nat → Byte
  | [], _ => 0
  | (x, b) :: rest, a => if a = x then b else read8 rest a

/-- Store one byte, keeping the canonical form. -/
def write8 : Memory → Nat → Byte → Memory
  | [], a, b => if b = 0 then [] else [(a, b)]
  | (x, c) :: rest, a, b =>
    if a < x then (if b = 0 then (x, c) :: rest else (a, b) :: (x, c) :: rest)
    else if a = x then (if b = 0 then rest else (a, b) :: rest)
    else (x, c) :: write8 rest a b

/-- Store bytes from an address up. -/
def writeBytes (m : Memory) (a : Nat) : List Byte → Memory
  | [] => m
  | b :: bs => writeBytes (write8 m a b) (a + 1) bs

/-- Store several fields, each at its address, in order. -/
def writeFields (m : Memory) : List (Nat × List Byte) → Memory
  | [] => m
  | f :: fs => writeFields (writeBytes m f.1 f.2) fs

/-- An unsigned byte. -/
def readU8 (m : Memory) (a : Nat) : Nat := (read8 m a).toNat

/-- An unsigned little-endian 16-bit field. -/
def readU16 (m : Memory) (a : Nat) : Nat := readU8 m a + 256 * readU8 m (a + 1)

/-- An unsigned little-endian 32-bit field. -/
def readU32 (m : Memory) (a : Nat) : Nat := readU16 m a + 65536 * readU16 m (a + 2)

/-- A signed little-endian 16-bit field. -/
def readS16 (m : Memory) (a : Nat) : Int := toSigned 16 (readU16 m a)

/-- A signed little-endian 32-bit field. -/
def readS32 (m : Memory) (a : Nat) : Int := toSigned 32 (readU32 m a)

/-- The `n` bytes from an address up. -/
def readBytes (m : Memory) (a : Nat) : Nat → List Byte
  | 0 => []
  | n + 1 => read8 m a :: readBytes m (a + 1) n

/-- Whether the `n` bytes from an address up are all zero (10.2, reserved). -/
def zeroBytes (m : Memory) (a n : Nat) : Bool := (readBytes m a n).all (· == 0)

/-! ## Updates of the groups of State -/

def State.withPending (s : State) (q : List Instr) : State := { s with pending := q }
def State.withMem (s : State) (x : Memory) : State := { s with mem := x }
def State.withBoard (s : State) (x : Board) : State := { s with board := x }
def State.withTelem (s : State) (x : Telemetry) : State := { s with telem := x }
def State.withLimits (s : State) (x : Limits) : State := { s with limits := x }
def State.withStance (s : State) (x : Stance) : State := { s with stance := x }
def State.withCtl (s : State) (x : Control) : State := { s with ctl := x }
def State.withGeo (s : State) (x : Geometry) : State := { s with geo := x }
def State.withLevel (s : State) (x : Level) : State := { s with level := x }
def State.withSwap (s : State) (x : Swap) : State := { s with swap := x }
def State.withAxes (s : State) (x : Axes) : State := { s with axes := x }
def State.withArb (s : State) (x : Arbiter) : State := { s with arb := x }
def State.withWind (s : State) (x : Wind) : State := { s with wind := x }
def State.withIlk (s : State) (x : Interlock) : State := { s with ilk := x }
def State.withPower (s : State) (x : Power) : State := { s with power := x }

/-- The state of one axis. -/
def Axes.get (x : Axes) : Axis → AxisState
  | .mast => x.mast
  | .pan => x.pan
  | .tilt => x.tilt
  | .pol => x.pol

/-- The axes with one axis replaced. -/
def Axes.put (x : Axes) (a : Axis) (v : AxisState) : Axes :=
  match a with
  | .mast => { x with mast := v }
  | .pan => { x with pan := v }
  | .tilt => { x with tilt := v }
  | .pol => { x with pol := v }

def State.axis (s : State) (a : Axis) : AxisState := s.axes.get a

def State.withAxis (s : State) (a : Axis) (v : AxisState) : State := s.withAxes (s.axes.put a v)

def State.withLock (s : State) (l : Lock) : State := s.withAxes { s.axes with lock := l }

def State.withMode (s : State) (m : Mode) : State := s.withCtl { s.ctl with mode := m }

/-- The dish state becomes `d`; the level watch stops when the dish is not LOCKED (R78). -/
def State.withDish (s : State) (d : DishState) : State :=
  let s1 := s.withCtl { s.ctl with dishState := d }
  if d = .locked then s1 else s1.withLevel { s1.level with watch := none }

def State.withFaults (s : State) (fs : List FaultId) : State := s.withIlk { s.ilk with faults := fs }

/-- The entry of a site (R49). -/
def State.entry (s : State) (site : Fin 32) : Entry := s.geo.table.getD site.val Entry.zero

/-- The table with one entry replaced (R49: the table never grows, shrinks or moves entries). -/
def State.withEntry (s : State) (site : Fin 32) (e : Entry) : State :=
  s.withGeo { s.geo with table := s.geo.table.set site.val e }

/-- The dish goal is SITE or POINT (R2). -/
def DishGoal.aimed : DishGoal → Bool
  | .none => false
  | .stow => false
  | .site => true
  | .point _ => true

/-- The slots in ascending order (R24, R156). -/
def allSlots : List Slot := [0, 1, 2, 3, 4, 5, 6, 7]

/-- The dish axes in the order targets are issued (R9). -/
def dishAxes : List Axis := [.pan, .tilt, .pol]

/-- The axes in the order targets are issued (R9). -/
def allAxes : List Axis := [.mast, .pan, .tilt, .pol]

/-! ## NOTICE (R161) -/

/-- Set one bit of NOTICE; a bit already set stays set. -/
def setNotice (s : State) (bit : Nat) : State :=
  s.withBoard { s.board with notice := s.board.notice ||| BitVec.ofNat 16 (2 ^ bit) }

/-- NOTICE bit of FAULT_NEW, CONDITION and READY (10.2, Registers). -/
def noticeFault : Nat := 8
def noticeCondition : Nat := 9
def noticeReady : Nat := 10

/-! ## Codes of the shared records (10.2, Codes) -/

def Kind.ofCode : Nat → Option Kind
  | 1 => some .raise
  | 2 => some .lower
  | 3 => some .stow
  | 4 => some .aim
  | 5 => some .peak
  | 6 => some .point
  | 7 => some .halt
  | 8 => some .swap
  | 9 => some .setFix
  | 10 => some .setLimits
  | 11 => some .clearFault
  | 12 => some .standby
  | 13 => some .recoverHold
  | _ => none

def Code.toNat : Code → Nat
  | .ok => 0
  | .badKind => 1
  | .badRecord => 2
  | .badState => 3
  | .interlock => 4
  | .noFix => 5
  | .badSite => 6
  | .tooClose => 7
  | .notStowed => 8
  | .emptyPackage => 9
  | .badPackage => 10
  | .superseded => 16
  | .swappedOut => 17
  | .faulted => 18
  | .halted => 19
  | .reset => 20

def Mode.toNat : Mode → Nat
  | .starting => 0
  | .standby => 1
  | .recovery => 2
  | .normal => 3
  | .forcedStow => 4
  | .halted => 5

def MastState.toNat : MastState → Nat
  | .nested => 0
  | .rising => 1
  | .descending => 2
  | .held => 3
  | .failed => 4

def DishState.toNat : DishState → Nat
  | .stowed => 0
  | .stowing => 1
  | .nestWait => 2
  | .slewing => 3
  | .parked => 4
  | .onSolution => 5
  | .peaking => 6
  | .locked => 7
  | .failed => 8

def SearchOutcome.toNat : SearchOutcome → Nat
  | .none => 0
  | .locked => 1
  | .lockedEdge => 2
  | .probeLimit => 3
  | .noSignal => 4
  | .abandoned => 5
  | .faulted => 6
  | .sensor => 7

def Sensor.toNat : Sensor → Nat
  | .axis .mast => 1
  | .axis .pan => 2
  | .axis .tilt => 3
  | .axis .pol => 4
  | .incl => 5
  | .level => 6
  | .anemo => 7

/-- Fault kind code. -/
def FaultId.kindCode : FaultId → Nat
  | .stall _ => 1
  | .limit _ => 2
  | .sensor _ => 3
  | .overhead => 4
  | .vanMoved => 5
  | .attitude => 6
  | .windStow => 7

/-- Fault qualifier code. -/
def FaultId.qualifierCode : FaultId → Nat
  | .stall a => Sensor.toNat (.axis a)
  | .limit a => Sensor.toNat (.axis a)
  | .sensor q => q.toNat
  | .overhead => 0
  | .vanMoved => 0
  | .attitude => 0
  | .windStow => 0

/-- The bit of a fault in the fault-set summary of the telemetry page (10.2). LIMIT(POL) does not exist (R96). -/
def FaultId.summaryBit : FaultId → Nat
  | .stall .mast => 0
  | .stall .pan => 1
  | .stall .tilt => 2
  | .stall .pol => 3
  | .limit .mast => 4
  | .limit .pan => 5
  | .limit .tilt => 6
  | .limit .pol => 32
  | .sensor (.axis .mast) => 7
  | .sensor (.axis .pan) => 8
  | .sensor (.axis .tilt) => 9
  | .sensor (.axis .pol) => 10
  | .sensor .incl => 11
  | .sensor .level => 12
  | .sensor .anemo => 13
  | .overhead => 14
  | .vanMoved => 15
  | .attitude => 16
  | .windStow => 17

def Warnings.toByte (w : Warnings) : Byte :=
  BitVec.ofNat 8 ((if w.clamped then 1 else 0) + (if w.ceilingLimited then 2 else 0) +
    (if w.elevClamped then 4 else 0) + (if w.rangeFar then 8 else 0) + (if w.edge then 16 else 0))

/-- Reset cause code (R168). -/
def resetCauseCode : ResetCause → Nat
  | .powerOn => 1
  | .brownOut => 2
  | .external => 3

/-- A site as a byte, 255 for NONE. -/
def siteByte : Option (Fin 32) → Nat
  | none => 255
  | some n => n.val

/-- A bit mask of slots. -/
def slotMask (l : List Slot) : Nat :=
  (allSlots.filter (fun n => l.contains n)).foldl (fun acc n => acc + 2 ^ n.val) 0

end Sys2Proof.Machine
end

