-- ==== Sys2Proof/Machine/Operands.lean ====
section
/-! DEFINITION. The operands of the commands: the value of a register write, and the records of common memory (slot
and arguments, site record, limits record, stance package), read and written by the layouts of 10.2, with the clamps
and range checks their rules give. -/
namespace Sys2Proof.Machine

/-- The word that a host write to a register acts as: a byte write acts as a word write of its eight bits with the
other half zero (R161). -/
def portValue : PortWrite → Word16
  | .word v => v
  | .lowByte v => v.zeroExtend 16
  | .highByte v => v.zeroExtend 16 <<< 8

/-- A value brought to the nearer end of a range. -/
def clampNat (lo hi v : Nat) : Nat := if v < lo then lo else if hi < v then hi else v

/-- A value brought to the nearer end of a range. -/
def clampInt (lo hi v : Int) : Int := if v < lo then lo else if hi < v then hi else v

/-! ## Command slots (10.2) -/

def slotAddr (n : Slot) : Nat := Config.slotBase + 64 * n.val

/-- The address of an argument byte. -/
def argAddr (n : Slot) (off : Nat) : Nat := slotAddr n + 8 + off

def slotOwner (m : Memory) (n : Slot) : Nat := readU8 m (slotAddr n)

def slotKind (m : Memory) (n : Slot) : Nat := readU8 m (slotAddr n + 1)

/-- How many argument bytes a kind uses (10.2, Arguments). -/
def argBytes : Kind → Nat
  | .raise => 2
  | .lower => 2
  | .stow => 0
  | .aim => 2
  | .peak => 0
  | .point => 6
  | .halt => 0
  | .swap => 1
  | .setFix => 16
  | .setLimits => 32
  | .clearFault => 0
  | .standby => 0
  | .recoverHold => 0

/-- The reserved argument bits inside the bytes a kind uses: AIM flags, SET_FIX +1, limits record +7 (R157). -/
def argReservedZero (m : Memory) (n : Slot) : Kind → Bool
  | .aim => readU8 m (argAddr n 1) < 4
  | .setFix => readU8 m (argAddr n 1) == 0
  | .setLimits => readU8 m (argAddr n 7) == 0
  | _ => true

/-- The record check of a take (R157, step 3). -/
def recordOk (m : Memory) (n : Slot) (k : Kind) : Bool :=
  slotOwner m n < 2 && (zeroBytes m (slotAddr n + 6) 2 &&
    (zeroBytes m (argAddr n (argBytes k)) (32 - argBytes k) && argReservedZero m n k))

/-! ## Site records (R28, R29) -/

structure SiteRecord where
  inUse : Nat
  revision : Nat
  east : Int
  north : Int
  altitude : Int
  polarisation : Int
  lockFloor : Int
  reservedZero : Bool
  deriving DecidableEq, Repr

def siteAddr (n : Nat) : Nat := Config.siteBase + 64 * n

/-- The site record as it stands in common memory; the name is not examined (R28). -/
def readSite (m : Memory) (n : Nat) : SiteRecord where
  inUse := readU8 m (siteAddr n)
  revision := readU8 m (siteAddr n + 1)
  east := readS32 m (siteAddr n + 4)
  north := readS32 m (siteAddr n + 8)
  altitude := readS32 m (siteAddr n + 12)
  polarisation := readS16 m (siteAddr n + 16)
  lockFloor := readS16 m (siteAddr n + 18)
  reservedZero := zeroBytes m (siteAddr n + 2) 2 && (zeroBytes m (siteAddr n + 20) 12 && zeroBytes m (siteAddr n + 48) 16)

/-- A value within a closed range. -/
def within (lo hi v : Int) : Bool := decide (lo ≤ v) && decide (v ≤ hi)

/-- An acceptable site record (R29). -/
def SiteRecord.acceptable (r : SiteRecord) : Bool :=
  r.inUse == 1 && (within (-2000000) 2000000 r.east && (within (-2000000) 2000000 r.north &&
    (within (-5000) 90000 r.altitude && (within (-9000) 9000 r.polarisation &&
      (within (-1000) (-200) r.lockFloor && r.reservedZero)))))

/-! ## The fix record of SET_FIX (R30, R31) -/

/-- The fix in the argument area (10.2): datum, heading, east, north, ground altitude. -/
def readFix (m : Memory) (n : Slot) : Fix where
  datum := readU8 m (argAddr n 0)
  heading := readU16 m (argAddr n 2)
  east := readS32 m (argAddr n 4)
  north := readS32 m (argAddr n 8)
  ground := readS32 m (argAddr n 12)

/-- The ranges of R31. -/
def Fix.acceptable (f : Fix) : Bool :=
  within (-2000000) 2000000 f.east && (within (-2000000) 2000000 f.north &&
    (within (-5000) 60000 f.ground && within 0 35999 f.heading))

/-! ## The limits record (10.2) -/

/-- A limits record as it stands from an address up. -/
def readLimits (m : Memory) (a : Nat) : Limits where
  initialStep := readU8 m a
  minStep := readU8 m (a + 1)
  threshold := readU8 m (a + 2)
  probeLimit := readU8 m (a + 3)
  watchDrop := readU8 m (a + 4)
  anemoK := readU8 m (a + 5)
  budget := readU8 m (a + 6)
  settle := readU16 m (a + 8)
  t1 := readU16 m (a + 10)
  t2 := readU16 m (a + 12)
  t3 := readU16 m (a + 14)
  c0 := readU16 m (a + 16)
  c1 := readU16 m (a + 18)
  c2 := readU16 m (a + 20)
  residency := readU16 m (a + 22)
  roof := readU16 m (a + 24)
  alarmPeriod := readU16 m (a + 26)
  alarmOn := readU16 m (a + 28)
  telemPeriod := readU16 m (a + 30)

/-- The 32 bytes of a limits record, the reserved byte zero. -/
def limitsBytes (l : Limits) : List Byte :=
  leBytes 1 l.initialStep ++ leBytes 1 l.minStep ++ leBytes 1 l.threshold ++ leBytes 1 l.probeLimit ++
  leBytes 1 l.watchDrop ++ leBytes 1 l.anemoK ++ leBytes 1 l.budget ++ leBytes 1 0 ++
  leBytes 2 l.settle ++ leBytes 2 l.t1 ++ leBytes 2 l.t2 ++ leBytes 2 l.t3 ++ leBytes 2 l.c0 ++ leBytes 2 l.c1 ++
  leBytes 2 l.c2 ++ leBytes 2 l.residency ++ leBytes 2 l.roof ++ leBytes 2 l.alarmPeriod ++ leBytes 2 l.alarmOn ++
  leBytes 2 l.telemPeriod

/-- Each field brought within its range (R65, R116, R134 step 1, R38, R151, R163); an alarm-on at or above the period
is then half the period (R151). -/
def clampRanges (l : Limits) : Limits :=
  let period := clampNat 200 2000 l.alarmPeriod
  let on := clampNat 50 1950 l.alarmOn
  { initialStep := clampNat 10 100 l.initialStep
    minStep := clampNat 1 20 l.minStep
    threshold := clampNat 1 20 l.threshold
    probeLimit := clampNat 8 80 l.probeLimit
    watchDrop := clampNat 10 100 l.watchDrop
    anemoK := clampNat 1 50 l.anemoK
    budget := clampNat 25 60 l.budget
    settle := clampNat 100 1000 l.settle
    t1 := clampNat 1 999 l.t1
    t2 := clampNat 1 999 l.t2
    t3 := clampNat 1 999 l.t3
    c0 := clampNat 0 15000 l.c0
    c1 := clampNat 0 15000 l.c1
    c2 := clampNat 0 15000 l.c2
    residency := clampNat 60 3600 l.residency
    roof := clampNat 1500 5000 l.roof
    alarmPeriod := period
    alarmOn := if period ≤ on then period / 2 else on
    telemPeriod := clampNat 100 2000 l.telemPeriod }

/-- The fleet-lock clamp (R134, step 2): a wind field beyond its bound takes its default. -/
def clampFleet (l : Limits) : Limits :=
  { l with
    t1 := min l.t1 100
    t2 := min l.t2 150
    t3 := min l.t3 200
    c0 := min l.c0 15000
    c1 := min l.c1 10000
    c2 := min l.c2 5000
    residency := max l.residency 600 }

/-- The values a SET_LIMITS would put in force. -/
def formLimits (fleet : Bool) (l : Limits) : Limits :=
  if fleet then clampFleet (clampRanges l) else clampRanges l

/-- The order tests of R134, on the values formed. -/
def Limits.ordered (l : Limits) : Bool :=
  decide (l.t1 < l.t2) && (decide (l.t2 < l.t3) && (decide (l.c1 ≤ l.c0) && decide (l.c2 ≤ l.c1)))

/-- Whether a SET_LIMITS record is refused as a whole (R164, step 1): the steps as written, the wind fields as formed. -/
def limitsRefused (fleet : Bool) (l : Limits) : Bool :=
  decide (l.initialStep < l.minStep) || !(formLimits fleet l).ordered

/-! ## Stance packages (R81, 10.2) -/

def packageAddr (n : Nat) : Nat := Config.packageBase + 128 * n

def readPackage (m : Memory) (n : Nat) : Package :=
  let a := packageAddr n
  { state := readU8 m a
    site := readU8 m (a + 1)
    dishGoal := readU8 m (a + 2)
    peakAfter := readU8 m (a + 3)
    watch := readU8 m (a + 4)
    peakPending := readU8 m (a + 5)
    trimValid := readU8 m (a + 6)
    mastGoal := readU16 m (a + 8)
    point := ⟨readS16 m (a + 10), readS16 m (a + 12), readS16 m (a + 14)⟩
    trimPan := readS16 m (a + 16)
    trimTilt := readS16 m (a + 18)
    peak := readS16 m (a + 20)
    heading := readU16 m (a + 22)
    east := readS32 m (a + 24)
    north := readS32 m (a + 28)
    datum := readU8 m (a + 32)
    savedAt := readU16 m (a + 34)
    reservedZero := zeroBytes m (a + 7) 1 && (zeroBytes m (a + 33) 1 && zeroBytes m (a + 36) 92) }

/-- The dish goal code of a package (10.2). -/
def goalCode : DishGoal → Nat
  | .none => 0
  | .stow => 1
  | .site => 2
  | .point _ => 3

/-- The POINT values of a dish goal, zero for any other goal (R81, R89). -/
def goalPoint : DishGoal → Targets
  | .point t => t
  | _ => Targets.zero

/-- The 128 bytes of a SAVED package holding a stance, a trim block and the fix generation (R89). -/
def packageBytes (st : Stance) (t : Trim) (savedAt : Nat) : List Byte :=
  padBytes 128 (
    leBytes 1 2 ++ leBytes 1 (siteByte st.site) ++ leBytes 1 (goalCode st.dishGoal) ++ flagByte st.peakAfter ++
    flagByte st.watch ++ flagByte st.peakPending ++ flagByte t.valid ++ leBytes 1 0 ++ le16 st.mastGoal ++
    le16 (goalPoint st.dishGoal).pan ++ le16 (goalPoint st.dishGoal).tilt ++ le16 (goalPoint st.dishGoal).pol ++
    le16 t.pan ++ le16 t.tilt ++ le16 t.peak ++ le16 t.heading ++ le32 t.east ++ le32 t.north ++
    leBytes 1 t.datum ++ leBytes 1 0 ++ leBytes 2 savedAt)

/-- A flag byte that is 0 or 1. -/
def isFlag (n : Nat) : Bool := decide (n < 2)

/-- The POINT values of a package within travel, or zero without a POINT goal (R83, condition 6). -/
def Package.pointOk (p : Package) : Bool :=
  if p.dishGoal = 3 then
    within (-27000) 27000 p.point.pan && (within (-9000) 3000 p.point.tilt && within (-9000) 9000 p.point.pol)
  else p.point == Targets.zero

/-- The trim fields of a package in range, looked at only when trim valid is 1 (R83, condition 9). -/
def Package.trimOk (p : Package) : Bool :=
  p.trimValid != 1 ||
    (within (-300) 300 p.trimPan && (within (-300) 300 p.trimTilt && (within (-1000) (-200) p.peak &&
      (within (-2000000) 2000000 p.east && (within (-2000000) 2000000 p.north && decide (p.heading ≤ 35999))))))

/-- The package validity check (R83). -/
def Package.valid (p : Package) : Bool :=
  (p.state == 1 || p.state == 2) &&
  (p.reservedZero &&
  ((decide (p.site < 32) || p.site == 255) &&
  (decide (p.mastGoal ≤ 15000) &&
  (decide (p.dishGoal < 4) &&
  (p.pointOk &&
  (isFlag p.peakAfter && (isFlag p.watch && (isFlag p.peakPending && (isFlag p.trimValid &&
  ((p.peakPending == 0 || p.dishGoal == 2) &&
  (p.trimOk &&
  ((decide (p.dishGoal < 2) || decide (1500 ≤ p.mastGoal)) &&
  (p.dishGoal != 2 || p.site != 255)))))))))))))

/-- A site byte as a site, NONE for any value that is no site. -/
def siteOfByte (n : Nat) : Option (Fin 32) := if h : n < 32 then some ⟨n, h⟩ else none

/-- The stance a package holds (R90, step 1). -/
def Package.stance (p : Package) : Stance where
  site := siteOfByte p.site
  mastGoal := p.mastGoal
  dishGoal := match p.dishGoal with
    | 1 => .stow
    | 2 => .site
    | 3 => .point p.point
    | _ => .none
  peakAfter := p.peakAfter == 1
  watch := p.watch == 1
  peakPending := p.peakPending == 1

/-- The trim block a package carries (R59). -/
def Package.trim (p : Package) : Trim where
  valid := p.trimValid == 1
  pan := p.trimPan
  tilt := p.trimTilt
  peak := p.peak
  datum := p.datum
  east := p.east
  north := p.north
  heading := p.heading

end Sys2Proof.Machine
end

