-- ==== Sys2Proof/Machine/Flags.lean ====
section
/-! DEFINITION. What is read from the state and not stored: positions and rest, the effective ceiling, the effective
mast target, interlock and trigger conditions, STATUS, IRQ and the drive outputs. -/
namespace Sys2Proof.Machine

/-! ## Axes (R96, R97) -/

/-- Axis tolerance (R96). -/
def tolerance : Axis → Int
  | .mast => 20
  | .pan => 3
  | .tilt => 3
  | .pol => 20

/-- The ends of an axis's travel (R96). -/
def travelLow : Axis → Int
  | .mast => 0
  | .pan => -27000
  | .tilt => -9000
  | .pol => -9000

def travelHigh : Axis → Int
  | .mast => 15000
  | .pan => 27000
  | .tilt => 3000
  | .pol => 9000

/-- The draw of a move: for the mast by its direction (R96). -/
def drawOf (a : Axis) (up : Bool) : Nat :=
  match a with
  | .mast => if up then 25 else 2
  | .pan => 8
  | .tilt => 8
  | .pol => 3

/-- The rate of a move, in mm/s or cdeg/s (R96). -/
def rateOf (a : Axis) (up : Bool) : Nat :=
  match a with
  | .mast => if up then 150 else 200
  | .pan => 600
  | .tilt => 300
  | .pol => 900

/-- Absolute difference. -/
def dist (a b : Int) : Nat := (a - b).natAbs

/-- Whether a target lies within the axis's tolerance of a position. -/
def near (a : Axis) (target position : Int) : Bool := decide ((dist target position : Int) ≤ tolerance a)

/-- A deadline in tenths of a second: 1.5 times the distance over the rate, plus 3 s, rounded up (R102). -/
def deadlineTenths (distance rate : Nat) : Nat := (distance * 15 + (rate - 1)) / rate + 30

/-- An axis has a move in progress (R97). -/
def AxisState.inMove (x : AxisState) : Bool :=
  match x.phase with
  | .atRest => false
  | .faulted => false
  | .waiting => true
  | .releasing => true
  | .driving => true
  | .stopping => true
  | .engaging => true

/-- The mast extension: the last valid reading of the mast encoder (R97, R109). -/
def extension (s : State) : Int := s.axes.mast.position

/-- No dish axis has a move in progress (R6). -/
def dishAtRest (s : State) : Bool := !s.axes.pan.inMove && (!s.axes.tilt.inMove && !s.axes.pol.inMove)

/-- The mast has no move in progress (R97); a FAULTED mast has none, and counts as at rest (log 44). -/
def mastAtRest (s : State) : Bool := !s.axes.mast.inMove

/-- The dish is in the stow window (R5). -/
def inWindow (s : State) : Bool :=
  (s.axes.pan.encValid && within (-100) 100 s.axes.pan.position) &&
  ((s.axes.tilt.encValid && decide (s.axes.tilt.position ≤ -8900)) &&
  (s.axes.pol.encValid && within (-200) 200 s.axes.pol.position))

/-- Every dish axis is within its tolerance of the given targets. -/
def dishNear (s : State) (t : Targets) : Bool :=
  near .pan t.pan s.axes.pan.position &&
    (near .tilt t.tilt s.axes.tilt.position && near .pol t.pol s.axes.pol.position)

/-- Every dish axis is within its tolerance of its own target. -/
def dishOnTargets (s : State) : Bool :=
  dishNear s ⟨s.axes.pan.target, s.axes.tilt.target, s.axes.pol.target⟩

/-- The stow targets (R5). -/
def stowTargets : Targets := ⟨Config.stowPan, Config.stowTilt, Config.stowPol⟩

/-- NESTED or HELD, by the extension (R4). -/
def restingMast (s : State) : MastState := if extension s ≤ Config.nestedLimit then .nested else .held

/-- STOWED or PARKED, by the stow window (R6). -/
def restingDish (s : State) : DishState := if inWindow s then .stowed else .parked

/-! ## Drive current (R118) -/

/-- The current in use: the sum of the draws in the grant set. -/
def currentInUse (s : State) : Nat := (s.arb.grants.map (·.draw)).sum

/-- The draw an axis holds by its grant. -/
def grantedDraw (s : State) (a : Axis) : Option Nat := (s.arb.grants.find? (fun g => g.axis == a)).map (·.draw)

/-! ## Wind (R126) -/

/-- The band of a wind figure: how many thresholds are at or below it. -/
def bandOf (l : Limits) (figure : Nat) : Nat :=
  (if l.t1 ≤ figure then 1 else 0) + (if l.t2 ≤ figure then 1 else 0) + (if l.t3 ≤ figure then 1 else 0)

/-- The ceiling of a band. -/
def bandCeiling (l : Limits) : Nat → Nat
  | 0 => l.c0
  | 1 => l.c1
  | 2 => l.c2
  | _ => 0

/-- The effective ceiling: a ceiling below the nest height is reported as 0. -/
def effCeiling (s : State) : Int :=
  let c := bandCeiling s.limits s.wind.band
  if c < 1500 then 0 else c

/-! ## Effective mast target (R8) -/

/-- A mode in which the module drives its stance (R8, R88). -/
def drivingMode (s : State) : Bool :=
  match s.ctl.mode with
  | .starting => false
  | .standby => false
  | .halted => false
  | .recovery => true
  | .normal => true
  | .forcedStow => true

/-- The lesser of the two claims on the height. -/
def lesserClaim (s : State) : Int := min s.stance.mastGoal (effCeiling s)

/-- The nest floor: the nest height, or the extension of a mast already below it. -/
def nestFloor (s : State) : Int := if Config.nestHeight ≤ extension s then Config.nestHeight else extension s

/-- Whether the nest floor raises the target (R8, held at the nest). -/
def heldAtNest (s : State) : Bool :=
  drivingMode s && (!inWindow s && (decide (lesserClaim s < Config.nestHeight) && decide (lesserClaim s < nestFloor s)))

/-- The effective mast target. -/
def effectiveTarget (s : State) : Int :=
  if drivingMode s then (if heldAtNest s then nestFloor s else lesserClaim s) else s.stance.mastGoal

/-! ## What may be issued (R10, R27, R88) -/

/-- The Stance Controller issues axis targets: a driving mode, HOLD_LINE released, no exchange in its quiesce. -/
def canIssue (s : State) : Bool := drivingMode s && (!s.ilk.lines.hold && s.swap.phase == .idle)

/-- The conditions of an upward mast target (R10). -/
def upwardAllowed (s : State) : Bool :=
  s.ctl.mode == .normal && (s.ilk.lines.park && (!s.ilk.lines.overhead && (!s.ilk.faults.contains .overhead &&
    !s.ilk.lines.hold)))

/-- Priority of the moves issued now (R98, R146). -/
def movePriority (s : State) : Priority := if s.ctl.mode = .forcedStow then .forcedStow else .ordinary

/-- The interlock conditions of RAISE (R15, step 1). -/
def raiseInterlock (s : State) : Bool :=
  !s.ilk.lines.park || (s.ilk.lines.overhead || (s.ilk.faults.contains .overhead ||
    (decide (Config.raiseAttitude < s.ilk.pitch.natAbs) || (decide (Config.raiseAttitude < s.ilk.roll.natAbs) ||
      (s.ilk.faults.contains (.sensor .incl) || (effCeiling s == 0 || s.wind.priming))))))

/-! ## Forced-stow triggers (R143) -/

/-- The module is stowed at rest: mast NESTED and dish STOWED. -/
def stowedAtRest (s : State) : Bool := s.ctl.mastState == .nested && s.ctl.dishState == .stowed

def triggerConditions (s : State) : Triggers where
  vanMoved := !s.ilk.lines.park && !stowedAtRest s
  attitude := (decide (Config.stowAttitude < s.ilk.pitch.natAbs) || decide (Config.stowAttitude < s.ilk.roll.natAbs)) &&
    decide (Config.nestHeight < extension s)
  windStow := effCeiling s == 0
  stowLine := s.ilk.lines.stow

/-! ## Encoders and inclinometer (R97, R109, R138, R166, R171) -/

/-- The encoders and the inclinometer are off: before the end of SETTLE, and in standby until the wake. -/
def sensorsOff (s : State) : Bool :=
  s.power.phase == .settle || (s.ctl.mode == .standby && s.power.standby != .waking)

/-- WARM_UP or the wake warm-up, in which a loss reports nothing: the end of the phase decides the fault. -/
def sensorsWarming (s : State) : Bool := s.power.phase == .warmUp || s.power.standby == .waking

/-! ## Fault set (R141) -/

/-- The axis that an axis-class fault holds in FAULTED (R141). -/
def FaultId.axisOf : FaultId → Option Axis
  | .stall a => some a
  | .limit a => some a
  | .sensor (.axis a) => some a
  | .sensor .incl => none
  | .sensor .level => none
  | .sensor .anemo => none
  | .overhead => none
  | .vanMoved => none
  | .attitude => none
  | .windStow => none

/-- Whether the set holds an axis-class fault. -/
def anyAxisFault (fs : List FaultId) : Bool := fs.any (fun f => f.axisOf.isSome)

/-- Whether the set holds an axis-class fault of the axis. -/
def axisHasFault (fs : List FaultId) (a : Axis) : Bool := fs.any (fun f => f.axisOf == some a)

/-- Whether a limit switch of the axis is tripped (R108, R149). -/
def anyTripped (x : Switches) : Axis → Bool
  | .mast => x.mastTop
  | .pan => x.panPlus || x.panMinus
  | .tilt => x.tiltUp || x.tiltDown
  | .pol => false

/-- The level is lost (R62). -/
def levelLost (s : State) : Bool := decide (3 ≤ s.level.invalidRun)

/-- The removal condition of a fault (R149): its cause is gone. -/
def removable (s : State) : FaultId → Bool
  | .vanMoved => s.ilk.lines.park
  | .attitude => decide ((s.ilk.pitch.natAbs : Int) ≤ Config.raiseAttitude) &&
      decide ((s.ilk.roll.natAbs : Int) ≤ Config.raiseAttitude)
  | .overhead => !s.ilk.lines.overhead
  | .windStow => decide (0 < effCeiling s)
  | .sensor (.axis a) => (s.axis a).encValid
  | .sensor .incl => s.ilk.inclValid
  | .sensor .level => !levelLost s
  | .sensor .anemo => s.wind.anemoOk
  | .stall _ => true
  | .limit a => !anyTripped s.axes.tripped a

/-! ## Registers (R160, R161) -/

def boolBit (b : Bool) (n : Nat) : Nat := if b then 2 ^ n else 0

/-- STATUS (R160). -/
def statusWord (s : State) : Word16 :=
  BitVec.ofNat 16 (boolBit s.power.ready 0 + 2 * s.ctl.mode.toNat + boolBit (s.power.standby == .asleep) 4 +
    32 * resetCauseCode s.power.cause + boolBit s.power.mastUpAtReset 7 + boolBit (!s.ilk.faults.isEmpty) 8 +
    boolBit (s.swap.phase == .quiesce) 9 + 1024 * s.board.intake.length)

/-- IRQ (R161). -/
def irq (s : State) : Bool :=
  (s.board.control.getLsbD 0 && (s.board.notice &&& 0x00FF#16) != 0#16) ||
  ((s.board.control.getLsbD 1 && s.board.notice.getLsbD 8) ||
  ((s.board.control.getLsbD 2 && s.board.notice.getLsbD 9) ||
  (s.board.control.getLsbD 3 && s.board.notice.getLsbD 10)))

/-- What a 16-bit read of the port gives: common memory, the registers, and 0 above them (R154, R156, R160, R161). At an
odd offset the manual gives no reading; here it is the two bytes of common memory from there on, and 0 among the
registers (log 7). -/
def readPort (s : State) (offset : Nat) : Word16 :=
  if offset < Config.memorySize then BitVec.ofNat 16 (readU16 s.mem offset)
  else if offset = 0x8000 then statusWord s
  else if offset = 0x8002 then s.board.control
  else if offset = 0x8006 then s.board.notice
  else 0

/-! ## Drive outputs (R97, R99, R105, R106) -/

/-- A dish brake is powered open: while driving, and in a controlled stop until standstill (R97). -/
def brakeReleased (x : AxisState) : Bool :=
  match x.phase with
  | .driving => true
  | .stopping => x.stop == some .controlled
  | _ => false

/-- A dish motor is powered: as its brake is open (R105, R106). -/
def motorOn (x : AxisState) : Bool := brakeReleased x

/-- The mast drives toward a target: it is in DRIVING and has not arrived (R99, R100). -/
def mastDriven (s : State) : Bool := s.axes.mast.phase == .driving && !s.axes.mast.arrived

/-- The compressor runs while the mast is driven up (R99). -/
def compressorOn (s : State) : Bool := mastDriven s && decide (extension s < s.axes.mast.target)

/-- The vent is open while the mast is driven down (R99). -/
def ventOpen (s : State) : Bool := mastDriven s && decide (s.axes.mast.target < extension s)

/-- The mast lock is powered open (R97, R99). -/
def lockPowered (s : State) : Bool := s.axes.lock == .releasing || s.axes.lock == .released

end Sys2Proof.Machine
end

