-- ==== Sys2Proof/Machine/Pointing.lean ====
section
/-! DEFINITION. The pointing computation (R37 to R41). The manual takes every quantity as an exact real number until
the step that rounds it; here a real is an integer count of 2^-320, every function is summed to that precision, and a
value within 2^-240 of a tie is taken as the tie (log 9). -/
namespace Sys2Proof.Machine

/-! ## Fixed-point reals -/

/-- One, in units of 2^-320. -/
def fxOne : Nat := 2 ^ 160 * 2 ^ 160

/-- How near to a tie counts as the tie: 2^-240. -/
def fxSnap : Nat := 2 ^ 80

/-- Newton's iteration for the integer square root, from above. -/
def isqrtLoop : Nat → Nat → Nat → Nat
  | 0, _, x => x
  | k + 1, n, x =>
    let y := (x + n / x) / 2
    if y < x then isqrtLoop k n y else x

/-- The integer square root. -/
def isqrt (n : Nat) : Nat := if n = 0 then 0 else isqrtLoop 32 n (2 ^ (Nat.log2 n / 2 + 1))

/-- Alternating sum of `x^(2k+1) / (2k+1)`: `pow` is the present odd power, `sq` the square of `x`. -/
def atanSeries : Nat → Nat → Nat → Nat → Int → Int
  | 0, _, _, _, acc => acc
  | k + 1, n, pow, sq, acc =>
    let acc := if n % 4 = 1 then acc + ((pow / n : Nat) : Int) else acc - ((pow / n : Nat) : Int)
    atanSeries k (n + 2) (pow * sq / fxOne) sq acc

/-- Arc tangent, in radians, of a number below 2^-8. -/
def atanSmall (x : Nat) : Nat := (atanSeries 22 1 x (x * x / fxOne) 0).toNat

/-- Halving the angle: `x / (1 + sqrt (1 + x^2))`. -/
def halveTan (x : Nat) : Nat := x * fxOne / (fxOne + isqrt (fxOne * fxOne + x * x))

def halveTanTimes : Nat → Nat → Nat
  | 0, x => x
  | k + 1, x => halveTanTimes k (halveTan x)

/-- Arc tangent, in radians, of a number from 0 to 1. -/
def atanUnit (x : Nat) : Nat := 256 * atanSmall (halveTanTimes 8 x)

/-- The sum of the arc tangent series of 1/q. -/
def atanInverse : Nat → Nat → Nat → Nat → Int → Int
  | 0, _, _, _, acc => acc
  | k + 1, n, pow, q2, acc =>
    let acc := if n % 4 = 1 then acc + ((pow / n : Nat) : Int) else acc - ((pow / n : Nat) : Int)
    atanInverse k (n + 2) (pow / q2) q2 acc

/-- Pi, by Machin's formula. -/
def fxPi : Nat :=
  (16 * atanInverse 80 1 (fxOne / 5) 25 0 - 4 * atanInverse 30 1 (fxOne / 239) 57121 0).toNat

/-- Radians to centidegrees. -/
def toCdeg (r : Nat) : Nat := r * 18000 * fxOne / fxPi

/-- The sum of the exponential series of `x`, split into sine and cosine: `n` terms so far, `t` the present term. -/
def sinCosSeries : Nat → Nat → Nat → Nat → Int → Int → Int × Int
  | 0, _, _, _, sn, cs => (sn, cs)
  | k + 1, n, x, t, sn, cs =>
    let sn := if n % 4 = 1 then sn + (t : Int) else if n % 4 = 3 then sn - (t : Int) else sn
    let cs := if n % 4 = 0 then cs + (t : Int) else if n % 4 = 2 then cs - (t : Int) else cs
    sinCosSeries k (n + 1) x (t * x / (fxOne * (n + 1))) sn cs

/-- Sine and cosine of an angle from 0 to 35,999 cdeg. -/
def sinCos (cdeg : Nat) : Int × Int := sinCosSeries 136 0 (cdeg * fxPi / 18000) fxOne 0 0

/-- Rounding to the nearest integer, ties away from zero (2.5). -/
def fxRound (v : Int) : Int :=
  let m : Nat := (2 * v.natAbs + fxOne + 2 * fxSnap) / (2 * fxOne)
  if v < 0 then -(m : Int) else m

/-! ## Range and bearing (R37) -/

/-- The square of the horizontal distance. -/
def distSquare (dE dN : Int) : Nat := dE.natAbs * dE.natAbs + dN.natAbs * dN.natAbs

/-- The reported range: the distance rounded to the nearest metre. -/
def reportedRange (dE dN : Int) : Nat := (isqrt (4 * distSquare dE dN) + 1) / 2

/-- 100·B, from 0 to below 36,000. -/
def bearing100 (dE dN : Int) : Int :=
  let x := dE.natAbs
  let y := dN.natAbs
  let phi : Int :=
    if x ≤ y then (toCdeg (atanUnit (x * fxOne / y)) : Int)
    else ((9000 * fxOne : Nat) : Int) - (toCdeg (atanUnit (y * fxOne / x)) : Int)
  if 0 ≤ dE then (if 0 ≤ dN then phi else ((18000 * fxOne : Nat) : Int) - phi)
  else (if 0 ≤ dN then ((36000 * fxOne : Nat) : Int) - phi else ((18000 * fxOne : Nat) : Int) + phi)

/-- The reported bearing; 36,000 is reported as 0. -/
def reportedBearing (dE dN : Int) : Int := fxRound (bearing100 dE dN) % 36000

/-! ## Elevation (R38) -/

/-- The net rise N times 17,000,000, an exact integer: altitudes in dm, heights in mm. -/
def netRise (altitude ground roof eff : Int) (dSquare : Nat) : Int :=
  17000 * (altitude * 100 - (ground * 100 + roof + eff)) - (dSquare : Int)

/-- The horizontal distance D. -/
def fxDistance (dSquare : Nat) : Nat := isqrt (dSquare * (fxOne * fxOne))

/-- tan E: N over D. -/
def tanElevation (rise : Int) (dSquare : Nat) : Int :=
  rise * ((fxOne * fxOne : Nat) : Int) / ((17000000 * fxDistance dSquare : Nat) : Int)

/-- 100·E. -/
def elevation100 (rise : Int) (dSquare : Nat) : Int :=
  let t := (tanElevation rise dSquare).natAbs
  let mag : Int :=
    if t ≤ fxOne then (toCdeg (atanUnit t) : Int)
    else ((9000 * fxOne : Nat) : Int) - (toCdeg (atanUnit (fxOne * fxOne / t)) : Int)
  if rise < 0 then -mag else mag

/-! ## Attitude (R39) -/

/-- The relative pan, above -18,000 and up to +18,000. -/
def relativePan (b100 heading : Int) : Int :=
  let v := b100 - heading * (fxOne : Int)
  if ((18000 * fxOne + fxSnap : Nat) : Int) < v then v - ((36000 * fxOne : Nat) : Int)
  else if v ≤ ((fxSnap : Nat) : Int) - ((18000 * fxOne : Nat) : Int) then v + ((36000 * fxOne : Nat) : Int)
  else v

/-- The untrimmed solution and the reported values (R37 to R40). -/
def solve (r : SiteRecord) (f : Fix) (pitch roll : Int) (roof eff : Int) : Solution :=
  let dE := r.east - f.east
  let dN := r.north - f.north
  let n := distSquare dE dN
  let d : Int := fxDistance n
  let one : Int := fxOne
  let b100 := bearing100 dE dN
  let rise := netRise r.altitude f.ground roof eff n
  let t := tanElevation rise n
  let e100 := elevation100 rise n
  let prel := relativePan b100 f.heading
  let sc := sinCos f.heading.toNat
  let sn := (dE * sc.2 - dN * sc.1) * one / d
  let cs := (dN * sc.2 + dE * sc.1) * one / d
  let cross := pitch * sn + roll * cs
  { pan := fxRound (prel - t * cross / one)
    tilt := fxRound (e100 - pitch * cs + roll * sn)
    pol := fxRound (r.polarisation * one - cross)
    bearing := reportedBearing dE dN
    elevation := fxRound e100
    range := reportedRange dE dN
    rangeFar := decide (80000 < reportedRange dE dN) }

/-! ## Targets (R40, R41) -/

/-- A pan brought above -18,000 and up to +18,000 (R40, step 1). -/
def foldPan (p : Int) : Int := (p + 17999) % 36000 - 17999

/-- A polarisation brought above -9,000 and up to +9,000 (R40, step 3). -/
def foldPol (q : Int) : Int := (q + 8999) % 18000 - 8999

/-- The other way to reach a pan, a full turn apart, when it lies within the travel (R41). -/
def otherWay (p : Int) : Option Int :=
  if p ≤ -9000 then some (p + 36000) else if 9000 ≤ p then some (p - 36000) else none

/-- The cable-wrap choice: the candidate nearest the present pan, then the smaller magnitude, then `p` (R41). -/
def wrapPan (p present : Int) : Int :=
  match otherWay p with
  | none => p
  | some q =>
    if dist q present < dist p present then q
    else if dist q present = dist p present ∧ q.natAbs < p.natAbs then q
    else p

/-- The tilt before the clamp (R40, step 2). -/
def trialTilt (sol : Solution) (trimTilt : Int) : Int := sol.tilt + trimTilt

/-- A tilt within the aim range (R40). -/
def inAimRange (t : Int) : Bool := within Config.aimLow Config.aimHigh t

/-- The targets of a solution with trims, against the present pan position (R40, R41). Probe points are only visited
with their tilt inside the aim range, where the clamp changes nothing (R67, R68). -/
def deriveTargets (sol : Solution) (trimPan trimTilt present : Int) : Targets where
  pan := wrapPan (foldPan (sol.pan + trimPan)) present
  tilt := clampInt Config.aimLow Config.aimHigh (trialTilt sol trimTilt)
  pol := foldPol sol.pol

/-- Whether the clamp of the tilt changes it: ELEV_CLAMPED (R40). -/
def elevClamped (sol : Solution) (trimTilt : Int) : Bool := !inAimRange (trialTilt sol trimTilt)

end Sys2Proof.Machine
end

