-- ==== Sys2Proof/Machine/AxisDrive.lean ====
section
/-! DEFINITION. The Drive Budget Arbiter (R115 to R122) and the Axis Drives (R96 to R112): requests and grants, the
phases of a move, targets, stops and withdrawals. Nothing here acts on the stance: an axis function that finds a
limit switch tripped says so, and its caller reports the fault. -/
namespace Sys2Proof.Machine

/-! ## Arbiter -/

/-- Where a request joins the wait list (R117). -/
def joinList (r : Request) (l : List Request) : List Request :=
  match r.priority with
  | .ordinary => l ++ [r]
  | .forcedStow =>
    l.filter (fun q => q.priority == .forcedStow) ++ (r :: l.filter (fun q => q.priority == .ordinary))

/-- Place a request, before the grant check that follows. -/
def placeRequest (s : State) (r : Request) : State := s.withArb { s.arb with waits := joinList r s.arb.waits }

/-- Take an axis's request out of the wait list, before the grant check that follows (R121). -/
def dropRequest (s : State) (a : Axis) : State :=
  s.withArb { s.arb with waits := s.arb.waits.filter (fun q => q.axis != a) }

/-- Take an axis out of the grant set, before the grant check that follows (R119). -/
def dropGrant (s : State) (a : Axis) : State :=
  s.withArb { s.arb with grants := s.arb.grants.filter (fun g => g.axis != a) }

/-- Start a deadline from the present position (R102). -/
def AxisState.withDeadline (x : AxisState) (a : Axis) : AxisState :=
  { x with deadline := some (deadlineTenths (dist x.target x.position) (rateOf a (decide (x.position < x.target)))) }

/-- Enter DRIVING with a fresh deadline (R99, R102). -/
def AxisState.drive (x : AxisState) (a : Axis) : AxisState :=
  { x with phase := .driving, arrived := false, stop := none }.withDeadline a

/-- A granted axis starts its move (R99). -/
def startGranted (s : State) (a : Axis) : State :=
  match a with
  | .mast =>
    if s.axes.lock = .released then s.withAxis .mast (s.axes.mast.drive .mast)
    else (s.withAxis .mast { s.axes.mast with phase := .releasing, stop := none, arrived := false }).withLock .releasing
  | .pan => s.withAxis .pan (s.axes.pan.drive .pan)
  | .tilt => s.withAxis .tilt (s.axes.tilt.drive .tilt)
  | .pol => s.withAxis .pol (s.axes.pol.drive .pol)

/-- Grant the head of the wait list (R118). -/
def grantHead (s : State) (r : Request) (rest : List Request) : State :=
  startGranted (s.withArb { grants := s.arb.grants ++ [⟨r.axis, r.draw⟩], waits := rest }) r.axis

/-- The grant check over the heads of the wait list, strictly in its order (R118). -/
def grantLoop : List Request → State → State
  | [], s => s
  | r :: rest, s =>
    if currentInUse s + r.draw ≤ s.limits.budget then grantLoop rest (grantHead s r rest) else s

/-- The grant check (R118). -/
def grantCheck (s : State) : State := grantLoop s.arb.waits s

/-- Release an axis's grant, with its grant check (R119). -/
def releaseGrant (s : State) (a : Axis) : State := grantCheck (dropGrant s a)

/-! ## The end of a move -/

/-- The target lies toward a switch of the axis that is tripped (R108). -/
def towardTripped (s : State) (a : Axis) (target : Int) : Bool :=
  let up := decide ((s.axis a).position < target)
  let down := decide (target < (s.axis a).position)
  match a with
  | .mast => s.axes.tripped.mastTop && up
  | .pan => (s.axes.tripped.panPlus && up) || (s.axes.tripped.panMinus && down)
  | .tilt => (s.axes.tripped.tiltUp && up) || (s.axes.tripped.tiltDown && down)
  | .pol => false

/-- A target brought within the axis's travel (R96). -/
def clampTravel (a : Axis) (t : Int) : Int := clampInt (travelLow a) (travelHigh a) t

/-- The request an axis places for a target (R98). -/
def requestFor (s : State) (a : Axis) (target : Int) (p : Priority) : Request :=
  ⟨a, drawOf a (decide ((s.axis a).position < target)), p⟩

/-- A target given to an axis in AT_REST (R98, R108). The flag says that the axis found a limit switch tripped and
entered FAULTED. A target within tolerance asks for no move and finds no switch, one toward a tripped switch too: where
R98 and R108 both speak, R98 decides (DESIGN CHOICE, log 73). -/
def giveAtRest (s : State) (a : Axis) (target : Int) (p : Priority) : State × Bool :=
  let x := s.axis a
  if near a target x.position then (s.withAxis a { x with target := target }, false)
  else if towardTripped s a target then (s.withAxis a { x with target := target, phase := .faulted }, true)
  else
    let w := { x with
      target := target, phase := .waiting, arrived := false, stop := none, faultStop := false, next := none }
    (grantCheck (placeRequest (s.withAxis a w) (requestFor s a target p)), false)

/-- The target at the end of a move: after a stop, and where a target was recorded that is still to be taken, the
position (R105, R112). No rule replaces the target of an axis that enters FAULTED after a stop for its own fault. -/
def AxisState.endTarget (x : AxisState) : Int :=
  if x.faultStop then x.target else if x.stop.isSome || x.next.isSome then x.position else x.target

/-- The end of a move: the grant is released, and the axis enters FAULTED after a stop for its own fault, or AT_REST
(R101, R105, R110, R112). A target recorded meanwhile is taken by the Stance Controller's rules (takeRecorded). -/
def axisEnd (s : State) (a : Axis) : State :=
  let x := s.axis a
  releaseGrant (s.withAxis a { x with
    phase := if x.faultStop then .faulted else .atRest
    target := x.endTarget
    deadline := none
    arrived := false
    stop := none
    faultStop := false
    skidding := false
    next := none }) a

/-- The mast's lock starts to engage (R101, R105, R106). -/
def engageLock (s : State) (skidding : Bool) : State :=
  (s.withAxis .mast { s.axes.mast with phase := .engaging, deadline := none, skidding := skidding }).withLock .engaging

/-- A waiting axis withdraws its request and returns to AT_REST, its target its position; a mast whose lock is
RELEASED after a reversal engages it first, at once (R103, R107, log 45). The grant check follows. -/
def withdraw (s : State) (a : Axis) : State :=
  let x := s.axis a
  let s1 := dropRequest (s.withAxis a { x with
    phase := if x.faultStop then .faulted else .atRest
    target := x.position
    faultStop := false
    next := none }) a
  let s2 :=
    if a = .mast ∧ s.axes.lock = .released then
      engageLock (s1.withAxis a { s1.axis a with stop := some .controlled, faultStop := x.faultStop }) false
    else s1
  grantCheck s2

/-! ## Stops (R105, R106) -/

/-- An immediate stop (R106). `fault` says that it is made for the axis's own fault, so that it ends in FAULTED. An axis that
has arrived and awaits its standstill is still DRIVING, and stops so at the loss of its encoder (R109; DESIGN CHOICE beside
R114, log 77). -/
def immediateStop (s : State) (a : Axis) (fault : Bool) : State :=
  let x := s.axis a
  let marked := { x with faultStop := x.faultStop || fault, next := none }
  match x.phase with
  | .faulted => s
  | .atRest => if fault then s.withAxis a { x with phase := .faulted } else s
  | .waiting => withdraw (s.withAxis a marked) a
  | .releasing => releaseGrant (s.withAxis a { marked with stop := some .immediate }) a
  | .engaging => releaseGrant (s.withAxis a { marked with stop := some .immediate }) a
  | .driving | .stopping =>
    let stopped := { marked with deadline := none, arrived := false, stop := some .immediate }
    if a = .mast then
      releaseGrant (engageLock (s.withAxis a stopped) true) a
    else if x.phase = .stopping ∧ x.stop = some .immediate then s.withAxis a { marked with stop := some .immediate }
    else releaseGrant (s.withAxis a { stopped with phase := .stopping }) a

/-- A controlled stop of an axis that is not waiting (R105). In STOPPING and ENGAGING it has no further effect. -/
def controlledStop (s : State) (a : Axis) : State :=
  let x := s.axis a
  match x.phase with
  | .atRest => s
  | .faulted => s
  | .waiting => s
  | .releasing => s.withAxis a { x with stop := some (x.stop.getD .controlled), next := none }
  | .driving =>
    s.withAxis a { x with phase := .stopping, deadline := none, arrived := false, stop := some .controlled, next := none }
  | .stopping => s
  | .engaging => s

/-- Controlled stops of several axes in one event: the waiting requests are withdrawn first, then the moving axes
stopped (R105, R107, log 10). -/
def controlledStops (s : State) (l : List Axis) : State :=
  let waiting := l.filter (fun a => (s.axis a).phase == .waiting)
  let moving := l.filter (fun a => (s.axis a).phase != .waiting)
  let s1 := moving.foldl controlledStop s
  let s2 := waiting.foldl (fun t a => dropRequest (t.withAxis a { t.axis a with
    phase := .atRest, target := (t.axis a).position, next := none }) a) s1
  let s3 :=
    if waiting.contains .mast ∧ s.axes.lock = .released then
      engageLock (s2.withAxis .mast { s2.axes.mast with stop := some .controlled }) false
    else s2
  grantCheck s3

/-- HOLD_LINE at the axes (R112): every request is withdrawn and every grant released, then every moving axis makes
an immediate stop; a lock phase runs to its end. -/
def holdAxes (s : State) : State :=
  allAxes.foldl (fun t a => immediateStop t a false) (s.withArb ⟨[], []⟩)

/-! ## Targets given to an axis (R98, R103, R104, R108) -/

/-- The mast reverses (R104, R120): the grant is released, the new request placed, one grant check made. -/
def reverse (s : State) (target : Int) (p : Priority) : State :=
  let x := s.axes.mast
  let w := { x with target := target, phase := .waiting, deadline := none, arrived := false, stop := none }
  let s1 := dropGrant (s.withAxis .mast w) .mast
  grantCheck (placeRequest s1 (requestFor s .mast target p))

/-- A target given to a waiting axis (R103, R117). A request withdrawn for a new draw and the one placed for it have one
grant check between them (log 62). -/
def giveWaiting (s : State) (a : Axis) (target : Int) (p : Priority) : State :=
  let x := s.axis a
  if near a target x.position then withdraw s a
  else
    let s1 := s.withAxis a { x with target := target }
    let new := requestFor s a target p
    match s.arb.waits.find? (fun q => q.axis == a) with
    | none => s1
    | some old =>
      if old.draw ≠ new.draw then grantCheck (placeRequest (dropRequest s1 a) new)
      else if old.priority = .ordinary ∧ p = .forcedStow then grantCheck (placeRequest (dropRequest s1 a) new)
      else s1

/-- A target given to an axis in DRIVING (R103, R104). One within tolerance of the position is an arrival at once, and the
move ends at standstill (log 43). A mast that has arrived and awaits its standstill records the target, as it does in
ENGAGING (log 45). -/
def giveDriving (s : State) (a : Axis) (target : Int) (p : Priority) : State :=
  let x := s.axis a
  if a = .mast ∧ x.arrived then s.withAxis a { x with target := target, next := some (target, p) }
  else if near a target x.position then
    s.withAxis a { x with target := target, arrived := true, deadline := none }
  else if a = .mast ∧ grantedDraw s .mast ≠ some (drawOf .mast (decide (x.position < target))) then reverse s target p
  else s.withAxis a ({ x with target := target, arrived := false }.withDeadline a)

/-- A target given to an axis (R98, R103). The flag says that the axis found a limit switch tripped on the way
(R108) and stopped for it; its fault is still to be reported. A target within tolerance of the position finds no switch
(DESIGN CHOICE, log 73). In a lock release after which the mast is to stop, the stop stands and the target waits for the
end of the engage (log 45). -/
def axisGive (s : State) (a : Axis) (target0 : Int) (p : Priority) : State × Bool :=
  let target := clampTravel a target0
  let x := s.axis a
  let blocked := towardTripped s a target && !near a target x.position
  match x.phase with
  | .faulted => (s.withAxis a { x with target := target }, false)
  | .atRest => giveAtRest s a target p
  | .waiting =>
    if blocked then (immediateStop (s.withAxis a { x with target := target }) a true, true)
    else (giveWaiting s a target p, false)
  | .releasing =>
    if x.stop.isSome then (s.withAxis a { x with target := target, next := some (target, p) }, false)
    else if blocked then (immediateStop (s.withAxis a { x with target := target }) a true, true)
    else (s.withAxis a { x with target := target, next := some (target, p) }, false)
  | .driving =>
    if blocked && !(a == .mast && x.arrived) then (immediateStop (s.withAxis a { x with target := target }) a true, true)
    else (giveDriving s a target p, false)
  | .stopping => (s.withAxis a { x with target := target, next := some (target, p) }, false)
  | .engaging => (s.withAxis a { x with target := target, next := some (target, p) }, false)

/-! ## The lock phases and standstill -/

/-- The priority of a target recorded during a lock release, ordinary when none was. -/
def recordedPriority (x : AxisState) : Priority :=
  match x.next with
  | some (_, p) => p
  | none => .ordinary

/-- The end of the 500 ms lock release (R99, R103, R105, R106). -/
def lockReleased (s : State) : State :=
  let s1 := s.withLock .released
  let x := s1.axes.mast
  if x.stop.isSome then engageLock s1 false
  else if near .mast x.target x.position then
    engageLock (s1.withAxis .mast { x with arrived := true, next := none }) false
  else if grantedDraw s1 .mast = some (drawOf .mast (decide (x.position < x.target))) then
    s1.withAxis .mast ({ x with next := none }.drive .mast)
  else reverse (s1.withAxis .mast { x with next := none }) x.target (recordedPriority x)

/-- An axis at standstill (R100, R101, R105, R106): a dish axis on its target, or arrived by a retarget, ends its move,
the mast starts its lock engage. -/
def standstillAxis (s : State) (a : Axis) : State :=
  let x := s.axis a
  match a with
  | .mast =>
    match x.phase with
    | .driving => if x.arrived then engageLock s false else s
    | .stopping => engageLock s false
    | .engaging =>
      if x.skidding then
        let s1 := s.withAxis .mast { x with skidding := false }
        if s.axes.lock = .engaged then axisEnd s1 .mast else s1
      else s
    | .atRest | .waiting | .releasing | .faulted => s
  | .pan | .tilt | .pol =>
    match x.phase with
    | .driving => if x.arrived || near a x.target x.position then axisEnd s a else s
    | .stopping => axisEnd s a
    | .atRest | .waiting | .releasing | .engaging | .faulted => s

/-- The end of the 500 ms lock engage (R101, R106): the move ends unless a skid is still under way. -/
def lockEngaged (s : State) : State :=
  let s1 := s.withLock .engaged
  if s.axes.mast.skidding then s1 else axisEnd s1 .mast

end Sys2Proof.Machine
end

