-- ==== Sys2Proof/Machine/Records.lean ====
section
/-! DEFINITION. What the module writes into common memory: results into slots (R158, R159), the header (R162) and the
telemetry page (R163), by the layouts of 10.2; and the open set (R157, R158). -/
namespace Sys2Proof.Machine

/-! ## Results (R158) -/

/-- Write a result into a slot: code, warnings, 24 bytes of result data, then owner HOST, then the slot's NOTICE bit. -/
def writeResult (s : State) (n : Slot) (c : Code) (w : Warnings) (data : List Byte) : State :=
  setNotice (s.withMem (writeFields s.mem
    [(slotAddr n + 4, leBytes 1 c.toNat), (slotAddr n + 5, [w.toByte]), (slotAddr n + 40, padBytes 24 data),
     (slotAddr n, [0])])) n.val

/-- A refusal: no warnings, result data zero (R159). -/
def refuse (s : State) (n : Slot) (c : Code) : State := writeResult s n c Warnings.empty []

/-- No data of an AIM. -/
def AimData.zero : AimData := ⟨0, 0, 0, 0, Targets.zero⟩

/-- No search yet: every search field zero (R24). -/
def SearchFields.zero : SearchFields := ⟨.none, 0, 0, 0, 0⟩

/-- A command newly in the open set. -/
def OpenCommand.new (n : Slot) (k : Kind) (w : Warnings) : OpenCommand :=
  ⟨n, k, w, 0, false, AimData.zero, SearchFields.zero, Targets.zero⟩

/-- The three dish positions, as result data (10.2). -/
def dishPositionBytes (s : State) : List Byte :=
  le16 s.axes.pan.position ++ le16 s.axes.tilt.position ++ le16 s.axes.pol.position

def targetBytes (t : Targets) : List Byte := le16 t.pan ++ le16 t.tilt ++ le16 t.pol

/-- The result data of a stance command that completes or ends now (R24, 10.2). A reported bearing above 32,767 stands in
its signed field as the low 16 bits of its value (log 46). Which effective target a RAISE or LOWER reports where its end
comes with a change of it: log 72. -/
def resultData (s : State) (c : OpenCommand) : List Byte :=
  match c.kind with
  | .raise | .lower => le16 (extension s) ++ le16 s.ctl.effTarget ++ le16 (effCeiling s)
  | .stow => le16 (extension s) ++ dishPositionBytes s
  | .aim =>
    leBytes 1 c.aim.site ++ leBytes 1 c.search.outcome.toNat ++ le16 c.aim.bearing ++ le16 c.aim.elevation ++
    leBytes 2 c.search.probes ++ le32 c.aim.range ++ targetBytes c.aim.targets ++ le16 c.search.trimPan ++
    le16 c.search.trimTilt ++ le16 c.search.lc
  | .peak =>
    leBytes 1 c.search.outcome.toNat ++ leBytes 1 c.search.probes ++ le16 c.search.trimPan ++
    le16 c.search.trimTilt ++ le16 c.search.lc
  | .point => targetBytes c.point
  | .halt | .swap | .setFix | .setLimits | .clearFault | .standby | .recoverHold => []

/-! ## Open set (R157, R158) -/

/-- A command enters the open set. -/
def openCommand (s : State) (c : OpenCommand) : State :=
  s.withBoard { s.board with openSet := s.board.openSet ++ [c] }

/-- A slot leaves the open set. -/
def closeSlot (s : State) (n : Slot) : State :=
  s.withBoard { s.board with openSet := s.board.openSet.filter (fun c => c.slot != n) }

/-- An open command completes or ends (R158, R159). -/
def complete (s : State) (c : OpenCommand) (code : Code) : State :=
  writeResult (closeSlot s c.slot) c.slot code c.warnings (resultData s c)

/-- An open SWAP completes or ends, with its own data (R90, R93). -/
def completeSwap (s : State) (n : Slot) (code : Code) (w : Warnings) (data : List Byte) : State :=
  writeResult (closeSlot s n) n code w data

/-- The open commands that meet a condition, in ascending slot number (R24). -/
def openWhere (s : State) (p : OpenCommand → Bool) : List OpenCommand :=
  allSlots.flatMap (fun n => s.board.openSet.filter (fun c => c.slot == n && p c))

/-- End every open command that meets a condition, in ascending slot number (R24). -/
def endWhere (s : State) (p : OpenCommand → Bool) (code : Code) : State :=
  (openWhere s p).foldl (fun t c => complete t c code) s

/-- A command of one of the given kinds. -/
def ofKinds (ks : List Kind) (c : OpenCommand) : Bool := ks.contains c.kind

/-- The stance commands that can lie open (1.8). -/
def stanceKinds : List Kind := [.raise, .lower, .stow, .aim, .peak, .point]

/-- Whether a command of one of the kinds is open. -/
def anyOpen (s : State) (ks : List Kind) : Bool := s.board.openSet.any (ofKinds ks)

/-- Change the open commands that meet a condition. -/
def updateOpen (s : State) (f : OpenCommand → OpenCommand) : State :=
  s.withBoard { s.board with openSet := s.board.openSet.map f }

/-! ## Header (R162) -/

/-- The fault set as the header holds it: 16 entries of kind and qualifier. -/
def faultBytes (fs : List FaultId) : List Byte :=
  padBytes 32 (fs.flatMap (fun f => leBytes 1 f.kindCode ++ leBytes 1 f.qualifierCode))

def firstKind (f : FirstFault) : Nat := match f.fault with | none => 0 | some x => x.kindCode

def firstQualifier (f : FirstFault) : Nat := match f.fault with | none => 0 | some x => x.qualifierCode

/-- The datum the header shows: 0 while no fix is present (R30). -/
def headerDatum (s : State) : Nat := match s.geo.fix with | none => 0 | some f => f.datum

/-- The fields of the header that change, each with its offset. Of an uptime past its four bytes the low 32 bits are shown
(DESIGN CHOICE, log 81). -/
def headerFields (s : State) : List (Nat × List Byte) :=
  [(7, leBytes 1 (resetCauseCode s.power.cause)),
   (8, flagByte s.power.mastUpAtReset),
   (9, leBytes 1 (slotMask s.power.slotsReturned)),
   (12, leBytes 4 s.power.uptime),
   (16, leBytes 2 s.geo.fixGen),
   (18, leBytes 1 (headerDatum s)),
   (19, leBytes 1 s.ilk.faults.length),
   (20, leBytes 1 (firstKind s.ilk.first)),
   (21, leBytes 1 (firstQualifier s.ilk.first)),
   (24, leBytes 4 s.ilk.first.uptime),
   (32, faultBytes s.ilk.faults),
   (64, limitsBytes s.limits)]

/-- Write header fields under the sequence count: odd before the first, the next even value after the last (R162). The count
goes on from the module's own (board.headerSeq), also where the host has written over the one in the header (DESIGN CHOICE,
log 76). -/
def writeHeaderFields (s : State) (fs : List (Nat × List Byte)) : State :=
  let q := s.board.headerSeq + 2#16
  (s.withMem (writeFields s.mem (fs ++ [(10, leBytes 2 q.toNat)]))).withBoard { s.board with headerSeq := q }

/-- The event is READY after a reset (R169). -/
def becameReady (before s : State) : Bool := before.power.phase != .done && s.power.phase == .done

/-- The header fields that an event changed (log 65), and at READY the mast-up-at-reset and the slots-returned byte
whatever they held (R168). -/
def changedFields (before s : State) : List (Nat × List Byte) :=
  ((headerFields before).zip (headerFields s)).filterMap (fun p =>
    if p.1.2 = p.2.2 ∧ ¬ (becameReady before s = true ∧ (p.2.1 = 8 ∨ p.2.1 = 9)) then none else some p.2)

/-- The header write of an event: the fields that it changed, and those it writes in any case, in one write (R162). -/
def updateHeaderWith (before s : State) (also : List (Nat × List Byte)) : State :=
  if changedFields before s ++ also = [] then s else writeHeaderFields s (changedFields before s ++ also)

/-- The header write of an event: the fields that it changed (R162). -/
def updateHeader (before s : State) : State := updateHeaderWith before s []

/-- The whole header, with sequence 0 (R162, at every reset). -/
def wholeHeader (s : State) : List (Nat × List Byte) :=
  (0, padBytes 256 (leBytes 2 Config.partCode ++ leBytes 2 Config.partRevision ++ [8, 32, 4])) :: headerFields s

/-! ## Telemetry page (R163) -/

/-- The one-second mean (R63). -/
def oneSecondMean (s : State) : Int := s.level.history.sum / 20

/-- The fault-set summary (10.2). -/
def faultSummary (fs : List FaultId) : Nat := fs.foldl (fun acc f => acc ||| 2 ^ f.summaryBit) 0

def linesByte (l : Lines) : Nat := boolBit l.park 0 + boolBit l.overhead 1 + boolBit l.stow 2 + boolBit l.hold 3

def telemetryFlags (s : State) : Nat :=
  boolBit s.ctl.signalLost 0 + boolBit (s.ctl.mode == .forcedStow) 1 + boolBit s.stance.peakPending 2

/-- The site targets, zero unless the dish goal is SITE (10.2). -/
def shownSiteTargets (s : State) : Targets := if s.stance.dishGoal = .site then s.ctl.siteTargets else Targets.zero

/-- The page after its generation, bytes +2 to +255 (10.2); of the uptime the low 32 bits (DESIGN CHOICE, log 81). -/
def pageBytes (s : State) : List Byte :=
  padBytes 254 (
    leBytes 1 s.ctl.mode.toNat ++ leBytes 1 s.ctl.mastState.toNat ++ leBytes 1 s.ctl.dishState.toNat ++
    leBytes 1 s.wind.band ++ leBytes 1 (telemetryFlags s) ++ leBytes 1 (siteByte s.stance.site) ++
    le16 (extension s) ++ le16 s.ctl.effTarget ++ le16 s.stance.mastGoal ++ le16 (effCeiling s) ++
    le16 s.axes.pan.position ++ le16 s.axes.pan.target ++ le16 s.axes.tilt.position ++ le16 s.axes.tilt.target ++
    le16 s.axes.pol.position ++ le16 s.axes.pol.target ++ targetBytes (shownSiteTargets s) ++
    leBytes 2 s.wind.figure ++ le16 s.ilk.pitch ++ le16 s.ilk.roll ++ le16 (oneSecondMean s) ++
    leBytes 1 s.limits.budget ++ leBytes 1 (currentInUse s) ++ leBytes 1 s.arb.waits.length ++
    leBytes 1 (match s.level.search with | none => 0 | some c => c.step) ++
    leBytes 1 (match s.level.search with | none => 0 | some c => c.probes) ++
    leBytes 1 (linesByte s.ilk.lines) ++ leBytes 4 (faultSummary s.ilk.faults) ++ leBytes 4 s.power.uptime)

/-- Put a generation into the page. -/
def writeGeneration (s : State) (g : Word16) : State :=
  (s.withMem (writeBytes s.mem Config.telemetryBase (leBytes 2 g.toNat))).withTelem { s.telem with gen := g }

/-- A page write starts: odd generation, every field as held now, and the period starts again (R163). The generation goes
on from the module's own (telem.gen), also where the host has written over the one in the page (DESIGN CHOICE, log 76). A
page write still in progress goes on under the odd generation it has (log 11). The period that starts is the one in force now, so a
new one first times the wait between the next page and the page after it (log 47). -/
def startPage (s : State) : State :=
  let s1 := writeGeneration s (if s.telem.writing then s.telem.gen else s.telem.gen + 1#16)
  (s1.withMem (writeBytes s1.mem (Config.telemetryBase + 2) (pageBytes s))).withTelem
    { s1.telem with writing := true, timer := some s.limits.telemPeriod }

/-- A page write completes: the next even generation, 2 after 65,535 (R163), counted from the module's own (DESIGN CHOICE,
log 76). -/
def endPage (s : State) : State :=
  if s.telem.writing then
    let s1 := writeGeneration s (if s.telem.gen = 0xFFFF#16 then 2#16 else s.telem.gen + 1#16)
    s1.withTelem { s1.telem with writing := false }
  else s

/-- The telemetry enable of CONTROL. -/
def telemetryEnabled (s : State) : Bool := s.board.control.getLsbD 4

end Sys2Proof.Machine
end

