-- ==== Sys2Proof/Machine/FaultSet.lean ====
section
/-! DEFINITION. The fault set (R139 to R142), the ALARM cadence that VAN_MOVED starts (R151), and the early end that a
fault gives an exchange (R92, R93). -/
namespace Sys2Proof.Machine

/-! ## ALARM (R151) -/

/-- A period of the cadence begins: ALARM on, with the timing now in force. -/
def alarmPeriodStart (s : State) : State :=
  s.withIlk { s.ilk with
    alarmRunning := true, alarmOn := true, alarmPeriod := s.limits.alarmPeriod, alarmOnTime := s.limits.alarmOn }

/-- The cadence stops and ALARM goes off. -/
def alarmStop (s : State) : State :=
  s.withIlk { s.ilk with alarmRunning := false, alarmOn := false, alarmPeriod := 0, alarmOnTime := 0 }

/-! ## Early end of an exchange (R93) -/

/-- The served byte of a SWAP that ends early: not served with a SITE goal, zero with any other (R90, R93). -/
def notServed (p : Package) : Nat := if p.dishGoal = 2 then 2 else 0

/-- The SWAP ends, takes resume, the watch of a LOCKED dish starts again with count 0, and the outgoing stance is to be
resumed once the event's own rule has acted. -/
def swapEarlyEnd (s : State) (code : Code) : State :=
  if s.swap.phase = .quiesce then
    let data := leBytes 1 (siteByte s.stance.site) ++ leBytes 1 s.swap.snapshot.site ++ leBytes 1 0 ++
      leBytes 1 (notServed s.swap.snapshot)
    let s1 := completeSwap s s.swap.slot code Warnings.empty data
    let s2 := s1.withSwap { s1.swap with phase := .idle }
    let s3 := s2.withCtl { s2.ctl with resumeDue := true }
    if s3.ctl.dishState = .locked ∧ s3.stance.watch = true then s3.withLevel { s3.level with watch := some 0 } else s3
  else s

/-! ## Reports (R139, R140, R142) -/

def FaultId.isStall : FaultId → Bool
  | .stall _ => true
  | .limit _ => false
  | .sensor _ => false
  | .overhead => false
  | .vanMoved => false
  | .attitude => false
  | .windStow => false

/-- A spent entry: a STALL, or an entry whose cause is gone (R140). -/
def spent (s : State) (f : FaultId) : Bool := f.isStall || removable s f

/-- The oldest spent entry. -/
def oldestSpent (s : State) : Option FaultId := s.ilk.faults.find? (spent s)

/-- Make room in a full set (R140). A full set without a spent entry, which R140 shows cannot be, is left full. -/
def makeRoom (s : State) : State :=
  if s.ilk.faults.length < 16 then s
  else match oldestSpent s with
    | none => s
    | some d =>
      let s1 := s.withFaults (s.ilk.faults.filter (· != d))
      if d = .vanMoved then alarmStop s1 else s1

/-- The first-fault record after a fault is added (R142). -/
def firstAfter (s : State) (f : FaultId) : FirstFault :=
  if s.ilk.faults.isEmpty then ⟨some f, s.power.uptime⟩ else s.ilk.first

/-- Put a fault that is not present at the end of the set. -/
def putFault (s : State) (f : FaultId) : State :=
  let room := makeRoom s
  if room.ilk.faults.length < 16 then
    let s1 := room.withIlk { room.ilk with faults := room.ilk.faults ++ [f], first := firstAfter s f }
    let s2 := setNotice s1 noticeFault
    if f = .vanMoved then alarmPeriodStart s2 else s2
  else room

/-- A report to the Interlock and Fault Unit (R139): a fault that is present leaves everything as it was. -/
def addFault (s : State) (f : FaultId) : State := if s.ilk.faults.contains f then s else putFault s f

/-- A report of a fault that is no trigger's: added during a quiesce, it ends the exchange FAULTED (R92). -/
def reportFault (s : State) (f : FaultId) : State :=
  if s.ilk.faults.contains f then s else swapEarlyEnd (putFault s f) .faulted

end Sys2Proof.Machine
end

