-- ==== Sys2Proof/Machine/Reactions.lean ====
section
/-! DEFINITION. What a fault does to the stance (R25, R26, R147), the end of a search as the Stance Controller sees it
(R13, R74, R75), and targets given to the axes with the limit faults they may find (R9, R108). -/
namespace Sys2Proof.Machine

/-! ## The end of a search (R74, R75) -/

/-- A command whose search runs: an open PEAK, or an open AIM with peak-after (R74). -/
def ownsSearch (c : OpenCommand) : Bool := c.kind == .peak || (c.kind == .aim && c.peakAfter)

/-- The search fields at the end of a search (R74). -/
def Search.fields (c : Search) (o : SearchOutcome) : SearchFields :=
  ⟨o, c.centrePan, c.centreTilt, c.lc.getD 0, c.probes⟩

/-- A command with the fields and the EDGE warning of its search (R74). -/
def OpenCommand.withSearch (c : OpenCommand) (f : SearchFields) (edge : Bool) : OpenCommand :=
  { c with search := f, warnings := { c.warnings with edge := edge } }

def State.withPeakPending (s : State) (b : Bool) : State := s.withStance { s.stance with peakPending := b }

/-- The commands whose search runs take its fields with an outcome (R74). A touch-up belongs to no command. -/
def tellSearch (s : State) (o : SearchOutcome) : State :=
  match s.level.search with
  | none => s
  | some c =>
    if c.kind = .full then updateOpen s (fun d => if ownsSearch d then d.withSearch (c.fields o) c.edge else d) else s

/-- The running search is over, and peak pending is cleared unless it is kept (R13). -/
def dropSearch (s : State) (keep : Bool) : State :=
  match s.level.search with
  | none => s
  | some _ =>
    let s1 := s.withLevel { s.level with search := none }
    if keep then s1 else s1.withPeakPending false

/-- The running search ends with an outcome, which its commands take (R13, R74). A PEAK or AIM that stays open (HOLD_LINE, a quiesce) keeps these fields and
the EDGE warning until a later search of its own ends, and reports them where it ends before that (DESIGN CHOICE, logs 35
and 74). -/
def stopSearch (s : State) (o : SearchOutcome) (keep : Bool) : State := dropSearch (tellSearch s o) keep

/-- The running search ends, and so do the commands whose search it was (R74). -/
def endSearch (s : State) (o : SearchOutcome) (code : Code) : State :=
  match s.level.search with
  | none => s
  | some c =>
    let s1 := stopSearch s o false
    if c.kind = .full then endWhere s1 ownsSearch code else s1

/-! ## The dish goal -/

/-- Write the dish goal; a change of the dish goal clears the touch-up mark and SIGNAL_LOST (R45, R79). -/
def writeDishGoal (s : State) (g : DishGoal) : State :=
  (s.withStance { s.stance with dishGoal := g }).withCtl { s.ctl with touchUpMark := false, signalLost := false }

def State.withDishShort (s : State) (x : Option StopShort) : State := s.withCtl { s.ctl with dishShort := x }

/-- A dish that is to stand where it stops: at rest it is STOWED or PARKED, moving it is so once at rest (R6). A dish
whose search has been abandoned is PARKED from that moment (R27, R87, log 48). A FAILED dish stays FAILED. -/
def dishStands (s : State) : State :=
  if s.ctl.dishState = .failed then s.withDishShort none
  else if dishAtRest s then (s.withDish (restingDish s)).withDishShort none
  else if s.ctl.dishState = .peaking then (s.withDish .parked).withDishShort (some .stop)
  else s.withDishShort (some .stop)

/-- The dish goal becomes NONE, with controlled stops of the moving dish axes (R6). -/
def dishToNone (s : State) : State := dishStands (controlledStops (writeDishGoal s .none) dishAxes)

/-! ## Mast goal -/

def State.withMastGoal (s : State) (h : Int) : State := s.withStance { s.stance with mastGoal := h }

def State.withGoalAtRest (s : State) (g : Option GoalAtRest) : State := s.withCtl { s.ctl with goalAtRest := g }

/-- The effective target is computed for the state as it stands, with no move (R8). -/
def setEff (s : State) : State := s.withCtl { s.ctl with effTarget := effectiveTarget s }

/-- The extension that an entry into HALTED adopts: the one at rest, or with the encoder not valid the last valid one
(R25, step 6), which differs from the position after a WARM_UP that ended without it (R166). -/
def haltedExtension (s : State) : Int := if s.axes.mast.encValid then extension s else s.axes.mast.lastValid

/-- The mast goal that adopts an extension: within the range of R1, so that a stance written out is valid (R89, log 61). -/
def adoptedHeight (x : Int) : Int := clampTravel .mast x

/-- The mast goal of the entry into HALTED (R25, step 6): the extension at rest, now or once at rest; for an encoder
never valid since the reset, the extension it reports when CLEAR_FAULT returns the mast. -/
def haltedGoal (s : State) : State :=
  if !s.axes.mast.everValid then (s.withCtl { s.ctl with goalOnReturn := true }).withGoalAtRest none
  else if s.axes.mast.inMove then s.withGoalAtRest (some .halted)
  else (s.withMastGoal (adoptedHeight (haltedExtension s))).withGoalAtRest none

/-! ## Faults at the stance -/

/-- Entry into HALTED (R25). An exchange still in its quiesce ends FAULTED first (R92). No upward target stays due: after
the return no axis moves until a command asks for it. The commands are handed over before the effective target is computed
for HALTED, so a RAISE or LOWER reports the one in force before (DESIGN CHOICE, log 72). -/
def enterHalted (s0 : State) : State :=
  let s := swapEarlyEnd s0 .faulted
  let s1 := s.withCtl { s.ctl with
    returnMode := if s.ctl.mode = .recovery then .recovery else .normal, mode := .halted, upwardDue := false }
  let s2 := controlledStops s1 dishAxes
  let s3 := stopSearch s2 .faulted false
  let s4 := endWhere s3 (ofKinds stanceKinds) .faulted
  let s5 := dishToNone (s4.withPeakPending false)
  setEff (haltedGoal s5)

/-- A mode in which mast and dish states are kept: from READY to STANDBY or the next reset (R4). -/
def running (s : State) : Bool :=
  match s.ctl.mode with
  | .starting => false
  | .standby => false
  | .recovery => true
  | .normal => true
  | .forcedStow => true
  | .halted => true

/-- A mast axis fault (R4, R25). -/
def mastFaultReact (s : State) : State :=
  let s1 := s.withCtl { s.ctl with mastState := .failed }
  if s.ctl.mode = .halted then s1 else enterHalted s1

/-- A dish axis fault: R26, or in FORCED_STOW R147. A RAISE or LOWER that it ends reports the effective target in force
before a recompute that the fault leads to (DESIGN CHOICE, log 72). -/
def dishFaultReact (s : State) : State :=
  if s.ctl.mode = .forcedStow then s.withDish .failed
  else
    let s1 := controlledStops s dishAxes
    let s2 := (stopSearch s1 .faulted false).withPeakPending false
    let s3 := (writeDishGoal (s2.withDish .failed) .none).withDishShort none
    endWhere s3 (fun c => ofKinds [.aim, .peak, .point, .stow] c ||
      (ofKinds [.raise, .lower] c && (decide (s3.stance.mastGoal < Config.nestHeight) && !inWindow s3))) .faulted

/-- The Stance Controller's part of an axis fault, from READY onward. -/
def axisReact (s : State) (a : Axis) : State :=
  if running s then (if a = .mast then mastFaultReact s else dishFaultReact s) else s

/-- An axis fault is reported and acted on at once (R110). The immediate stop for it, with the grant check of the grant it
releases, comes before: the Stance Controller stops the other axes after that check (DESIGN CHOICE, log 75). -/
def axisFault (s : State) (a : Axis) (f : FaultId) : State := axisReact (reportFault s f) a

/-- A limit fault found by an axis, if it found one (R108). -/
def orLimit (r : State × Bool) (a : Axis) : State := if r.2 then axisFault r.1 a (.limit a) else r.1

/-! ## Targets given by the Stance Controller (R9) -/

/-- Give one axis a target, with the priority of the mode (R98, R146). -/
def giveTarget (s : State) (a : Axis) (t : Int) : State := orLimit (axisGive s a t (movePriority s)) a

/-- A dish axis is given its target, unless the dish has just FAILED and the mode is not FORCED_STOW (R26, R147). -/
def giveDishAxis (s : State) (a : Axis) (t : Int) : State :=
  if s.ctl.dishState = .failed ∧ s.ctl.mode ≠ .forcedStow then s else giveTarget s a t

/-- Dish targets, in the order pan, tilt, pol (R9). -/
def giveDish (s : State) (t : Targets) : State :=
  giveDishAxis (giveDishAxis (giveDishAxis s .pan t.pan) .tilt t.tilt) .pol t.pol

/-- The mast state at the issue of a target (R4). One at rest leaves its state for a target more than 20 mm off; a moving one
turns with a retarget to the other side of its extension, at any distance (log 60). A FAILED mast stays FAILED. -/
def mastStateFor (s : State) (t : Int) : MastState :=
  match s.ctl.mastState with
  | .failed => .failed
  | .rising => if t < extension s then .descending else .rising
  | .descending => if extension s < t then .rising else .descending
  | .nested | .held =>
    if extension s + 20 < t then .rising else if t + 20 < extension s then .descending else s.ctl.mastState

/-- A mast target is issued: the mast state follows at once (R4). -/
def giveMast (s : State) (t : Int) : State := giveTarget (s.withCtl { s.ctl with mastState := mastStateFor s t }) .mast t

end Sys2Proof.Machine
end

