-- ==== Sys2Proof/Machine/SearchEngine.lean ====
section
/-! DEFINITION. The Peak Search Engine (R64 to R77): starting a search, its probes, comparisons and return moves, and
its ends. -/
namespace Sys2Proof.Machine

def State.withSearch (s : State) (c : Search) : State := s.withLevel { s.level with search := some c }

/-- The entry of the live site, an empty one with no site. -/
def liveEntry (s : State) : Entry :=
  match s.stance.site with
  | none => Entry.zero
  | some n => s.entry n

def State.withSiteTargets (s : State) (t : Targets) (trimPan trimTilt : Int) : State :=
  s.withCtl { s.ctl with siteTargets := t, siteTrimPan := trimPan, siteTrimTilt := trimTilt }

/-- The trims that a derivation adds: the block's when it is valid, zero when it is not (R40). -/
def Trim.panInForce (t : Trim) : Int := if t.valid then t.pan else 0
def Trim.tiltInForce (t : Trim) : Int := if t.valid then t.tilt else 0

/-- The range of a site record from the fix (R37). -/
def rangeOf (r : SiteRecord) (f : Fix) : Nat := reportedRange (r.east - f.east) (r.north - f.north)

/-- The solution of a site for the fix, attitude, roof height and effective target in force (R37 to R40). -/
def computeSolution (s : State) (r : SiteRecord) (f : Fix) : Solution :=
  solve r f s.ilk.pitch s.ilk.roll s.limits.roof s.ctl.effTarget

/-- An entry with a solution just computed (R40, R51). -/
def Entry.computed (e : Entry) (s : State) (r : SiteRecord) (f : Fix) : Entry :=
  { e with
    state := .computed
    fixGen := s.geo.fixGen
    height := s.ctl.effTarget
    sol := computeSolution s r f
    revision := r.revision }

/-- The targets of the live site's untrimmed solution with the given trims, against the present pan (R40, R41). The
solution of an EMPTY entry is not read (R49): the site targets in force stand in for it, and a search that meets one has
been ended, or has computed it at its start (log 33). -/
def liveTargets (s : State) (trimPan trimTilt : Int) : Targets :=
  if (liveEntry s).state = .empty then s.ctl.siteTargets
  else deriveTargets (liveEntry s).sol trimPan trimTilt s.axes.pan.position

/-- No dish target but the stow target may be issued: the mast is below the nest height (R11). -/
def belowNest (s : State) : Bool := decide (extension s < Config.nestHeight)

/-- A dish that waits for the upward nest crossing (R7). -/
def nestWait (s : State) : State := (s.withDish .nestWait).withDishShort none

/-- The dish is given targets and is SLEWING (R73, R76, R77). Below the nest height a dish not already on them waits
in NEST_WAIT for the upward crossing instead (R7, R11), and where no target may be issued it stands (R27, R88). -/
def slewTo (s : State) (t : Targets) : State :=
  if !canIssue s then dishStands s
  else if belowNest s && !(dishAtRest s && dishNear s t) then nestWait s
  else giveDish ((s.withDish .slewing).withDishShort none) t

/-- A dish on the site targets in force is ON_SOLUTION; any other is driven back to them. -/
def returnToSite (s : State) : State :=
  if dishAtRest s && dishNear s s.ctl.siteTargets then s.withDish .onSolution else slewTo s s.ctl.siteTargets

/-! ## Ends of a search -/

/-- The level is lost: the search ends SENSOR and the dish returns to the site targets in force (R77). -/
def searchSensor (s : State) : State :=
  match s.level.search with
  | none => s
  | some _ => slewTo (endSearch s .sensor .faulted) s.ctl.siteTargets

/-- The outcome of a lock (R72). -/
def lockOutcome (c : Search) : SearchOutcome :=
  if c.limit then .probeLimit else if c.edge then .lockedEdge else .locked

/-- The trim block a lock writes (R57). -/
def lockTrim (c : Search) (lc : Int) (f : Fix) : Trim :=
  ⟨true, c.centrePan, c.centreTilt, lc, f.datum, f.east, f.north, f.heading⟩

def State.withTrim (s : State) (site : Fin 32) (t : Trim) : State := s.withEntry site { s.entry site with trim := t }

/-- A lock (R72). -/
def searchLock (s : State) (c : Search) (lc : Int) : State :=
  let s1 := match s.geo.fix with
    | none => s
    | some f => s.withTrim c.site (lockTrim c lc f)
  let s2 := s1.withSiteTargets (liveTargets s1 c.centrePan c.centreTilt) c.centrePan c.centreTilt
  let s3 := (s2.withDish .locked).withCtl { s2.ctl with dishState := .locked, signalLost := false }
  let s4 := if s3.stance.watch then s3.withLevel { s3.level with watch := some 0 } else s3
  endSearch s4 (lockOutcome c) .ok

/-- NO_SIGNAL of a full search (R73): the trims are discarded, and the dish goes to the untrimmed solution. -/
def searchNoSignal (s : State) (c : Search) : State :=
  let s1 := endSearch s .noSignal .ok
  let s2 := s1.withTrim c.site { (s1.entry c.site).trim with valid := false }
  let t := liveTargets s2 0 0
  slewTo (s2.withSiteTargets t 0 0) t

/-- NO_SIGNAL of a touch-up (R73, R79): the trims stay, SIGNAL_LOST is raised, and the dish goes back to the starting
centre. -/
def touchUpNoSignal (s : State) (c : Search) : State :=
  let s1 := endSearch s .noSignal .ok
  let s2 := setNotice (s1.withCtl { s1.ctl with signalLost := true }) noticeCondition
  let t := liveTargets s2 c.startPan c.startTilt
  slewTo (s2.withSiteTargets t c.startPan c.startTilt) t

/-- A search ends under R70 or R71. -/
def searchFinish (s : State) (c : Search) : State :=
  let s1 := s.withSearch c
  let lc := c.lc.getD Config.levelFloor
  if c.lockFloor ≤ lc then searchLock s1 c lc
  else match c.kind with
    | .full => searchNoSignal s1 c
    | .touchUp => touchUpNoSignal s1 c

/-! ## Moves of a search -/

/-- The engine asks for targets (R68): they are issued unless the mast is below the nest height, where no probe target
is issued (R11), and the search waits for the dish to reach them. -/
def askTargets (s : State) (c : Search) (t : Targets) : State :=
  let s1 := s.withSearch { c with asked := t, wait := .moving }
  if belowNest s then s1 else giveDish s1 t

/-- The trims of a probe point (R67). -/
def probePan (c : Search) (ax : ProbeAxis) (plus : Bool) : Int :=
  match ax with
  | .pan => if plus then c.centrePan + c.step else c.centrePan - c.step
  | .tilt => c.centrePan

def probeTilt (c : Search) (ax : ProbeAxis) (plus : Bool) : Int :=
  match ax with
  | .pan => c.centreTilt
  | .tilt => if plus then c.centreTilt + c.step else c.centreTilt - c.step

/-- A trim within its bound (R52, R67). -/
def trimOk (t : Int) : Bool := within (-300) 300 t

/-- A probe point is skipped: its trim on the probed axis out of bound, or its trial tilt outside the aim range
(R67). -/
def probeSkipped (s : State) (c : Search) (ax : ProbeAxis) (plus : Bool) : Bool :=
  !trimOk (match ax with | .pan => probePan c ax plus | .tilt => probeTilt c ax plus) ||
    ((liveEntry s).state == .empty || !inAimRange (trialTilt (liveEntry s).sol (probeTilt c ax plus)))

/-- Move to a probe point (R68). -/
def askPoint (s : State) (c : Search) (ax : ProbeAxis) (plus : Bool) : State :=
  askTargets s { c with stage := .probe ax plus } (liveTargets s (probePan c ax plus) (probeTilt c ax plus))

/-- The better of the two probe points, with whether it is the +s one (R69). -/
def betterProbe (c : Search) : Option (Int × Bool) :=
  match c.plusLevel, c.minusLevel with
  | none, none => none
  | some p, none => some (p, true)
  | none, some m => some (m, false)
  | some p, some m => if m ≤ p then some (p, true) else some (m, false)

/-- The centre after the comparison of R69. -/
def moveCentre (c : Search) (ax : ProbeAxis) : Search :=
  match betterProbe c with
  | none => c
  | some (l, plus) =>
    if c.lc.getD Config.levelFloor + c.params.threshold ≤ l then
      { c with centrePan := probePan c ax plus, centreTilt := probeTilt c ax plus, lc := some l, moved := true }
    else c

/-- The comparison of an axis, and the return move to the centre (R69). -/
def compareAxis (s : State) (c : Search) (ax : ProbeAxis) : State :=
  let d := moveCentre c ax
  askTargets s { d with stage := .back ax } (liveTargets s d.centrePan d.centreTilt)

/-- The -s point of an axis: visited, or skipped with the edge flag (R67). -/
def tryMinus (s : State) (c : Search) (ax : ProbeAxis) : State :=
  if probeSkipped s c ax false then compareAxis s { c with edge := true } ax else askPoint s c ax false

/-- The +s point of an axis, which opens the axis's turn (R67). -/
def tryPlus (s : State) (c0 : Search) (ax : ProbeAxis) : State :=
  let c := { c0 with plusLevel := none, minusLevel := none }
  if probeSkipped s c ax true then tryMinus s { c with edge := true } ax else askPoint s c ax true

/-- A round begins with the pan axis (R70). -/
def startRound (s : State) (c : Search) : State := tryPlus s { c with moved := false } .pan

/-- The end of a round (R70). -/
def roundEnd (s : State) (c : Search) : State :=
  if c.moved then startRound s c
  else if c.step / 2 < c.params.minimum then searchFinish s { c with step := c.step / 2 }
  else startRound s { c with step := c.step / 2 }

/-- The end of a return move (R70, R71). -/
def afterBack (s : State) (c : Search) (ax : ProbeAxis) : State :=
  if c.limit then searchFinish s c
  else match ax with
    | .pan => tryPlus s c .tilt
    | .tilt => roundEnd s c

/-- Whether the dish is at rest on the targets the engine last asked for (R64). -/
def onAsked (s : State) (c : Search) : Bool := dishAtRest s && dishNear s c.asked

/-- What a search does with the dish and the mast as they are (R64, R69): a return move that is over leads on, a
measurement starts its settle time once dish and mast are at rest, and waits again while the mast moves. A dish at rest
off the targets asked for keeps it waiting (log 43). -/
def searchGo : Nat → State → State
  | 0, s => s
  | n + 1, s =>
    match s.level.search with
    | none => s
    | some c =>
      match c.wait with
      | .moving =>
        if onAsked s c then
          match c.stage with
          | .back ax => searchGo n (afterBack s c ax)
          | .reference | .probe _ _ => if mastAtRest s then s.withSearch { c with wait := .settling } else s
        else s
      | .settling => if mastAtRest s then s else s.withSearch { c with wait := .moving }
      | .sampling _ => if mastAtRest s then s else s.withSearch { c with wait := .moving }

/-- How often `searchGo` may lead on within one event: seven halvings of at most six stages each, and more. -/
def searchFuel : Nat := 64

def searchPass (s : State) : State := searchGo searchFuel s

/-! ## Measurements (R64, R68) -/

/-- The level of a probe is counted and set down (R68). -/
def countProbe (c : Search) (plus : Bool) (m : Int) : Search :=
  { c with
    probes := c.probes + 1
    limit := c.limit || decide (c.params.probeLimit ≤ c.probes + 1)
    plusLevel := if plus then some m else c.plusLevel
    minusLevel := if plus then c.minusLevel else some m }

/-- A measurement ends (R64, R66, R68). -/
def measured (s : State) (c : Search) (m : Int) : State :=
  match c.stage with
  | .reference => startRound s { c with lc := some m }
  | .probe ax plus =>
    let d := countProbe c plus m
    if plus && !d.limit then tryMinus s d ax else compareAxis s d ax
  | .back _ => s

/-- A sample joins the running measurement; the fourth completes it (R64). -/
def searchSample (s : State) (level : Int) : State :=
  match s.level.search with
  | none => s
  | some c =>
    match c.wait with
    | .moving => s
    | .settling => s
    | .sampling taken =>
      let l := taken ++ [level]
      if l.length < 4 then s.withSearch { c with wait := .sampling l } else measured s c (l.sum / 4)

/-! ## Starting (R66) -/

/-- The step of a search at its start (R66). -/
def firstStep (l : Limits) : SearchKind → Nat
  | .full => l.initialStep
  | .touchUp => max 10 l.minStep

/-- The search context at the start (R66). -/
def newSearch (s : State) (site : Fin 32) (kind : SearchKind) : Search where
  kind := kind
  site := site
  centrePan := s.ctl.siteTrimPan
  centreTilt := s.ctl.siteTrimTilt
  startPan := s.ctl.siteTrimPan
  startTilt := s.ctl.siteTrimTilt
  lc := none
  step := firstStep s.limits kind
  probes := 0
  edge := false
  limit := false
  lockFloor := (readSite s.mem site.val).lockFloor
  params := ⟨s.limits.initialStep, s.limits.minStep, s.limits.threshold, s.limits.probeLimit, s.limits.settle⟩
  stage := .reference
  wait := .moving
  asked := s.ctl.siteTargets
  plusLevel := none
  minusLevel := none
  moved := false

/-- The live site's solution as a search may use it: an EMPTY entry is computed afresh (R49), its snapshot taking the
record's revision (R51, log 33), which a range below 50 m does not allow. -/
def freshSolution (s : State) (site : Fin 32) : Option State :=
  if (s.entry site).state ≠ .empty then some s
  else match s.geo.fix with
    | none => none
    | some f =>
      let r := readSite s.mem site.val
      if 50 ≤ rangeOf r f then some (s.withEntry site ((s.entry site).computed s r f)) else none

/-- A search begins: peak pending is set and the dish is PEAKING (R66). -/
def beginSearch (s : State) (c : Search) : State :=
  (((s.withPeakPending true).withDish .peaking).withDishShort none).withSearch c

/-- A search starts (R66). A site record not acceptable, or an EMPTY entry that cannot be computed, ends it at once
ABANDONED, and the dish returns to the site targets in force unless it is on them (log 34); a level that is lost ends it
at once SENSOR (R77). -/
def startSearch (s : State) (kind : SearchKind) : State :=
  match s.stance.site with
  | none => s
  | some site =>
    let c := newSearch s site kind
    let s1 := beginSearch s c
    match (if (readSite s.mem site.val).acceptable then freshSolution s1 site else none) with
    | none => returnToSite (endSearch s1 .abandoned .ok)
    | some s2 => if levelLost s then searchSensor s2 else askTargets s2 c s.ctl.siteTargets

end Sys2Proof.Machine
end

