-- ==== Sys2Proof/Machine/Solutions.lean ====
section
/-! DEFINITION. Checking an AIM and obtaining its solution (R34, R35, R51), the effects of a new fix on the table (R53,
R54), and the recompute of the live site with its re-slew (R42 to R44, R55). -/
namespace Sys2Proof.Machine

/-! ## Checks and solutions -/

/-- The checks of R34 on a site index; `none` when all pass. -/
def aimCheck (s : State) (site : Nat) : Option Code :=
  let r := readSite s.mem site
  if 32 ≤ site ∨ r.inUse = 0 then some .badSite
  else if !r.acceptable then some .badRecord
  else match s.geo.fix with
    | none => some .noFix
    | some f => if rangeOf r f < 50 then some .tooClose else none

/-- The whole entry is emptied: EMPTY, trims not valid, the snapshot at the record's revision (R51). -/
def Entry.emptied (e : Entry) (revision : Nat) : Entry :=
  { e with state := .empty, revision := revision, trim := { e.trim with valid := false } }

/-- The revision check of an AIM or an adoption (R51). -/
def Entry.checked (e : Entry) (revision : Nat) : Entry := if e.revision = revision then e else e.emptied revision

/-- Whether the entry must be computed for an AIM (R35, step 2). -/
def mustCompute (s : State) (e : Entry) : Bool :=
  e.state != .computed || (e.fixGen != s.geo.fixGen || e.height != s.ctl.effTarget)

/-- The entry of a site for an AIM or a load: checked, then computed or reused (R35). -/
def servedEntry (s : State) (site : Fin 32) (f : Fix) : Entry :=
  let r := readSite s.mem site.val
  let e := (s.entry site).checked r.revision
  if mustCompute s e then e.computed s r f else e

/-- The solution of a site is obtained (R35), with no effect while no fix is present. -/
def obtainSolution (s : State) (site : Fin 32) : State :=
  match s.geo.fix with
  | none => s
  | some f => s.withEntry site (servedEntry s site f)

/-- The targets of an entry with its trims in force (R35, R40, R41). -/
def Entry.targets (e : Entry) (present : Int) : Targets :=
  deriveTargets e.sol e.trim.panInForce e.trim.tiltInForce present

/-- The site targets become those of the live site's entry, against the present pan (R41). An EMPTY entry has no
solution to derive from, and leaves the site targets in force. -/
def deriveSite (s : State) : State :=
  let e := liveEntry s
  if e.state = .empty then s
  else s.withSiteTargets (e.targets s.axes.pan.position) e.trim.panInForce e.trim.tiltInForce

/-- The warnings of a solution at its take (R36). -/
def solutionWarnings (e : Entry) : Warnings :=
  { Warnings.empty with elevClamped := elevClamped e.sol e.trim.tiltInForce, rangeFar := e.sol.rangeFar }

/-! ## A new fix (R53, R54) -/

/-- The circular difference of two headings (R54). -/
def headingDistance (a b : Int) : Nat := min (dist a b) (36000 - dist a b)

/-- Whether a trim block passes the test against a fix (R54, R59). -/
def trimKept (t : Trim) (f : Fix) : Bool :=
  decide (t.datum = f.datum) && (decide (distSquare (f.east - t.east) (f.north - t.north) < 25) &&
    decide (headingDistance t.heading f.heading < 100))

/-- Whether a SET_FIX reports the datum changed (R32, R53). -/
def datumChanged (s : State) (f : Fix) : Bool :=
  match s.geo.fix with
  | none => true
  | some g => g.datum != f.datum

/-- An entry flushed by a change of datum (R53): the snapshot is kept. -/
def Entry.flushed (e : Entry) : Entry := { e with state := .empty, trim := { e.trim with valid := false } }

/-- A COMPUTED entry becomes STALE (R50). -/
def Entry.staled (e : Entry) : Entry := if e.state = .computed then { e with state := .stale } else e

/-- Whether a SET_FIX discards the block of an entry (R53, R54). -/
def discards (changed : Bool) (f : Fix) (e : Entry) : Bool := e.trim.valid && (changed || !trimKept e.trim f)

/-- An entry after a SET_FIX (R53, R54). -/
def Entry.afterFix (changed : Bool) (f : Fix) (e : Entry) : Entry :=
  if changed then e.flushed
  else { e.staled with trim := { e.trim with valid := e.trim.valid && trimKept e.trim f } }

/-- The generation after an accepted fix (R31). -/
def nextGeneration (g : Nat) : Nat := if g = 65535 then 1 else g + 1

/-! ## Recompute of the live site (R43, R44) -/

/-- Whether a recompute of the live site can be made (R43, step 1): with its record and the fix when it can. -/
def recomputeInputs (s : State) (site : Fin 32) : Option (SiteRecord × Fix) :=
  let r := readSite s.mem site.val
  match s.geo.fix with
  | none => none
  | some f =>
    if r.acceptable && (r.revision == (s.entry site).revision && decide (50 ≤ rangeOf r f)) then some (r, f) else none

/-- The threshold of R44. -/
def movesEnough (old new : Targets) : Bool := decide (2 ≤ dist old.pan new.pan) || decide (2 ≤ dist old.tilt new.tilt)

def State.withMark (s : State) (b : Bool) : State := s.withCtl { s.ctl with touchUpMark := b }

/-- Each dish axis whose target changed is retargeted (R44). -/
def retargetDish (s : State) (old t : Targets) : State :=
  let s1 := if t.pan = old.pan then s else giveDishAxis s .pan t.pan
  let s2 := if t.tilt = old.tilt then s1 else giveDishAxis s1 .tilt t.tilt
  if t.pol = old.pol then s2 else giveDishAxis s2 .pol t.pol

/-- A re-slew whose new targets already are the site targets in force (R44). Where no target may be issued the targets
stand recorded, and a dish on its solution keeps its state with the mark set. Below the nest height a SLEWING dish waits
with them for the upward crossing, once at rest when the downward crossing is stopping it (R11). -/
def reslew (s : State) (old : Targets) : State :=
  let t := s.ctl.siteTargets
  match s.ctl.dishState with
  | .slewing =>
    if !canIssue s then s
    else if belowNest s then (if s.ctl.dishShort = some .nest then s else nestWait s)
    else retargetDish s old t
  | .onSolution | .locked => if canIssue s then slewTo (s.withMark true) t else s.withMark true
  | .peaking => slewTo ((endSearch s .abandoned .ok).withMark true) t
  | .nestWait | .parked | .stowed | .stowing | .failed => s

/-- A recompute that is not made ends the running search where R55 says so, and where the entry has been emptied, so that
its solution may not be read (R49, log 33). -/
def notRecomputed (s : State) (site : Fin 32) (force : Bool) : State :=
  if force || (s.level.search.isSome && (s.entry site).state == .empty) then
    slewTo (endSearch s .abandoned .ok) s.ctl.siteTargets
  else s

/-- The recompute of the live site (R43, R44). `force` is R55's: the live trims of a PEAKING dish were discarded. The
flag says that the live site was re-slewed. -/
def recomputeLive (s : State) (force : Bool) : State × Bool :=
  match s.stance.site with
  | none => (s, false)
  | some site =>
    let old := s.ctl.siteTargets
    match recomputeInputs s site with
    | none => (notRecomputed s site force, false)
    | some (r, f) =>
      let e := (s.entry site).computed s r f
      let s1 := s.withEntry site e
      let t := e.targets s.axes.pan.position
      if force || movesEnough old t then
        (reslew (s1.withSiteTargets t e.trim.panInForce e.trim.tiltInForce) old, true)
      else (s1, false)

/-- The recompute that a change of height or of roof height asks for, made only with the dish goal SITE (R42). -/
def recomputeSite (s : State) : State := if s.stance.dishGoal = .site then (recomputeLive s false).1 else s

end Sys2Proof.Machine
end

