-- ==== Sys2Proof/Machine/Effective.lean ====
section
/-! DEFINITION. The Stance Controller's issue of moves: the dish targets of a goal (R6, R7), the mast's (R9, R10), the
recompute of the effective mast target with its consequences (R9, R76), and the nest crossings (R7, R11). -/
namespace Sys2Proof.Machine

/-! ## Dish targets (R6, R7) -/

/-- The dish targets of the dish goal are issued; the dish state becomes STOWING, NEST_WAIT or SLEWING (R6, R7). A dish
already on its targets arrives within the same event. A FAILED dish is given its stow targets in FORCED_STOW alone, and
stays FAILED (R147). -/
def issueDish (s : State) : State :=
  if s.ctl.dishState = .failed then
    if s.ctl.mode = .forcedStow ∧ s.stance.dishGoal = .stow then giveDish s stowTargets else s
  else match s.stance.dishGoal with
    | .none => s
    | .stow => giveDish ((s.withDish .stowing).withDishShort none) stowTargets
    | .site =>
      if belowNest s then nestWait s
      else
        let s1 := deriveSite s
        giveDish ((s1.withDish .slewing).withDishShort none) s1.ctl.siteTargets
    | .point t => if belowNest s then nestWait s else giveDish ((s.withDish .slewing).withDishShort none) t

/-- The dish while its targets cannot be issued (R7, R27): NEST_WAIT with a SITE or POINT goal below the nest height,
else a dish that stands, at rest too, also one whose present positions RECOVER_HOLD adopts (log 54). -/
def holdDish (s : State) : State :=
  if s.ctl.dishState = .failed then s
  else match s.stance.dishGoal with
    | .none => dishStands s
    | .stow => dishStands s
    | .site => if belowNest s then nestWait s else dishStands s
    | .point _ => if belowNest s then nestWait s else dishStands s

/-- The dish turns to the goal just written. -/
def pursueDish (s : State) : State := if canIssue s then issueDish s else holdDish s

/-- The dish goal becomes `g`, and the dish turns to it (R6, R7). -/
def setDishGoal (s : State) (g : DishGoal) : State :=
  match g with
  | .none => dishToNone s
  | .stow | .site | .point _ => pursueDish (writeDishGoal s g)

/-- A dish at rest on its solution, with no re-slew recorded meanwhile, is left as it is when its targets are issued
again: LOCKED stays LOCKED (R78, R93). -/
def staysOnSolution (s : State) : Bool :=
  s.stance.dishGoal == .site && ((s.ctl.dishState == .onSolution || s.ctl.dishState == .locked) &&
    (!s.ctl.touchUpMark && (dishAtRest s && dishNear s (deriveSite s).ctl.siteTargets)))

/-- The targets are issued again after HOLD_LINE or an exchange cut short (R27, R93). A dish that stays on its solution
starts the search that is pending, or the touch-up of a fifth check that HOLD_LINE held back (R78). -/
def reissueDish (s : State) : State :=
  if staysOnSolution s then
    let s1 := deriveSite s
    if s.stance.peakPending then startSearch s1 .full
    else if s.ctl.dishState = .locked ∧ s.level.watch = some 5 then startSearch s1 .touchUp
    else s1
  else issueDish s

/-! ## Mast targets (R9, R10) -/

/-- The target that takes a mast at rest near its target up through the nest height (R9, the exception). -/
def risesThroughNest (s : State) : Bool :=
  decide (extension s < Config.nestHeight) && (decide (Config.nestHeight ≤ s.ctl.effTarget) &&
    (s.stance.dishGoal.aimed && decide (Config.throughNest ≤ effCeiling s)))

def State.withUpwardDue (s : State) (b : Bool) : State := s.withCtl { s.ctl with upwardDue := b }

/-- R10 holds back a mast target: one above the extension, a retarget too, while a condition of R10 fails; but not the
target of 0 mm for a moving mast that reads below 0 mm, which so ends a rise in forced stow (DESIGN CHOICE, log 82). -/
def heldBack (s : State) (t : Int) : Bool :=
  decide (extension s < t) && (!upwardAllowed s && !(s.axes.mast.inMove && decide (t ≤ 0)))

/-- A mast target due: one that R10 holds back is not issued and stays due. -/
def issueMast (s : State) (t : Int) : State :=
  if heldBack s t then s.withUpwardDue true else giveMast (s.withUpwardDue false) t

/-- The mast at rest (R9): a move, the rise through the nest height, or nothing. -/
def driveResting (s : State) : State :=
  if near .mast s.ctl.effTarget (extension s) then
    (if risesThroughNest s then issueMast s Config.throughNest else s.withUpwardDue false)
  else issueMast s s.ctl.effTarget

/-- The mast is driven toward the effective target where `acts` says that R9 acts, or where an upward target that R10 held
back is due (log 55): retargeted while it moves, given a move at rest. A FAULTED mast records the target (R110, R145).
Nothing is issued while the mast goal still waits for the extension at rest (R21, R144). -/
def driveMast (s : State) (acts : Bool) : State :=
  if (!canIssue s || s.ctl.goalAtRest.isSome) || !(acts || s.ctl.upwardDue) then s
  else match s.axes.mast.phase with
    | .atRest => driveResting s
    | .faulted | .waiting | .releasing | .driving | .stopping | .engaging => issueMast s s.ctl.effTarget

/-! ## Recompute of the effective target (R9, R76) -/

/-- A changed effective target abandons a running search, and the touch-up mark is set (R76). -/
def abandonForHeight (s : State) : State :=
  if s.level.search.isSome then (endSearch s .abandoned .ok).withMark true else s

/-- The dish whose search the event abandoned is given the site targets in force at the event, SLEWING (R76). -/
def heightSlew (before s : State) : State :=
  if before.level.search.isSome then slewTo s before.ctl.siteTargets else s

/-- The recompute of the effective target and what follows from it. Where the result is the one in force, the mast is driven
as `acts` says. A new result abandons a running search (R76) and is put in force; then the targets are issued with the
mast's first (R9, R123; log 25), the dish that searched is given the site targets in force (R76), and the live site is
recomputed (R9, R44). -/
def recompute (s : State) (acts : Bool) : State :=
  if effectiveTarget s = s.ctl.effTarget then driveMast s acts
  else recomputeSite (heightSlew s (driveMast (setEff (abandonForHeight s)) true))

/-- The recompute of an event of R9: it acts where the result differs. -/
def recomputeEff (s : State) : State := recompute s false

/-- The recompute that issues the mast's target whatever its result: the mast has just come to rest (R9), HOLD_LINE is
released (R27), an exchange ended early (R88, R93), or the module wakes (R171). -/
def recomputeIssuing (s : State) : State := recompute s true

/-! ## Targets recorded for the end of a move (R101, R103) -/

/-- The stow target of an axis (R5). -/
def stowTarget : Axis → Int
  | .mast => 0
  | .pan => Config.stowPan
  | .tilt => Config.stowTilt
  | .pol => Config.stowPol

/-- A dish axis may be given a recorded target as one given in AT_REST: targets are given at all (R25, R27, R88), the
dish goal is not NONE (R6), the dish is not FAILED outside FORCED_STOW (R26), and below the nest height it is the stow
target (R11). -/
def recordStands (s : State) (a : Axis) (t : Int) : Bool :=
  canIssue s && (s.stance.dishGoal != .none && ((s.ctl.dishState != .failed || s.ctl.mode == .forcedStow) &&
    (!belowNest s || t == stowTarget a)))

/-- The end of a move with a target recorded (R101, R103): it is taken as a target given in AT_REST. A dish axis takes it
wherever a target may be given to it at rest (log 50). The mast's is issued by the recompute that follows the end of its
move, in the new mast state and under R10 (R4, R9). -/
def takeRecorded (before s : State) (a : Axis) : State :=
  match (before.axis a).next with
  | none => s
  | some (t, p) =>
    if (before.axis a).inMove = false ∨ (s.axis a).phase ≠ .atRest then s
    else if near a t (s.axis a).position then s.withAxis a { s.axis a with target := t }
    else if a ≠ .mast ∧ recordStands s a t = true then orLimit (axisGive s a t p) a
    else s

/-! ## Nest crossings (R7, R11, R100) -/

/-- A dish axis has a move in progress toward a target other than its stow target (R11). -/
def strays (s : State) (a : Axis) (stow : Int) : Bool := (s.axis a).inMove && decide ((s.axis a).target ≠ stow)

/-- The axes that the downward nest crossing stops. -/
def straying (s : State) : List Axis :=
  (if strays s .pan Config.stowPan then [Axis.pan] else []) ++
    ((if strays s .tilt Config.stowTilt then [Axis.tilt] else []) ++
      (if strays s .pol Config.stowPol then [Axis.pol] else []))

/-- The downward nest crossing (R11): moves other than stow moves get controlled stops, and a dish so stopped with a
SITE or POINT goal becomes NEST_WAIT once at rest, also where HOLD_LINE or a quiesce was stopping it (log 57). -/
def downCrossing (s : State) : State :=
  if straying s = [] then s
  else
    let s1 := controlledStops s (straying s)
    if s.level.search.isSome then s1
    else match s.stance.dishGoal with
      | .none => s1
      | .stow => s1
      | .site => s1.withDishShort (some .nest)
      | .point _ => s1.withDishShort (some .nest)

/-- The upward nest crossing (R7): a dish in NEST_WAIT, or on its way there, has its targets issued, and so has a
search whose probe targets waited for the nest height (R11). -/
def upCrossing (s : State) : State :=
  if !canIssue s then s
  else if s.ctl.dishState = .nestWait ∨ s.ctl.dishShort = some .nest then issueDish s
  else match s.level.search with
    | none => s
    | some c => if c.wait = .moving then giveDish s c.asked else s

/-- The crossings that a change of extension reports (R100). -/
def nestCrossings (old : Int) (s : State) : State :=
  if old < Config.nestHeight ∧ Config.nestHeight ≤ extension s then upCrossing s
  else if Config.nestHeight ≤ old ∧ extension s < Config.nestHeight then downCrossing s
  else s

end Sys2Proof.Machine
end

