-- ==== Sys2Proof/Machine/ForcedStow.lean ====
section
/-! DEFINITION. Forced-stow triggers (R143), the start of forced stow (R145) and its end (R148). -/
namespace Sys2Proof.Machine

/-- Forced stow starts (R145). A module already stowed at rest is given no move. A RAISE or LOWER that it ends reports the
effective target in force before (DESIGN CHOICE, log 72). -/
def forcedStowStart (s : State) : State :=
  let s1 := (swapEarlyEnd s .interlock).withMode .forcedStow
  let s2 := stopSearch s1 .abandoned false
  let s3 := endWhere s2 (ofKinds [.raise, .lower, .aim, .peak, .point]) .interlock
  let s4 := ((s3.withPeakPending false).withMark false).withMastGoal 0
  let s5 := (writeDishGoal s4 .stow).withGoalAtRest none
  let s6 := s5.withCtl { s5.ctl with resumeDue := false }
  if stowedAtRest s then setEff s6 else pursueDish (driveMast (setEff s6) true)

/-- A trigger is taken (R143): its fault is added, and in NORMAL or RECOVERY forced stow starts. -/
def takeTrigger (s : State) (f : Option FaultId) : State :=
  let s1 := match f with
    | none => s
    | some x => addFault s x
  match s1.ctl.mode with
  | .normal | .recovery => forcedStowStart s1
  | .starting | .standby | .forcedStow | .halted => s1

/-- Take the triggers marked, several in the order of R143's table (log 63). -/
def takeTriggers (s : State) (t : Triggers) : State :=
  let s1 := if t.vanMoved then takeTrigger s (some .vanMoved) else s
  let s2 := if t.attitude then takeTrigger s1 (some .attitude) else s1
  let s3 := if t.windStow then takeTrigger s2 (some .windStow) else s2
  if t.stowLine then takeTrigger s3 none else s3

/-- The conditions that have come to hold since the last judgement (R143). -/
def newTriggers (now was : Triggers) : Triggers :=
  ⟨now.vanMoved && !was.vanMoved, now.attitude && !was.attitude, now.windStow && !was.windStow,
    now.stowLine && !was.stowLine⟩

def State.withJudged (s : State) (t : Triggers) : State := s.withIlk { s.ilk with judged := t }

/-- The judgement at an event that can change the conditions (R143). -/
def judgeTriggers (s : State) : State :=
  if running s then
    takeTriggers (s.withJudged (triggerConditions s)) (newTriggers (triggerConditions s) s.ilk.judged)
  else s

/-- Every condition that holds is taken again: at READY and at the return from HALTED (R143). -/
def takeAll (s : State) : State := takeTriggers (s.withJudged (triggerConditions s)) (triggerConditions s)

/-- Forced stow has come to its ordinary end (R148). -/
def stowComplete (s : State) : Bool :=
  s.ctl.mastState == .nested && (s.ctl.dishState == .stowed && !s.ilk.lines.stow)

/-- Forced stow can go no further with a FAILED dish (R148), also where HOLD_LINE has stopped its stow (log 64). -/
def stowStuck (s : State) : Bool :=
  s.ctl.dishState == .failed && (dishAtRest s && (mastAtRest s && near .mast s.ctl.effTarget (extension s)))

/-- The end of forced stow, when it has come (R148). -/
def forcedStowEnd (s : State) : State :=
  if s.ctl.mode ≠ .forcedStow then s
  else if stowComplete s then recomputeEff (endWhere (s.withMode .normal) (ofKinds [.stow]) .ok)
  else if stowStuck s then enterHalted s
  else s

end Sys2Proof.Machine
end

