-- ==== Sys2Proof/Machine/Exchange.lean ====
section
/-! DEFINITION. The exchange after its take: the quiesce (R87), the write-out (R58, R89), the load (R59, R90, R91), and
the resume after an early end (R93). -/
namespace Sys2Proof.Machine

/-- The start of the quiesce (R87): a search is abandoned with peak pending set, the watch is suspended, every moving
axis gets a controlled stop. A moving dish is to be STOWED or PARKED, one that the downward nest crossing was stopping
too (log 57). -/
def quiesceStart (s : State) : State :=
  let searching := s.level.search.isSome
  let s1 := if searching then (stopSearch s .abandoned true).withPeakPending true else s
  let s2 := controlledStops (s1.withLevel { s1.level with watch := none }) allAxes
  if searching then dishStands s2 else if dishAtRest s then s2 else dishStands s2

/-- No axis has a move in progress and the mast lock is ENGAGED (R87). -/
def allQuiet (s : State) : Bool := dishAtRest s && (!s.axes.mast.inMove && s.axes.lock == .engaged)

/-- The trim block handed over at the write-out (R58, R89). -/
def outgoingTrim (s : State) : Trim :=
  match s.stance.site with
  | none => Trim.zero
  | some n => (s.entry n).trim

/-- The write-out of the outgoing stance (R89). -/
def writeOut (s : State) : State :=
  s.withMem (writeBytes s.mem (packageAddr s.swap.number) (packageBytes s.stance (outgoingTrim s) s.geo.fixGen))

/-- Whether a package's trims are adopted (R59, step 2). -/
def adopts (s : State) (p : Package) : Bool :=
  p.trim.valid && (match s.geo.fix with | none => false | some f => trimKept p.trim f)

/-- The adoption at the load (R59): the revision check, then the trims if they pass. -/
def adoptTrims (s : State) (p : Package) : State :=
  match siteOfByte p.site with
  | none => s
  | some n =>
    let e := (s.entry n).checked (readSite s.mem n.val).revision
    s.withEntry n (if adopts s p then { e with trim := p.trim } else e)

/-- Whether adoption happened, for the result data (R90). -/
def adopted (s : State) (p : Package) : Bool := (siteOfByte p.site).isSome && adopts s p

/-- What the load does about the site of a SITE goal (R90, step 3): the state, the warnings, and the served byte. -/
def serveSite (s : State) (p : Package) : State × Warnings × Nat :=
  if p.dishGoal ≠ 2 then (s, Warnings.empty, 0)
  else match siteOfByte p.site, aimCheck s p.site with
    | some n, none =>
      let s1 := deriveSite (obtainSolution s n)
      (s1, solutionWarnings (s1.entry n), 1)
    | none, _ => ((writeDishGoal s .none).withPeakPending false, Warnings.empty, 2)
    | some _, some _ => ((writeDishGoal s .none).withPeakPending false, Warnings.empty, 2)

/-- The snapshot becomes the live stance (R90, step 1), with the effective target computed again for it (R88). -/
def loadStance (s : State) (p : Package) : State :=
  let s1 := (writeDishGoal (s.withStance p.stance) p.stance.dishGoal).withGoalAtRest none
  setEff (s1.withLevel { s1.level with watch := none })

/-- From the load the incoming stance is driven, the mast first (R91). A goal of NONE issues nothing. -/
def driveStance (s : State) : State :=
  let s1 := driveMast s true
  match s1.stance.dishGoal with
  | .none => dishStands s1
  | .stow | .site | .point _ => pursueDish s1

/-- The load (R90, R91). A RAISE or LOWER that it ends reports the effective target of the incoming stance (DESIGN CHOICE,
log 72). -/
def loadPackage (s : State) : State :=
  let p := s.swap.snapshot
  let out := siteByte s.stance.site
  let s1 := loadStance s p
  let s2 := adoptTrims s1 p
  let r := serveSite s2 p
  let s3 := endWhere r.1 (ofKinds stanceKinds) .swappedOut
  let data := leBytes 1 out ++ leBytes 1 p.site ++ flagByte (adopted s1 p) ++ leBytes 1 r.2.2
  let s4 := completeSwap s3 s3.swap.slot .ok r.2.1 data
  driveStance (s4.withSwap { s4.swap with phase := .idle })

/-- The end of the quiesce, when it has come: write-out and load in one event (R87, R89, R90). -/
def quiesceEnd (s : State) : State :=
  if s.swap.phase = .quiesce ∧ allQuiet s then loadPackage (writeOut s) else s

/-- The resume of the outgoing stance after an early end, where the mode is NORMAL: the mast moves to whatever the ceiling
allows (R88), and a dish that is not FAILED has its targets issued (R93). -/
def resumeStance (s : State) : State :=
  if s.ctl.resumeDue then
    let s1 := s.withCtl { s.ctl with resumeDue := false }
    if s1.ctl.mode = .normal then
      let s2 := recomputeIssuing s1
      if canIssue s2 ∧ s2.ctl.dishState ≠ .failed then reissueDish s2 else s2
    else s1
  else s

end Sys2Proof.Machine
end

