-- ==== Sys2Proof/Machine/Settle.lean ====
section
/-! DEFINITION. What every event brings about once its own rule has acted: the end of a mast move, the stow status, the
arrival of the dish, the running search, the forced-stow triggers, the completions that wait on motion, the ends of
forced stow and of a quiesce, and the header write. -/
namespace Sys2Proof.Machine

/-! ## The mast comes to rest (R4, R21, R25, R144) -/

/-- The extension at rest that a waiting mast goal takes (R21, R25, R144). -/
def restGoal (s : State) : GoalAtRest → Int
  | .halt => adoptedHeight (extension s)
  | .overhead => adoptedHeight (extension s)
  | .halted => adoptedHeight (haltedExtension s)

/-- A dish goal of SITE or POINT gives way to a mast goal below the nest height, so that the stance stays valid (R2): after
an OVERHEAD stop as R144 gives, after HALT and the entry into HALTED to their own dish goal of NONE, with the results
their rules give (log 49). -/
def unaim (s : State) (why : GoalAtRest) : State :=
  let s1 := (stopSearch s .abandoned false).withPeakPending false
  match why with
  | .halt => setDishGoal (endWhere s1 (ofKinds [.aim, .peak, .point]) .halted) .none
  | .overhead => setDishGoal (endWhere s1 (ofKinds [.aim, .peak, .point]) .faulted) .stow
  | .halted => setDishGoal (endWhere s1 (ofKinds [.aim, .peak, .point]) .faulted) .none

/-- The mast goal that waited for the mast to come to rest is set, and the stance kept valid (R2, R21, R25, R144). -/
def fixGoal (s : State) : State :=
  match s.ctl.goalAtRest with
  | none => s
  | some why =>
    let s1 := (s.withMastGoal (restGoal s why)).withGoalAtRest none
    if s1.stance.mastGoal < Config.nestHeight ∧ s1.stance.dishGoal.aimed = true then unaim s1 why else s1

def State.withMastState (s : State) (m : MastState) : State := s.withCtl { s.ctl with mastState := m }

/-- The end of a mast move: NESTED or HELD once the lock is ENGAGED (R4), and a recompute (R9). A FAULTED mast only
fixes a goal that waits for it (R25). -/
def mastRest (s : State) : State :=
  match s.axes.mast.phase with
  | .atRest =>
    if s.ctl.mastState = .rising ∨ s.ctl.mastState = .descending then
      recomputeIssuing (fixGoal (s.withMastState (restingMast s)))
    else if s.ctl.goalAtRest.isSome then recomputeIssuing (fixGoal s)
    else s
  | .faulted => if s.ctl.goalAtRest.isSome then recomputeEff (fixGoal s) else s
  | .waiting | .releasing | .driving | .stopping | .engaging => s

/-! ## Stow status (R5) -/

/-- A change of stow status is an event of R9. -/
def stowStatusPass (s : State) : State :=
  if inWindow s = s.ctl.stowStatus then s else recomputeEff (s.withCtl { s.ctl with stowStatus := inWindow s })

/-! ## The dish comes to rest (R6, R7, R45) -/

/-- A touch-up follows an arrival (R45). -/
def touchUpDue (s : State) : Bool := s.stance.watch && (liveEntry s).trim.valid

/-- Arrival at the site targets (R7, R18, R45): an AIM without peak-after completes, and a pending search, or else a
marked touch-up, starts. -/
def arriveSite (s : State) : State :=
  let marked := s.ctl.touchUpMark
  let s1 := endWhere ((s.withDish .onSolution).withMark false) (fun c => c.kind == .aim && !c.peakAfter) .ok
  if s1.stance.peakPending then startSearch s1 .full
  else if marked && touchUpDue s1 then startSearch s1 .touchUp
  else s1

/-- Arrival of a SLEWING dish (R7). -/
def arriveDish (s : State) : State :=
  match s.stance.dishGoal with
  | .site => arriveSite s
  | .point _ => endWhere ((s.withDish .parked).withMark false) (ofKinds [.point]) .ok
  | .none => s.withDish (restingDish s)
  | .stow => s.withDish (restingDish s)

/-- A dish stopped short is at rest (R6, R7, R11). -/
def shortRest (s : State) (k : StopShort) : State :=
  let s1 := s.withDishShort none
  match k with
  | .stop => s1.withDish (restingDish s1)
  | .nest => if belowNest s1 then nestWait s1 else pursueDish s1

/-- The dish comes to rest. -/
def dishRest (s : State) : State :=
  if !dishAtRest s || s.ctl.dishState == .failed then s
  else match s.ctl.dishShort with
    | some k => shortRest s k
    | none =>
      match s.ctl.dishState with
      | .stowing => s.withDish (restingDish s)
      | .slewing => if dishOnTargets s then arriveDish s else s.withDish (restingDish s)
      | .peaking => if s.level.search.isSome then s else s.withDish (restingDish s)
      | .stowed | .nestWait | .parked | .onSolution | .locked | .failed => s

/-! ## Completions that wait on motion (R15, R16, R17) -/

/-- The mast is at rest in the sense in which RAISE and LOWER complete (R101). -/
def mastResting (s : State) : Bool :=
  (s.ctl.mastState == .nested || s.ctl.mastState == .held) && mastAtRest s

/-- RAISE and LOWER complete: at rest within 20 mm of an effective target not held at the nest (R15, R16), at a rest that
HOLD_LINE has made too (log 69). A mast that R9 sends on from such a rest to 1,521 mm is moving again by then, so they
complete after that rise (log 53). -/
def heightReached (s : State) : Bool :=
  mastResting s && (near .mast s.ctl.effTarget (extension s) && !heldAtNest s)

/-- The ceiling has taken the effective target below the goal (R15). -/
def ceilingLimited (s : State) : Bool :=
  decide (s.ctl.effTarget < s.stance.mastGoal) && decide (effCeiling s < s.stance.mastGoal)

/-- A command with the warning it gains at its completion (R159). -/
def OpenCommand.atHeight (c : OpenCommand) (s : State) : OpenCommand :=
  { c with warnings := { c.warnings with ceilingLimited := c.warnings.ceilingLimited || ceilingLimited s } }

/-- Complete RAISE and LOWER at the height reached. -/
def completeHeights (s : State) : State :=
  let done := openWhere s (ofKinds [.raise, .lower])
  done.foldl (fun t c => complete t (c.atHeight s) .ok) s

/-- A LOWER of forced stow has its height (R16). -/
def lowerDone (s : State) (c : OpenCommand) : Bool :=
  c.kind == .lower && ((mastResting s && decide (extension s ≤ c.height)) || s.ctl.mastState == .nested)

/-- The completions that the state now allows; none during a quiesce (R87). -/
def completeOpen (s : State) : State :=
  if s.swap.phase = .quiesce then s
  else match s.ctl.mode with
    | .forcedStow => endWhere s (lowerDone s) .ok
    | .normal =>
      let s1 := if heightReached s then completeHeights s else s
      if s1.ctl.mastState = .nested ∧ s1.ctl.dishState = .stowed then endWhere s1 (ofKinds [.stow]) .ok else s1
    | .starting | .standby | .recovery | .halted => s

/-! ## The whole -/

/-- One pass over what an event may bring about, in the model's order (log 67). -/
def settleOnce (s : State) : State :=
  let s1 := searchPass (dishRest (stowStatusPass (mastRest s)))
  quiesceEnd (resumeStance (forcedStowEnd (completeOpen (judgeTriggers s1))))

/-- What an event brings about from READY onward. A pass that ends an exchange, forced stow or a mode gives the next
pass its arrivals and completions. -/
def settle (s : State) : State :=
  if running s then settleOnce (settleOnce (settleOnce s)) else s

/-- The end of an event: what it brings about, and one header write for the fields it changed (R162). -/
def endEvent (before s : State) : State := updateHeader before (settle s)

end Sys2Proof.Machine
end

