-- ==== Sys2Proof/Machine/Takes.lean ====
section
/-! DEFINITION. The take of a slot (R157): when takes are made, the checks every command shares, and the mode gate
(R14). -/
namespace Sys2Proof.Machine

/-- Takes are made (R157): a mode that takes commands, and no exchange in progress. -/
def takesAllowed (s : State) : Bool := running s && s.swap.phase == .idle

/-- The mode gate (R14): the refusal of a command, `none` when it is passed. -/
def gate (m : Mode) (k : Kind) : Option Code :=
  match m with
  | .starting | .standby => some .badState
  | .normal =>
    match k with
    | .recoverHold => some .badState
    | .raise | .lower | .stow | .aim | .peak | .point | .halt | .swap | .setFix | .setLimits | .clearFault
    | .standby => none
  | .recovery =>
    match k with
    | .stow | .recoverHold | .setFix | .setLimits | .clearFault => none
    | .raise | .lower | .aim | .peak | .point | .halt | .swap | .standby => some .badState
  | .forcedStow =>
    match k with
    | .lower | .stow | .setFix | .setLimits | .clearFault => none
    | .recoverHold => some .badState
    | .raise | .aim | .peak | .point | .halt | .swap | .standby => some .interlock
  | .halted =>
    match k with
    | .halt | .setFix | .setLimits | .clearFault => none
    | .raise | .lower | .stow | .aim | .peak | .point | .recoverHold | .swap | .standby => some .badState

/-- What the common steps of a take come to. -/
inductive TakeResult where
  /-- No take of this kind can be made: takes are not made, the intake list is empty, or its oldest slot holds a
  command of another kind (log 3). -/
  | notTaken
  /-- The owner reads HOST: the slot is dropped. -/
  | dropped
  /-- The slot is refused. -/
  | refused (n : Slot) (c : Code)
  /-- The command goes to its owning block. -/
  | passed (n : Slot)
  deriving DecidableEq, Repr

/-- The steps of a take up to the owning block (R157, R14). -/
def takeSteps (s : State) (k : Kind) : TakeResult :=
  if !takesAllowed s then .notTaken
  else match s.board.intake with
    | [] => .notTaken
    | n :: _ =>
      if slotOwner s.mem n = 0 then .dropped
      else match Kind.ofCode (slotKind s.mem n) with
        | none => .refused n .badKind
        | some k' =>
          if k' ≠ k then .notTaken
          else if !recordOk s.mem n k then .refused n .badRecord
          else match gate s.ctl.mode k with
            | some c => .refused n c
            | none => .passed n

/-- The oldest slot leaves the intake list. -/
def popIntake (s : State) : State := s.withBoard { s.board with intake := s.board.intake.tail }

/-- A take of a command of kind `k`, whose owning block does `own` with the slot. -/
def take (k : Kind) (own : State → Slot → State) (s : State) : State :=
  match takeSteps s k with
  | .notTaken => s
  | .dropped => popIntake s
  | .refused n c => refuse (popIntake s) n c
  | .passed n => own (popIntake s) n

/-- The whole event of a take. -/
def takeEvent (k : Kind) (own : State → Slot → State) (s : State) : State := endEvent s (take k own s)

/-- The whole event of a take whose accepted record is written into the header, changed or not: its fields join the one
header write of the event (R162). -/
def takeWriting (k : Kind) (accepts : Slot → Bool) (own : State → Slot → State)
    (fields : State → List (Nat × List Byte)) (s : State) : State :=
  let t := settle (take k own s)
  match takeSteps s k with
  | .passed n => updateHeaderWith s t (if accepts n then fields t else [])
  | .notTaken => updateHeader s t
  | .dropped => updateHeader s t
  | .refused _ _ => updateHeader s t

end Sys2Proof.Machine
end

