-- ==== Sys2Proof/Machine/WindMonitor.lean ====
section
/-! DEFINITION. The Wind Monitor (R125 to R133): samples and figures, the applied band and its residency, the hand-off
of the ceiling, and priming. -/
namespace Sys2Proof.Machine

/-! ## Samples and figures (R125) -/

/-- The speed of a second's pulses (R125). -/
def speedOf (k pulses : Nat) : Nat := min 999 (pulses * 10 / k)

/-- A speed joins the window; a fourth pushes the oldest out (R125). -/
def joinWindow (w : List Nat) (speed : Nat) : List Nat :=
  let l := w ++ [speed]
  if 3 < l.length then l.tail else l

/-- The largest speed of the window. -/
def largest (w : List Nat) : Nat := w.foldl max 0

/-- ANEMO_OK was high throughout the second just ended (R125). -/
def secondHigh (s : State) : Bool := s.wind.anemoOk && !s.wind.lowInSecond

/-- A new second begins: it is low from its start when ANEMO_OK is low. -/
def newSecond (s : State) : State := s.withWind { s.wind with lowInSecond := !s.wind.anemoOk }

/-- The speed joins the window, in a second that gives a sample; the figure is not touched. -/
def sampleWindow (s : State) (pulses : Nat) : State :=
  if secondHigh s then s.withWind { s.wind with window := joinWindow s.wind.window (speedOf s.limits.anemoK pulses) }
  else s

/-! ## The applied band (R127) -/

/-- The residency period restarts (R127). `off` says that this is between two sample times (log 8). -/
def restartResidency (s : State) (off : Bool) : State :=
  s.withWind { s.wind with residency := some ⟨0, s.limits.residency, off⟩ }

/-- A full residency period has passed since the residency start. -/
def residencyPassed (s : State) : Bool :=
  match s.wind.residency with
  | none => false
  | some r => decide (r.period + (if r.offCadence then 1 else 0) ≤ r.elapsed)

/-- A second of the residency period passes. -/
def ageResidency (s : State) : State :=
  s.withWind { s.wind with residency := s.wind.residency.map (fun r => { r with elapsed := r.elapsed + 1 }) }

/-- The hold timer counts down at the sample times. -/
def ageHold (s : State) : State := s.withWind { s.wind with holdTimer := s.wind.holdTimer.map (· - 1) }

def State.withBand (s : State) (b : Nat) : State := s.withWind { s.wind with band := b }

/-- A judgement of a figure against the applied band (R127); one that may not lower it is R135's. -/
def judgeFigure (s : State) (figure : Nat) (mayFall off : Bool) : State :=
  let b := bandOf s.limits figure
  if s.wind.band < b then restartResidency (s.withBand b) off
  else if b = s.wind.band then restartResidency s off
  else if mayFall && residencyPassed s then restartResidency (s.withBand (s.wind.band - 1)) off
  else s

/-- The hand-off of the ceiling (R128): to the Interlock and Fault Unit, to the Stance Controller, and CEILING_CHANGE
to the Board Manager when the applied band changed. -/
def handOff (before : State) (s : State) : State :=
  let s1 := if effCeiling before = effCeiling s then s else recomputeEff (judgeTriggers s)
  if before.wind.band = s.wind.band then s1 else setNotice s1 noticeCondition

/-- A figure event (R127, R128). -/
def figureEvent (s : State) : State := handOff s (judgeFigure s s.wind.figure true false)

/-! ## A sample time (R125, R131, R132) -/

def State.withFigure (s : State) (f : Nat) : State := s.withWind { s.wind with figure := f }

/-- The figure that REFILL carries on (R132). -/
def carriedFigure (s : State) : Nat :=
  match s.wind.carry with
  | .heldFigure => s.wind.figure
  | .bandTwo => s.limits.t2

/-- A sample time of REFILL: the third fresh speed ends it (R132). -/
def refillSample (s : State) (pulses : Nat) : State :=
  let s1 := sampleWindow s pulses
  let count := if secondHigh s then s.wind.refill + 1 else s.wind.refill
  if count = 3 then
    (s1.withWind { s1.wind with refill := count, anem := .sampling }).withFigure (largest s1.wind.window)
  else (s1.withWind { s1.wind with refill := count }).withFigure (carriedFigure s)

/-- The figure of a sample time, by the anemometer state. -/
def sampleFigure (s : State) (pulses : Nat) : State :=
  match s.wind.anem with
  | .sampling =>
    let s1 := sampleWindow s pulses
    if secondHigh s then s1.withFigure (largest s1.wind.window) else s1
  | .hold => s
  | .degraded => s.withFigure s.limits.t2
  | .refill => refillSample s pulses

/-- A sample time during priming: no figure event is judged (R133). With no speed in the window yet the figure is 0
(log 52). -/
def primingSample (s : State) (pulses : Nat) : State :=
  let s1 := sampleWindow s pulses
  newSecond (s1.withFigure (largest s1.wind.window))

/-- A sample time outside priming. -/
def windSample (s : State) (pulses : Nat) : State :=
  figureEvent (newSecond (ageHold (ageResidency (sampleFigure s pulses))))

/-! ## Priming (R133) -/

/-- ANEMO_OK is lost during priming. -/
def primingLoss (s : State) : State :=
  (reportFault s (.sensor .anemo)).withWind { (reportFault s (.sensor .anemo)).wind with primingLost := true }

/-- The Wind Monitor starts running and primes (R133). An ANEMO_OK that is low then is a loss at once. The figure stays
until the first sample time (log 52). -/
def startPriming (s : State) : State :=
  let s1 := s.withWind { s.wind with
    running := true, priming := true, primingLost := false, window := [], anem := .sampling, holdTimer := none
    refill := 0, lowInSecond := !s.wind.anemoOk }
  if s.wind.anemoOk then s1 else primingLoss s1

/-- The third sample time ends priming (R133): the applied band, the anemometer state, and a residency restart. -/
def endPriming (s : State) (pulses : Nat) : State :=
  let s1 := primingSample s pulses
  let w := s1.wind
  let s2 :=
    if w.primingLost then
      s1.withWind { w with
        band := 2, figure := s1.limits.t2, carry := .bandTwo, refill := 0
        window := if w.anemoOk then [] else w.window
        anem := if w.anemoOk then .refill else .degraded }
    else s1.withWind { w with band := bandOf s1.limits w.figure, anem := .sampling }
  restartResidency (s2.withWind { s2.wind with priming := false, primingLost := false }) false

/-- Entry into STANDBY (R133). The figure stays as it was (log 52). -/
def stopWind (s : State) : State :=
  s.withWind { s.wind with
    running := false, priming := false, primingLost := false, window := [], anem := .sampling, holdTimer := none }

end Sys2Proof.Machine
end

