-- ==== Sys2Proof/Machine/Standby.lean ====
section
/-! DEFINITION. Entry into standby, the wake, and what READY sets after a reset or a wake (R169 to R171). -/
namespace Sys2Proof.Machine

/-- A wake event (R171): WAKING, and the priming of a wake begins. -/
def wake (s : State) : State := startPriming (s.withPower { s.power with standby := .waking })

/-- A wake event in ASLEEP; in any other standby state it wakes nothing (R171). -/
def wakeIfAsleep (s : State) : State := if s.power.standby = .asleep then wake s else s

/-- The Level Monitor and the level watch stop (R61, R78). -/
def stopLevel (s : State) : State := s.withLevel { s.level with running := false, search := none, watch := none }

/-- The Level Monitor begins afresh (R61). -/
def startLevel (s : State) : State :=
  s.withLevel { s.level with
    running := true, history := List.replicate 20 Config.levelFloor, held := Config.levelFloor, invalidRun := 0 }

/-- A telemetry page write in progress completes and writing stops (R163). -/
def stopTelemetry (s : State) : State := (endPage s).withTelem { (endPage s).telem with timer := none }

/-- The dish goal is kept through standby (R170), but for one of SITE or POINT, which the mast goal of a nested mast would
make invalid (R2, log 49). -/
def standbyGoal (s : State) : State := if s.stance.dishGoal.aimed then writeDishGoal s .none else s

/-- Entry into standby (R170). A slot already waiting wakes the module in the same event. -/
def enterStandby (s0 : State) : State :=
  let s := standbyGoal s0
  let s1 := (((s.withMastGoal (adoptedHeight (extension s))).withPeakPending false).withMark false).withMode .standby
  let s2 := s1.withPower { s1.power with standby := .asleep, ready := false }
  let s3 := setEff (stopTelemetry (stopWind (stopLevel s2)))
  if s3.board.intake = [] then s3 else wake s3

/-- The mast state at READY (R4). -/
def readyMast (s : State) : MastState := if axisHasFault s.ilk.faults .mast then .failed else restingMast s

/-- The dish state at READY (R6). -/
def readyDish (s : State) : DishState :=
  if axisHasFault s.ilk.faults .pan || (axisHasFault s.ilk.faults .tilt || axisHasFault s.ilk.faults .pol) then .failed
  else restingDish s

/-- Mast state, dish state and stow status are set at READY (R4, R5, R6). -/
def readyStates (s : State) : State :=
  let s1 := (s.withDish (readyDish s)).withDishShort none
  s1.withCtl { s1.ctl with mastState := readyMast s, stowStatus := inWindow s }

/-- READY is signalled (R169, R171). -/
def signalReady (s : State) : State := setNotice (s.withPower { s.power with ready := true }) noticeReady

/-- A mast FAILED at READY takes the mode on to HALTED (R25). -/
def readyHalted (s : State) : State := if s.ctl.mastState = .failed then enterHalted s else s

end Sys2Proof.Machine
end

