-- ==== Sys2Proof/Machine/WarmUp.lean ====
section
/-! DEFINITION. The end of the WARM_UP of start-up (R166): at the reading that leaves every sensor valid, or after 2 s. -/
namespace Sys2Proof.Machine

/-- An axis whose encoder is not valid at the end of WARM_UP: SENSOR(axis), FAULTED at position 0 and target 0. -/
def warmAxis (s : State) (a : Axis) : State :=
  if (s.axis a).encValid then s
  else
    dropRequest ((reportFault s (.sensor (.axis a))).withAxis a
      { s.axis a with phase := .faulted, position := 0, target := 0 }) a

/-- The inclinometer at the end of WARM_UP. -/
def warmIncl (s : State) : State := if s.ilk.inclValid then s else reportFault s (.sensor .incl)

/-- The end of WARM_UP: sensor faults, in the order MAST, PAN, TILT, POL, INCL (log 70), switches recorded (R108), the wind
priming of start-up (R133). -/
def warmUpEnded (s : State) : State :=
  let s1 := warmIncl (allAxes.foldl warmAxis s)
  let s2 := s1.withAxes { s1.axes with tripped := s1.axes.contacts }
  startPriming (s2.withPower { s2.power with phase := .priming })

/-- All four encoders and the inclinometer report valid. -/
def sensorsValid (s : State) : Bool := allAxes.all (fun a => (s.axis a).encValid) && s.ilk.inclValid

/-- A reading has been taken: in WARM_UP the first after which every sensor is valid ends the phase (R166). -/
def warmUpReading (s : State) : State :=
  if s.power.phase = .warmUp ∧ sensorsValid s = true then warmUpEnded s else s

end Sys2Proof.Machine
end

