-- ==== Sys2Proof/Machine/AxisEvents.lean ====
section
/-! DEFINITION. The events of the axes: encoder readings and losses (R100, R109, R166), limit switches (R108),
standstill, lock phases, deadlines and stop limits (R99 to R106). -/
namespace Sys2Proof.Machine

/-! ## Encoder readings (R100, R109, R152, R166) -/

/-- The MAST_UP lamp follows the extension (R152). -/
def setLamp (s : State) : State :=
  s.withPower { s.power with mastUpLamp := decide (Config.nestedLimit < extension s) }

/-- A valid reading becomes the position (R97, R109); the first of start-up is the target too (R166). -/
def putReading (s : State) (a : Axis) (v : Int) : State :=
  let x := s.axis a
  let first := s.power.phase == .warmUp && !x.everValid
  let s1 := s.withAxis a { x with
    position := v, encValid := true, everValid := true, lastValid := v, target := if first then v else x.target }
  if a = .mast then setLamp s1 else s1

/-- The mast has come within 20 mm of its target, or past it since the last reading, while it is driven (R100). -/
def mastArrives (s : State) (old : Int) : Bool :=
  let x := s.axes.mast
  x.phase == .driving && (!x.arrived && (near .mast x.target x.position ||
    ((decide (old < x.target) && decide (x.target < x.position)) ||
      (decide (x.target < old) && decide (x.position < x.target)))))

/-- The arrival of the mast: its deadline is cancelled and standstill awaited (R100, R101). -/
def mastArrival (s : State) (old : Int) : State :=
  if mastArrives s old then s.withAxis .mast { s.axes.mast with arrived := true, deadline := none } else s

/-- A reading from READY onward: the arrival of the mast and the nest crossings (R100). -/
def readingMoves (s : State) (a : Axis) (old : Int) : State :=
  if a = .mast then nestCrossings old (mastArrival s old) else s

/-- A valid reading of an encoder; before READY it may end WARM_UP (R166). -/
def takeEncoder (s : State) (a : Axis) (v : Int) : State :=
  let s1 := putReading s a v
  if running s then endEvent s (readingMoves s1 a (s.axis a).position) else updateHeader s (warmUpReading s1)

/-- ENCODER_READING (R100). -/
def execEncoderReading (a : Axis) (v : Int) (s : State) : Host.Outcome State Fault Refusal :=
  .next (if sensorsOff s then s else takeEncoder s a v)

/-- ENCODER_VALID_RETURN (R109): the new reading is the position at once; a FAULTED axis stays FAULTED. -/
def execEncoderValidReturn (a : Axis) (v : Int) (s : State) : Host.Outcome State Fault Refusal :=
  .next (if sensorsOff s then s else takeEncoder s a v)

/-! ## Encoder loss (R109) -/

/-- The valid flag clears. -/
def clearValid (s : State) (a : Axis) : State := s.withAxis a { s.axis a with encValid := false }

/-- ENCODER_INVALID (R109). During WARM_UP and the wake warm-up it reports nothing; a flag already clear does not clear
again. The stop makes its grant check before the other axes are stopped (DESIGN CHOICE, log 75). A mast that has arrived and
awaits its standstill makes the immediate stop of DRIVING (DESIGN CHOICE, log 77). -/
def execEncoderInvalid (a : Axis) (s : State) : Host.Outcome State Fault Refusal :=
  .next (if sensorsOff s || !(s.axis a).encValid then s
    else if sensorsWarming s then clearValid s a
    else endEvent s (axisFault (immediateStop (clearValid s a) a true) a (.sensor (.axis a))))

/-! ## Limit switches (R108) -/

/-- The axis of a switch. -/
def switchAxis : Switch → Axis
  | .mastTop => .mast
  | .panPlus => .pan
  | .panMinus => .pan
  | .tiltUp => .tilt
  | .tiltDown => .tilt

def Switches.get (x : Switches) : Switch → Bool
  | .mastTop => x.mastTop
  | .panPlus => x.panPlus
  | .panMinus => x.panMinus
  | .tiltUp => x.tiltUp
  | .tiltDown => x.tiltDown

def Switches.put (x : Switches) (sw : Switch) (b : Bool) : Switches :=
  match sw with
  | .mastTop => { x with mastTop := b }
  | .panPlus => { x with panPlus := b }
  | .panMinus => { x with panMinus := b }
  | .tiltUp => { x with tiltUp := b }
  | .tiltDown => { x with tiltDown := b }

/-- The axis's target lies toward the switch (R108). -/
def towardSwitch (s : State) (sw : Switch) : Bool :=
  let x := s.axis (switchAxis sw)
  match sw with
  | .mastTop | .panPlus | .tiltUp => decide (x.position < x.target)
  | .panMinus | .tiltDown => decide (x.target < x.position)

/-- The contacts are looked at but not yet recorded as tripped: up to the end of WARM_UP (R108). -/
def switchesUnread (s : State) : Bool := s.power.phase == .settle || s.power.phase == .warmUp

/-- A switch closes or opens: its contact, and outside start-up its record (R108). -/
def putSwitch (s : State) (sw : Switch) (b : Bool) : State :=
  s.withAxes { s.axes with
    contacts := s.axes.contacts.put sw b
    tripped := if switchesUnread s then s.axes.tripped else s.axes.tripped.put sw b }

/-- A trip that stops the axis: it has a move in progress toward the switch, and has not arrived (R108, R114). -/
def tripStops (s : State) (sw : Switch) : Bool :=
  let x := s.axis (switchAxis sw)
  (x.inMove && towardSwitch s sw) && (!x.arrived && (x.phase != .engaging || x.skidding))

/-- LIMIT_SWITCH_TRIP (R108). The stop makes its grant check before the other axes are stopped (DESIGN CHOICE, log 75). -/
def execLimitSwitchTrip (sw : Switch) (s : State) : Host.Outcome State Fault Refusal :=
  let a := switchAxis sw
  .next (if s.axes.contacts.get sw then s
    else if tripStops s sw then endEvent s (axisFault (immediateStop (putSwitch s sw true) a true) a (.limit a))
    else putSwitch s sw true)

/-- LIMIT_SWITCH_OPEN (R108). -/
def execLimitSwitchOpen (sw : Switch) (s : State) : Host.Outcome State Fault Refusal := .next (putSwitch s sw false)

/-! ## Standstill and lock phases (R99 to R101, R105, R106) -/

/-- STANDSTILL (R100). -/
def execStandstill (a : Axis) (s : State) : Host.Outcome State Fault Refusal :=
  .next (endEvent s (takeRecorded s (standstillAxis s a) a))

/-- LOCK_RELEASE_END (R99). -/
def execLockReleaseEnd (s : State) : Host.Outcome State Fault Refusal :=
  .next (if s.axes.lock = .releasing ∧ s.axes.mast.phase = .releasing then endEvent s (lockReleased s) else s)

/-- LOCK_ENGAGE_END (R101). -/
def execLockEngageEnd (s : State) : Host.Outcome State Fault Refusal :=
  .next (if s.axes.lock = .engaging ∧ s.axes.mast.phase = .engaging then
    endEvent s (takeRecorded s (lockEngaged s) .mast) else s)

/-! ## Deadlines and stop limits (R102, R105, R106) -/

/-- A stall: an immediate stop for the axis's own fault, and STALL(axis). The stop makes its grant check before the other
axes are stopped (DESIGN CHOICE, log 75). -/
def stall (s : State) (a : Axis) : State := axisFault (immediateStop s a true) a (.stall a)

/-- DEADLINE_EXPIRY (R102). -/
def execDeadlineExpiry (a : Axis) (s : State) : Host.Outcome State Fault Refusal :=
  .next (if (s.axis a).deadline.isSome then endEvent s (stall s a) else s)

/-- CONTROLLED_STOP_TIMEOUT (R105). -/
def execControlledStopTimeout (a : Axis) (s : State) : Host.Outcome State Fault Refusal :=
  .next (if (s.axis a).phase = .stopping ∧ (s.axis a).stop = some .controlled then endEvent s (stall s a) else s)

/-- An immediate stop under way that has found no standstill (R106). -/
def immediateUnderWay (s : State) (a : Axis) : Bool :=
  (s.axis a).stop == some .immediate && ((s.axis a).phase == .stopping || (s.axis a).skidding)

/-- IMMEDIATE_STOP_TIMEOUT (R106). -/
def execImmediateStopTimeout (a : Axis) (s : State) : Host.Outcome State Fault Refusal :=
  .next (if immediateUnderWay s a then endEvent s (stall s a) else s)

end Sys2Proof.Machine
end

