-- ==== Sys2Proof/Machine/HostPort.lean ====
section
/-! DEFINITION. Host writes to the bus port: NOTIFY, NOTICE, CONTROL, the other offsets, and common memory (R154, R156,
R161, R163). -/
namespace Sys2Proof.Machine

/-! ## NOTIFY (R156, R171) -/

/-- Whether a slot is in the intake list or in the open set. -/
def slotHeld (b : Board) (n : Slot) : Bool := b.intake.contains n || b.openSet.any (fun c => c.slot == n)

/-- One bit of a NOTIFY write: the slot joins the intake list unless it is held already (R156). -/
def notifySlot (v : Word16) (s : State) (n : Slot) : State :=
  if v.getLsbD n.val && !slotHeld s.board n then s.withBoard { s.board with intake := s.board.intake ++ [n] } else s

/-- The bits of a NOTIFY write, in ascending slot number (R156). -/
def notifyBits (s : State) (v : Word16) : State := allSlots.foldl (notifySlot v) s

/-- NOTIFY_WRITE (R156): a wake event in standby when any of bits 0 to 7 is set (R171). -/
def execNotifyWrite (w : PortWrite) (s : State) : Host.Outcome State Fault Refusal :=
  let v := portValue w
  let s1 := notifyBits s v
  .next (if v &&& 0x00FF#16 = 0 then s1 else updateHeader s (wakeIfAsleep s1))

/-! ## NOTICE (R161) -/

/-- NOTICE_WRITE (R161): each bit written as 1 is cleared. -/
def execNoticeWrite (w : PortWrite) (s : State) : Host.Outcome State Fault Refusal :=
  .next (s.withBoard { s.board with notice := s.board.notice &&& ~~~(portValue w) })

/-! ## CONTROL (R161, R163) -/

/-- The bits that CONTROL holds (10.2). -/
def controlMask : Word16 := 0x001F#16

/-- Telemetry may write: not in STANDBY, and not before the end of SETTLE (R163). -/
def telemetryRuns (s : State) : Bool := s.ctl.mode != .standby && s.power.phase != .settle

/-- The enable being set starts a page at once; its being cleared lets a page in progress end (R163). -/
def telemetryAfterControl (before s : State) : State :=
  if telemetryEnabled s then
    (if !telemetryEnabled before && telemetryRuns s then startPage s else s)
  else s.withTelem { s.telem with timer := none }

/-- CONTROL_WRITE (R161). -/
def execControlWrite (w : PortWrite) (s : State) : Host.Outcome State Fault Refusal :=
  .next (telemetryAfterControl s (s.withBoard { s.board with control := portValue w &&& controlMask }))

/-! ## Other offsets (R154, R160) -/

/-- OTHER_REGISTER_WRITE (R154, R160): no effect. -/
def execOtherRegisterWrite (_offset : Nat) (_w : PortWrite) (s : State) : Host.Outcome State Fault Refusal := .next s

/-! ## Common memory (R154) -/

/-- HOST_MEMORY_WRITE (R154). A 16-bit access at an odd offset has no effect in the manual (log 7). -/
def execHostMemoryWrite (offset : BitVec 15) (d : BusData) (s : State) : Host.Outcome State Fault Refusal :=
  match d with
  | .byte v => .next (s.withMem (write8 s.mem offset.toNat v))
  | .word v =>
    if offset.toNat % 2 = 1 then .fault .unalignedHostWord
    else .next (s.withMem (writeBytes s.mem offset.toNat (leBytes 2 v.toNat)))

end Sys2Proof.Machine
end

