-- ==== Sys2Proof/Machine/LevelEvents.lean ====
section
/-! DEFINITION. The Level Monitor's samples, the settle time, the level watch, and the inclinometer (R61 to R64, R78,
R138). -/
namespace Sys2Proof.Machine

/-! ## LEVEL_SAMPLE (R61, R62) -/

/-- A detector code is valid (R61). -/
def codeValid (code : Nat) : Bool := decide (100 ≤ code) && decide (code ≤ 3300)

/-- The level of a valid code (R61). -/
def codeLevel (code : Nat) : Int := ((code - 100) / 4 : Nat) - 1000

/-- The level a sample is recorded as: a valid code's, or the held level (R61). -/
def sampleLevel (s : State) (code : Nat) : Int := if codeValid code then codeLevel code else s.level.held

/-- A sample joins the history, and the invalid run is counted (R61, R62). -/
def recordSample (s : State) (code : Nat) : State :=
  let v := sampleLevel s code
  s.withLevel { s.level with
    history := (s.level.history ++ [v]).drop (s.level.history.length - 19)
    held := v
    invalidRun := if codeValid code then 0 else s.level.invalidRun + 1 }

/-- A sample: the third invalid one in a row loses the level, which ends a running search (R62, R77); any other joins a
running measurement (R64). One that would also be the fourth of a measurement completes none (DESIGN CHOICE, log 80). -/
def takeSample (s : State) (code : Nat) : State :=
  let s1 := recordSample s code
  if levelLost s1 && !levelLost s then searchSensor (reportFault s1 (.sensor .level))
  else searchSample s1 (sampleLevel s code)

/-- LEVEL_SAMPLE (R61). -/
def execLevelSample (code : BitVec 12) (s : State) : Host.Outcome State Fault Refusal :=
  .next (if s.level.running then endEvent s (takeSample s code.toNat) else s)

/-! ## SETTLE_TIME_EXPIRY (R64) -/

/-- The settle time of a running search is over: its samples open. -/
def openSamples (s : State) : State :=
  match s.level.search with
  | none => s
  | some c =>
    match c.wait with
    | .moving => s
    | .settling => s.withSearch { c with wait := .sampling [] }
    | .sampling _ => s

/-- SETTLE_TIME_EXPIRY (R64). -/
def execSettleTimeExpiry (s : State) : Host.Outcome State Fault Refusal := .next (openSamples s)

/-! ## WATCH_CHECK (R78) -/

/-- The watch threshold (R78). -/
def watchThreshold (s : State) : Int := (liveEntry s).trim.peak - s.limits.watchDrop

/-- The count after a check (R78). -/
def nextCount (s : State) (n : Nat) : Nat :=
  if levelLost s then 0 else if oneSecondMean s < watchThreshold s then min 5 (n + 1) else 0

/-- A check of the level watch: the fifth below the threshold starts a touch-up, unless HOLD_LINE holds it back. -/
def watchCheck (s : State) : State :=
  match s.level.watch with
  | none => s
  | some n =>
    let s1 := s.withLevel { s.level with watch := some (nextCount s n) }
    if nextCount s n = 5 ∧ canIssue s = true then startSearch s1 .touchUp else s1

/-- WATCH_CHECK (R78). -/
def execWatchCheck (s : State) : Host.Outcome State Fault Refusal := .next (endEvent s (watchCheck s))

/-! ## INCLINOMETER_READING (R138) -/

/-- A valid reading becomes the last valid attitude (R138). -/
def takeAttitude (s : State) (r : Tilts) : State :=
  s.withIlk { s.ilk with pitch := r.pitch, roll := r.roll, inclValid := true }

/-- A reading (R138). During WARM_UP and the wake warm-up an invalid one reports nothing. -/
def takeReading (s : State) (r : Tilts) : State :=
  if r.valid then takeAttitude s r
  else
    let s1 := s.withIlk { s.ilk with inclValid := false }
    if sensorsWarming s then s1 else reportFault s1 (.sensor .incl)

/-- INCLINOMETER_READING (R138). In WARM_UP it may end the phase (R166). -/
def execInclinometerReading (r : Tilts) (s : State) : Host.Outcome State Fault Refusal :=
  .next (if sensorsOff s then s else endEvent s (warmUpReading (takeReading s r)))

end Sys2Proof.Machine
end

