-- ==== Sys2Proof/Machine/LineEvents.lean ====
section
/-! DEFINITION. The van and pendant lines (R27, R112, R113, R137, R144). -/
namespace Sys2Proof.Machine

def State.withLines (s : State) (l : Lines) : State := s.withIlk { s.ilk with lines := l }

/-- A change of a line is taken: the line is recorded, and from READY onward `act` follows. During SETTLE no line is
read yet (R137), so nothing is taken. In standby a change of `wakes` lines is a wake event (R171). -/
def lineEvent (s : State) (l : Lines) (wakes : Bool) (act : State → State) : State :=
  if s.power.phase = .settle ∨ l = s.ilk.lines then s
  else
    let s1 := s.withLines l
    if running s then endEvent s (act s1)
    else if wakes then updateHeader s (wakeIfAsleep s1)
    else s1

/-! ## PARK (R137, R143) -/

/-- PARK_CHANGE (R137): to active a recompute event of R9, to inactive judged for VAN_MOVED. -/
def execParkChange (active : Bool) (s : State) : Host.Outcome State Fault Refusal :=
  .next (lineEvent s { s.ilk.lines with park := active } true (fun t => if active then recomputeEff t else t))

/-! ## OVERHEAD (R144) -/

/-- The OVERHEAD stop of a rising mast (R144). -/
def overheadStop (s : State) : State :=
  let s1 := controlledStops (reportFault s .overhead) [.mast]
  (endWhere s1 (ofKinds [.raise]) .faulted).withGoalAtRest (some .overhead)

/-- OVERHEAD_CHANGE (R137, R144): to active it stops a mast that is RISING, to inactive it is a recompute event. -/
def execOverheadChange (active : Bool) (s : State) : Host.Outcome State Fault Refusal :=
  .next (lineEvent s { s.ilk.lines with overhead := active } false (fun t =>
    if !active then recomputeEff t
    else if t.ctl.mastState = .rising ∧ t.ctl.mode = .normal then overheadStop t
    else t))

/-! ## STOW_LINE (R143, R148) -/

/-- STOW_LINE_CHANGE (R137): a trigger, or the release that forced stow waits for; both are judged at the event's end. -/
def execStowLineChange (active : Bool) (s : State) : Host.Outcome State Fault Refusal :=
  .next (lineEvent s { s.ilk.lines with stow := active } true (fun t => t))

/-! ## HOLD_LINE (R27, R112) -/

/-- An AIM with peak-after is open (R13). -/
def aimSearchOpen (s : State) : Bool := s.board.openSet.any (fun c => c.kind == .aim && c.peakAfter)

/-- The stance part of HOLD_LINE (R27): the search is abandoned, a PEAK ends HALTED, peak pending stays set only for an
open AIM with peak-after, and a moving or searching dish stands where it stops. -/
def holdStance (before s : State) : State :=
  let s1 := stopSearch s .abandoned true
  let s2 := endWhere s1 (ofKinds [.peak]) .halted
  let s3 := if aimSearchOpen s2 then s2 else s2.withPeakPending false
  if before.level.search.isSome || !dishAtRest before then dishStands s3 else s3

/-- HOLD_LINE_ASSERT (R112, R27). During a quiesce the axes alone act (R88). -/
def execHoldLineAssert (s : State) : Host.Outcome State Fault Refusal :=
  .next (lineEvent s { s.ilk.lines with hold := true } true (fun t =>
    if t.swap.phase = .quiesce then holdAxes t else holdStance t (holdAxes t)))

/-- The release of HOLD_LINE at the stance (R27): the mast's target, then the dish's. -/
def releaseStance (s : State) : State :=
  let s1 := recomputeIssuing s
  if canIssue s1 then reissueDish s1 else s1

/-- HOLD_LINE_RELEASE (R27). -/
def execHoldLineRelease (s : State) : Host.Outcome State Fault Refusal :=
  .next (lineEvent s { s.ilk.lines with hold := false } true releaseStance)

end Sys2Proof.Machine
end

