-- ==== Sys2Proof/Machine/ModuleCommands.lean ====
section
/-! DEFINITION. The takes of the commands that other blocks own: SWAP (R85), SET_FIX (R31, R32), SET_LIMITS (R164),
CLEAR_FAULT (R149), STANDBY (R170). -/
namespace Sys2Proof.Machine

/-! ## SWAP (R85, R86) -/

/-- Check 6 of R85: a raise that RAISE would refuse. -/
def swapInterlock (s : State) (p : Package) : Bool :=
  decide (extension s + 20 < (p.mastGoal : Int)) && raiseInterlock s

/-- The checks of R85 in their order, for a package number and the package as copied; `none` when all pass. -/
def swapRefusal (s : State) (number : Nat) (p : Package) : Option Code :=
  if 4 ≤ number then some .badRecord
  else if p.state = 0 then some .emptyPackage
  else if anyOpen s [.stow] ∨ s.ctl.dishState = .failed ∨ s.swap.phase ≠ .idle then some .badState
  else if !p.valid then some .badPackage
  else match (if p.dishGoal = 2 then aimCheck s p.site else none) with
    | some c => some c
    | none => if swapInterlock s p then some .interlock else none

def ownSwap (s : State) (n : Slot) : State :=
  let number := readU8 s.mem (argAddr n 0)
  let p := readPackage s.mem number
  match swapRefusal s number p with
  | some c => refuse s n c
  | none => quiesceStart ((openCommand s (.new n .swap Warnings.empty)).withSwap ⟨.quiesce, number, n, p⟩)

/-- SWAP (R85). -/
def execSwap (s : State) : Host.Outcome State Fault Refusal := .next (takeEvent .swap ownSwap s)

/-! ## SET_FIX (R31, R32) -/

/-- The table after a fix, the fix and its generation (R32, steps 1 and 2). -/
def putFix (s : State) (f : Fix) : State :=
  s.withGeo
    { fix := some f, fixGen := nextGeneration s.geo.fixGen
      table := s.geo.table.map (fun e => e.afterFix (datumChanged s f) f) }

/-- The fix discards the trims of the live site, with the dish goal SITE (R55). A block that was not valid before is not
discarded, by a new datum either, so R55 ends no search then (DESIGN CHOICE beside R60, log 79). -/
def discardsLive (s : State) (f : Fix) : Bool :=
  s.stance.dishGoal == .site && discards (datumChanged s f) f (liveEntry s)

/-- A LOCKED dish whose trims are discarded is ON_SOLUTION (R55). -/
def unlockDish (s : State) (f : Fix) : State :=
  if discardsLive s f = true ∧ s.ctl.dishState = .locked then s.withDish .onSolution else s

/-- The live site after a fix (R32, step 3; R55): the state, and whether it was re-slewed. -/
def fixLive (before s : State) (f : Fix) : State × Bool :=
  if s.stance.dishGoal = .site then recomputeLive s (discardsLive before f && s.ctl.dishState == .peaking)
  else (s, false)

/-- How many blocks a fix discards and keeps (R53, R54). -/
def discardCount (s : State) (f : Fix) : Nat := s.geo.table.countP (discards (datumChanged s f) f)
def keptCount (s : State) (f : Fix) : Nat :=
  s.geo.table.countP (fun e => e.trim.valid && !discards (datumChanged s f) f e)

def ownSetFix (s : State) (n : Slot) : State :=
  let f := readFix s.mem n
  if !f.acceptable then refuse s n .badRecord
  else
    let r := fixLive s (putFix (unlockDish s f) f) f
    let data := leBytes 2 r.1.geo.fixGen ++ flagByte (datumChanged s f) ++ flagByte r.2 ++
      leBytes 1 (keptCount s f) ++ leBytes 1 (discardCount s f)
    writeResult r.1 n .ok Warnings.empty data

/-- The header fields of a fix: its generation and datum (R32, step 2). -/
def fixFields (s : State) : List (Nat × List Byte) := [(16, leBytes 2 s.geo.fixGen), (18, leBytes 1 (headerDatum s))]

/-- SET_FIX (R32). An accepted fix is written into the header, an equal datum too. -/
def execSetFix (s : State) : Host.Outcome State Fault Refusal :=
  .next (takeWriting .setFix (fun n => (readFix s.mem n).acceptable) ownSetFix fixFields s)

/-! ## SET_LIMITS (R164) -/

/-- A changed roof height makes every COMPUTED entry STALE (R38). -/
def roofStale (before s : State) : State :=
  if before.limits.roof = s.limits.roof then s
  else s.withGeo { s.geo with table := s.geo.table.map Entry.staled }

/-- A changed roof height recomputes the live site (R38). -/
def roofSlew (before s : State) : State := if before.limits.roof = s.limits.roof then s else recomputeSite s

/-- The wind figure as it stands: in DEGRADED, and in REFILL carrying band 2, the t2 in force (R131, R132, log 51). -/
def presentFigure (s : State) : Nat :=
  match s.wind.anem with
  | .sampling => s.wind.figure
  | .hold => s.wind.figure
  | .degraded => s.limits.t2
  | .refill => carriedFigure s

/-- New wind values (R135): the present figure is judged, outside priming and never falling, and the ceiling is handed
on; a record equal to the one in force changes nothing (R164). A CEILING_CHANGE is raised for a change of band alone. -/
def windChange (before s : State) : State :=
  handOff before
    (if s.wind.priming ∨ before.limits = s.limits then s else judgeFigure s (presentFigure s) false true)

/-- The limits are put in force with their effects (R164, step 3); the targets that follow are given the mast first (R9,
log 32). -/
def putLimits (s : State) (l : Limits) : State :=
  let s1 := roofStale s (s.withLimits l)
  let s2 := if s.limits.budget = l.budget then s1 else grantCheck s1
  roofSlew s (windChange s s2)

/-- The record in force is written over the argument area (R164). -/
def writeBackLimits (s : State) (n : Slot) : State :=
  s.withMem (writeBytes s.mem (argAddr n 0) (limitsBytes s.limits))

def ownSetLimits (s : State) (n : Slot) : State :=
  let asked := readLimits s.mem (argAddr n 0)
  if limitsRefused s.wind.fleetLock asked then refuse s n .badRecord
  else
    let l := formLimits s.wind.fleetLock asked
    let s1 := writeBackLimits (putLimits s l) n
    writeResult s1 n .ok { Warnings.empty with clamped := decide (l ≠ asked) } []

/-- SET_LIMITS (R164). An accepted record is written into the header, equal values too. -/
def execSetLimits (s : State) : Host.Outcome State Fault Refusal :=
  .next (takeWriting .setLimits (fun n => !limitsRefused s.wind.fleetLock (readLimits s.mem (argAddr n 0)))
    ownSetLimits (fun t => [(64, limitsBytes t.limits)]) s)

/-! ## CLEAR_FAULT (R149, R150) -/

/-- The faults that stay. -/
def remaining (s : State) : List FaultId := s.ilk.faults.filter (fun f => !removable s f)

/-- The removals of R149; a removed VAN_MOVED stops the ALARM cadence. -/
def removeFaults (s : State) : State :=
  let s1 := s.withFaults (remaining s)
  if s.ilk.faults.contains .vanMoved && !(remaining s).contains .vanMoved then alarmStop s1 else s1

/-- A FAULTED axis with none of its faults in the set enters AT_REST (R110, R149). -/
def returnAxis (s : State) (a : Axis) : State :=
  let x := s.axis a
  if x.phase = .faulted ∧ axisHasFault s.ilk.faults a = false then
    s.withAxis a { x with phase := .atRest, target := x.position }
  else s

/-- The mast has returned: NESTED or HELD, with the goal that waited for it in HALTED (R4, R25). -/
def returnMast (s : State) : State :=
  if s.ctl.mastState = .failed ∧ s.axes.mast.phase = .atRest then
    let s1 := s.withMastState (restingMast s)
    if s1.ctl.goalOnReturn ∧ s1.ctl.mode = .halted then
      setEff ((s1.withCtl { s1.ctl with goalOnReturn := false }).withMastGoal (adoptedHeight (extension s1)))
    else s1
  else s

/-- No dish axis is FAULTED, stops for its own fault, or has a fault in the set. -/
def dishSound (s : State) : Bool :=
  dishAxes.all (fun a => (s.axis a).phase != .faulted && (!(s.axis a).faultStop && !axisHasFault s.ilk.faults a))

/-- The dish whose last failed axis has returned: in FORCED_STOW its stow targets are issued again (R147), in the other
modes it stands with the dish goal NONE (R26, R149). -/
def returnDish (s : State) : State :=
  if s.ctl.dishState = .failed ∧ dishSound s = true then
    let s1 := s.withDish (restingDish s)
    if s.ctl.mode = .forcedStow then pursueDish s1
    else dishStands (if s1.stance.dishGoal = .none then s1 else writeDishGoal s1 .none)
  else s

/-- The result data of CLEAR_FAULT (R150): entries removed, entries remaining, the first eleven of them. -/
def clearData (before s : State) : List Byte :=
  leBytes 1 (before.ilk.faults.length - s.ilk.faults.length) ++ leBytes 1 s.ilk.faults.length ++
    (s.ilk.faults.take 11).flatMap (fun f => leBytes 1 f.kindCode ++ leBytes 1 f.qualifierCode)

/-- The return from HALTED, with the triggers that hold taken (R150). The change of mode is an event of R9, so the nest floor
may lower a mast that is found elsewhere than it stopped (log 71). -/
def haltedReturn (s : State) : State :=
  if s.ctl.mode = .halted ∧ anyAxisFault s.ilk.faults = false then
    takeAll (recomputeEff (s.withMode s.ctl.returnMode))
  else s

def ownClearFault (s : State) (n : Slot) : State :=
  let s1 := allAxes.foldl returnAxis (removeFaults s)
  let s2 := returnDish (returnMast s1)
  haltedReturn (writeResult s2 n .ok Warnings.empty (clearData s s1))

/-- CLEAR_FAULT (R149). -/
def execClearFault (s : State) : Host.Outcome State Fault Refusal := .next (takeEvent .clearFault ownClearFault s)

/-! ## STANDBY (R170) -/

def ownStandby (s : State) (n : Slot) : State :=
  if !stowedAtRest s then refuse s n .notStowed
  else if s.board.openSet ≠ [] then refuse s n .badState
  else enterStandby (writeResult s n .ok Warnings.empty [])

/-- STANDBY (R170). -/
def execStandby (s : State) : Host.Outcome State Fault Refusal := .next (takeEvent .standby ownStandby s)

end Sys2Proof.Machine
end

