-- ==== Sys2Proof/Machine/StanceCommands.lean ====
section
/-! DEFINITION. The takes of the stance commands: RAISE, LOWER, STOW, AIM, PEAK, POINT, HALT, RECOVER_HOLD (R15 to
R22), with what each supersedes (R23). -/
namespace Sys2Proof.Machine

/-- A running search is abandoned by a command (R75). The commands it ends report the outcome ABANDONED (log 78). -/
def abandonSearch (s : State) : State := stopSearch s .abandoned false

/-- The mast goal becomes a height, and no height at rest is waited for. -/
def setMastGoal (s : State) (h : Int) : State := (s.withMastGoal h).withGoalAtRest none

/-- The stance check of a height below the nest height (R15, step 3; R26). -/
def heightBarred (s : State) (h : Int) : Bool :=
  decide (h < Config.nestHeight) &&
    (s.stance.dishGoal.aimed || (!inWindow s && (s.stance.dishGoal != .stow || s.ctl.dishState == .failed)))

/-! ## RAISE (R15) -/

/-- The height argument. -/
def argHeight (s : State) (n : Slot) : Int := (readU16 s.mem (argAddr n 0) : Int)

def ownRaise (s : State) (n : Slot) : State :=
  let asked := argHeight s n
  let h := min asked Config.mastTravel
  if raiseInterlock s then refuse s n .interlock
  else if heightBarred s h then refuse s n .badState
  else
    let s1 := setMastGoal (endWhere s (ofKinds [.raise, .lower]) .superseded) h
    recomputeEff (openCommand s1 (.new n .raise { Warnings.empty with clamped := decide (h < asked) }))

/-- RAISE (R15). -/
def execRaise (s : State) : Host.Outcome State Fault Refusal := .next (takeEvent .raise ownRaise s)

/-! ## LOWER (R16) -/

/-- A LOWER newly open, with its clamped height. -/
def lowerCommand (n : Slot) (h : Int) (clamped : Bool) : OpenCommand :=
  { OpenCommand.new n .lower { Warnings.empty with clamped := clamped } with height := h }

/-- LOWER below the nest height (R16): the dish goal becomes STOW, and what it ends. -/
def lowerBelowNest (s : State) : State :=
  let s1 := endWhere (abandonSearch s) (ofKinds [.aim, .peak, .point]) .superseded
  writeDishGoal (s1.withPeakPending false) .stow

def ownLower (s : State) (n : Slot) : State :=
  let asked := argHeight s n
  let h := min asked (extension s)
  let c := lowerCommand n h (decide (h < asked))
  if s.ctl.mode = .forcedStow then openCommand (endWhere s (ofKinds [.lower]) .superseded) c
  else if h < Config.nestHeight ∧ s.ctl.dishState = .failed ∧ inWindow s = false then refuse s n .badState
  else
    let s1 := endWhere s (ofKinds [.raise, .lower]) .superseded
    if h < Config.nestHeight then
      pursueDish (recomputeEff (openCommand (setMastGoal (lowerBelowNest s1) (adoptedHeight h)) c))
    else recomputeEff (openCommand (setMastGoal s1 (adoptedHeight h)) c)

/-- LOWER (R16). -/
def execLower (s : State) : Host.Outcome State Fault Refusal := .next (takeEvent .lower ownLower s)

/-! ## STOW (R17) -/

/-- STOW at its owning block (R17). A dish that is STOWED in its window but off its stow targets is STOWING first (R6), and
the STOW completes once it is STOWED again (log 68). -/
def ownStow (s : State) (n : Slot) : State :=
  let c := OpenCommand.new n .stow Warnings.empty
  if s.ctl.mode = .forcedStow then openCommand (endWhere s (ofKinds [.stow, .lower]) .superseded) c
  else if s.ctl.dishState = .failed then refuse s n .badState
  else
    let s1 := endWhere (abandonSearch (s.withMode .normal)) (ofKinds stanceKinds) .superseded
    let s2 := writeDishGoal (setMastGoal (s1.withPeakPending false) 0) .stow
    pursueDish (recomputeEff (openCommand s2 c))

/-- STOW (R17). -/
def execStow (s : State) : Host.Outcome State Fault Refusal := .next (takeEvent .stow ownStow s)

/-! ## AIM (R18) -/

/-- The flags of an AIM (10.2). -/
def aimPeakAfter (s : State) (n : Slot) : Bool := (readU8 s.mem (argAddr n 1)) % 2 == 1
def aimWatch (s : State) (n : Slot) : Bool := (readU8 s.mem (argAddr n 1)) / 2 % 2 == 1

/-- The AIM as it joins the open set: the warnings and the data of its take (R36). -/
def aimCommand (s : State) (n : Slot) (site : Fin 32) : OpenCommand :=
  let e := s.entry site
  { OpenCommand.new n .aim (solutionWarnings e) with
    peakAfter := aimPeakAfter s n
    aim := ⟨site.val, e.sol.bearing, e.sol.elevation, e.sol.range, e.targets s.axes.pan.position⟩ }

/-- The stance an AIM leaves, before its goal is pursued (R18). -/
def aimStance (s : State) (n : Slot) (site : Fin 32) : State :=
  writeDishGoal (s.withStance { s.stance with
    site := some site
    peakAfter := aimPeakAfter s n
    watch := aimWatch s n
    peakPending := aimPeakAfter s n }) .site

/-- An accepted AIM (R18, R35). -/
def acceptAim (s : State) (n : Slot) (site : Fin 32) : State :=
  let s1 := obtainSolution s site
  let c := aimCommand s1 n site
  let s2 := endWhere (abandonSearch s1) (ofKinds [.aim, .peak, .point]) .superseded
  pursueDish (openCommand (deriveSite (aimStance s2 n site)) c)

def ownAim (s : State) (n : Slot) : State :=
  let index := readU8 s.mem (argAddr n 0)
  if s.ctl.dishState = .failed then refuse s n .badState
  else if s.stance.mastGoal < Config.nestHeight then refuse s n .badState
  else match aimCheck s index, siteOfByte index with
    | some c, _ => refuse s n c
    | none, none => refuse s n .badSite
    | none, some site => acceptAim s n site

/-- AIM (R18). -/
def execAim (s : State) : Host.Outcome State Fault Refusal := .next (takeEvent .aim ownAim s)

/-! ## PEAK (R19) -/

/-- A dish state from which PEAK is accepted (R19). -/
def peakable : DishState → Bool
  | .onSolution => true
  | .locked => true
  | .peaking => true
  | .stowed => false
  | .stowing => false
  | .nestWait => false
  | .slewing => false
  | .parked => false
  | .failed => false

def ownPeak (s : State) (n : Slot) : State :=
  if !peakable s.ctl.dishState then refuse s n .badState
  else
    let s1 := endWhere (abandonSearch s) (ofKinds [.peak]) .superseded
    let s2 := openCommand (s1.withPeakPending true) (.new n .peak Warnings.empty)
    if canIssue s2 then startSearch s2 .full else s2

/-- PEAK (R19). -/
def execPeak (s : State) : Host.Outcome State Fault Refusal := .next (takeEvent .peak ownPeak s)

/-! ## POINT (R20) -/

/-- The three values of a POINT. -/
def pointArgs (s : State) (n : Slot) : Targets :=
  ⟨readS16 s.mem (argAddr n 0), readS16 s.mem (argAddr n 2), readS16 s.mem (argAddr n 4)⟩

/-- Three values clamped to the axis travels (R20). -/
def clampPoint (t : Targets) : Targets := ⟨clampTravel .pan t.pan, clampTravel .tilt t.tilt, clampTravel .pol t.pol⟩

def ownPoint (s : State) (n : Slot) : State :=
  let asked := pointArgs s n
  let t := clampPoint asked
  if s.ctl.dishState = .failed then refuse s n .badState
  else if s.stance.mastGoal < Config.nestHeight then refuse s n .badState
  else
    let s1 := endWhere (abandonSearch s) (ofKinds [.aim, .peak, .point]) .superseded
    let c := { OpenCommand.new n .point { Warnings.empty with clamped := decide (t ≠ asked) } with point := t }
    pursueDish (writeDishGoal (openCommand (s1.withPeakPending false) c) (.point t))

/-- POINT (R20). -/
def execPoint (s : State) : Host.Outcome State Fault Refusal := .next (takeEvent .point ownPoint s)

/-! ## HALT (R21) -/

/-- The result data of a HALT: the positions at the take. -/
def haltData (s : State) : List Byte := le16 (extension s) ++ dishPositionBytes s

/-- The mast goal of a HALT: the extension at rest, at once or once at rest (R21). -/
def haltGoal (s : State) : State :=
  if s.axes.mast.inMove then s.withGoalAtRest (some .halt) else recomputeEff (setMastGoal s (adoptedHeight (extension s)))

/-- HALT at its owning block (R21). In HALTED a goal that waits for the extension at rest stays waiting (log 56), and the
present extension is the position, the mast encoder valid or not (log 58). The commands end before the search is abandoned, as
R21 orders it, and carry the outcome ABANDONED that R74 pairs with HALTED (DESIGN CHOICE beside R24, log 78). -/
def ownHalt (s : State) (n : Slot) : State :=
  let data := haltData s
  if s.ctl.mode = .halted then writeResult (setEff (s.withMastGoal (adoptedHeight (extension s)))) n .ok Warnings.empty data
  else
    let s1 := dropSearch (endWhere (tellSearch s .abandoned) (ofKinds stanceKinds) .halted) false
    let s2 := dishToNone ((controlledStops s1 allAxes).withPeakPending false)
    writeResult (haltGoal s2) n .ok Warnings.empty data

/-- HALT (R21). -/
def execHalt (s : State) : Host.Outcome State Fault Refusal := .next (takeEvent .halt ownHalt s)

/-! ## RECOVER_HOLD (R22) -/

/-- The dish goal that adopts the present positions (R22). -/
def adoptedGoal (s : State) : DishGoal :=
  if s.ctl.dishState = .failed ∨ belowNest s = true then .none
  else .point (clampPoint ⟨s.axes.pan.position, s.axes.tilt.position, s.axes.pol.position⟩)

/-- RECOVER_HOLD at its owning block (R22). -/
def ownRecoverHold (s : State) (n : Slot) : State :=
  if belowNest s && !inWindow s then refuse s n .badState
  else
    let g := adoptedGoal s
    let s1 := (setMastGoal s (adoptedHeight (extension s))).withMode .normal
    let data := le16 s1.stance.mastGoal ++ targetBytes (goalPoint g)
    writeResult (setDishGoal (recomputeEff s1) g) n .ok Warnings.empty data

/-- RECOVER_HOLD (R22). -/
def execRecoverHold (s : State) : Host.Outcome State Fault Refusal :=
  .next (takeEvent .recoverHold ownRecoverHold s)

end Sys2Proof.Machine
end

