-- ==== Sys2Proof/Machine/StartUp.lean ====
section
/-! DEFINITION. Resets, the phases of start-up, READY, and the end of the wake warm-up (R165 to R171). -/
namespace Sys2Proof.Machine

/-! ## RESET (R165) -/

/-- The cause a reset is treated as: one that falls in the SETTLE of a POWER_ON start-up is POWER_ON (R165). -/
def effectiveCause (s : State) (c : ResetCause) : ResetCause :=
  if s.power.phase = .settle ∧ s.power.cause = .powerOn then .powerOn else c

/-- RESET (R165). A POWER_ON leaves common memory undefined (log 4); the others leave it as it was (R167), the
header's mast-up-at-reset byte too, up to the end of SETTLE (log 66). The queue, ANEMO_OK and the switch contacts
are not the module's to reset. -/
def execReset (c : ResetCause) (s : State) : Host.Outcome State Fault Refusal :=
  let cause := effectiveCause s c
  .next (State.afterReset cause s.pending (if cause = .powerOn then [] else s.mem) s.wind.anemoOk s.axes.contacts)

/-! ## SETTLE_END (R166, R167) -/

/-- The fields that a POWER_ON writes into common memory: owners HOST, in_use 0, packages EMPTY (R167). -/
def powerOnFields : List (Nat × List Byte) :=
  allSlots.map (fun n => (slotAddr n, [0])) ++ ((List.range 32).map (fun n => (siteAddr n, [0])) ++
    (List.range 4).map (fun n => (packageAddr n, [0])))

/-- Common memory is initialised after a POWER_ON alone (R167). -/
def initMemory (s : State) : State :=
  if s.power.cause = .powerOn then s.withMem (writeFields s.mem powerOnFields) else s

/-- The slots whose owner reads PART (R167). -/
def partSlots (s : State) : List Slot := allSlots.filter (fun n => slotOwner s.mem n == 1)

/-- The whole header is written, with sequence 0 (R162). -/
def writeHeader (s : State) : State :=
  (s.withMem (writeFields s.mem (wholeHeader s))).withBoard { s.board with headerSeq := 0 }

/-- The end of SETTLE (R166). -/
def settleEnded (s : State) (lines : Lines) (strap : Bool) : State :=
  let s1 := initMemory ((s.withIlk { s.ilk with lines := lines }).withWind { s.wind with fleetLock := strap })
  let s2 := s1.withPower { s1.power with resetSet := partSlots s1, phase := .warmUp }
  let s3 := writeGeneration ((writeHeader s2).withTelem Telemetry.reset) 0
  if telemetryEnabled s3 then startPage s3 else s3

/-- SETTLE_END (R166). -/
def execSettleEnd (lines : Lines) (strap : Bool) (s : State) : Host.Outcome State Fault Refusal :=
  .next (if s.power.phase = .settle then settleEnded s lines strap else s)

/-! ## WARM_UP_END (R166) -/

/-- WARM_UP_END (R166): its 2 s have passed; a reading may have ended the phase before (log 59). -/
def execWarmUpEnd (s : State) : Host.Outcome State Fault Refusal :=
  .next (if s.power.phase = .warmUp then updateHeader s (warmUpEnded s) else s)

/-! ## READY (R169) -/

/-- The mast goal at READY (R1). -/
def readyGoal (s : State) : Int := if s.axes.mast.encValid then adoptedHeight (extension s) else 0

/-- Whether READY chooses NORMAL (R169, step 3). -/
def readyNormal (s : State) : Bool := s.ctl.mastState == .nested && s.ctl.dishState == .stowed

/-- The mode at READY, with MAST_UP_AT_RESET (R168, R169). -/
def readyMode (s : State) : State :=
  let s1 := s.withMode (if readyNormal s then .normal else .recovery)
  s1.withPower { s1.power with mastUpAtReset := !readyNormal s, phase := .done }

/-- The slots of the reset set are completed RESET (R169, step 4). -/
def returnSlots (s : State) : State :=
  let s1 := s.power.resetSet.foldl (fun t n => refuse t n .reset) s
  s1.withPower { s1.power with slotsReturned := s.power.resetSet, resetSet := [] }

/-- READY (R169), in the order of its steps. -/
def readyEvent (s : State) (pulses : Nat) : State :=
  let s1 := readyStates (endPriming s pulses)
  let s2 := readyHalted (readyMode (s1.withMastGoal (readyGoal s1)))
  let s3 := takeAll (signalReady (returnSlots s2))
  recomputeEff (startLevel s3)

/-- READY (R169). -/
def execReady (pulses : Nat) (s : State) : Host.Outcome State Fault Refusal :=
  .next (if s.power.phase = .priming then endEvent s (readyEvent s pulses) else s)

/-! ## WAKE_WARM_UP_END (R171) -/

/-- One encoder at the end of the wake warm-up. -/
def wakeAxis (s : State) (a : Axis) (v : Option Int) : State :=
  match v with
  | some p => putReading s a p
  | none =>
    dropRequest ((reportFault s (.sensor (.axis a))).withAxis a { s.axis a with encValid := false, phase := .faulted }) a

/-- The sensors are read (R171, step 1), in the order MAST, PAN, TILT, POL, INCL (log 70). -/
def wakeSensors (s : State) (r : WakeReadings) : State :=
  let s1 := wakeAxis (wakeAxis (wakeAxis (wakeAxis s .mast r.mast) .pan r.pan) .tilt r.tilt) .pol r.pol
  if r.incl.valid then takeAttitude s1 r.incl
  else reportFault (s1.withIlk { s1.ilk with inclValid := false }) (.sensor .incl)

/-- The mode after a wake (R171, step 3): a FAILED dish has its goal set to NONE, a FAILED mast enters HALTED. -/
def wakeMode (s : State) : State :=
  let s1 := (s.withMode .normal).withPower { s.power with standby := .awake }
  readyHalted (if s1.ctl.dishState = .failed then writeDishGoal s1 .none else s1)

/-- A dish found outside the stow window with a dish goal of STOW is driven back (R171). -/
def wakeDish (s : State) : State :=
  if s.stance.dishGoal = .stow ∧ s.ctl.dishState = .parked then pursueDish s else s

/-- Telemetry resumes at once if enabled (R163). -/
def wakeTelemetry (s : State) : State := if telemetryEnabled s then startPage s else s

/-- The end of the wake warm-up (R171), in the order of its steps. -/
def wakeEvent (s : State) (r : WakeReadings) : State :=
  let s1 := wakeMode (readyStates (wakeSensors s r))
  let s2 := startLevel (takeAll (signalReady s1))
  wakeDish (recomputeIssuing s2)

/-- WAKE_WARM_UP_END (R171). -/
def execWakeWarmUpEnd (r : WakeReadings) (s : State) : Host.Outcome State Fault Refusal :=
  .next (if s.power.standby = .waking then wakeTelemetry (endEvent s (wakeEvent s r)) else s)

end Sys2Proof.Machine
end

