-- ==== Sys2Proof/Machine/TimerEvents.lean ====
section
/-! DEFINITION. The timers of ALARM, telemetry and uptime (R151, R162, R163). -/
namespace Sys2Proof.Machine

/-- ALARM_ON_EXPIRY (R151). -/
def execAlarmOnExpiry (s : State) : Host.Outcome State Fault Refusal :=
  .next (if s.ilk.alarmRunning then s.withIlk { s.ilk with alarmOn := false } else s)

/-- ALARM_PERIOD_EXPIRY (R151): the next period begins, with the timing now in force. -/
def execAlarmPeriodExpiry (s : State) : Host.Outcome State Fault Refusal :=
  .next (if s.ilk.alarmRunning then alarmPeriodStart s else s)

/-- TELEMETRY_PERIOD_EXPIRY (R163). -/
def execTelemetryPeriodExpiry (s : State) : Host.Outcome State Fault Refusal :=
  .next (if s.telem.timer.isSome && (telemetryEnabled s && telemetryRuns s) then startPage s else s)

/-- TELEMETRY_PAGE_WRITE_END (R163). -/
def execTelemetryPageWriteEnd (s : State) : Host.Outcome State Fault Refusal := .next (endPage s)

/-- UPTIME_TICK (R162). SETTLE, which lasts 50 ms, sees none. -/
def execUptimeTick (s : State) : Host.Outcome State Fault Refusal :=
  .next (if s.power.phase = .settle then s
    else updateHeader s (s.withPower { s.power with uptime := s.power.uptime + 1 }))

end Sys2Proof.Machine
end

