-- ==== Sys2Proof/Machine/WindEvents.lean ====
section
/-! DEFINITION. The events of the anemometer and of the Wind Monitor's timers (R125, R131 to R133). -/
namespace Sys2Proof.Machine

/-! ## ANEMO_OK -/

def State.withAnemoLine (s : State) (ok : Bool) : State :=
  s.withWind { s.wind with anemoOk := ok, lowInSecond := s.wind.lowInSecond || !ok }

/-- HOLD begins: the figure is held and the timer starts at 60 s (R131). -/
def startHold (s : State) : State := s.withWind { s.wind with anem := .hold, holdTimer := some 60 }

/-- The anemometer state after a loss outside priming (R131). -/
def lossState (s : State) : State :=
  match s.wind.anem with
  | .sampling => startHold s
  | .refill =>
    match s.wind.carry with
    | .heldFigure => startHold s
    | .bandTwo => s.withWind { s.wind with anem := .degraded }
  | .hold => s
  | .degraded => s

/-- A loss of ANEMO_OK while the Wind Monitor runs (R131, R133). -/
def anemoLoss (s : State) : State :=
  if s.wind.priming then primingLoss s else lossState (reportFault s (.sensor .anemo))

/-- ANEMO_OK_LOW (R131). A line that is low already does not change. -/
def execAnemoOkLow (s : State) : Host.Outcome State Fault Refusal :=
  .next (if !s.wind.anemoOk then s
    else
      let s1 := s.withAnemoLine false
      if s.wind.running then endEvent s (anemoLoss s1) else s1)

/-- REFILL begins (R132). -/
def startRefill (s : State) (c : Carried) : State :=
  s.withWind { s.wind with anem := .refill, carry := c, holdTimer := none, window := [], refill := 0 }

/-- The anemometer state at a return (R132). -/
def returnState (s : State) : State :=
  match s.wind.anem with
  | .hold => startRefill s .heldFigure
  | .degraded => startRefill s .bandTwo
  | .sampling => s
  | .refill => s

/-- ANEMO_OK_HIGH (R132). A line that is high already does not change; during priming the return is not made (R133). -/
def execAnemoOkHigh (s : State) : Host.Outcome State Fault Refusal :=
  .next (if s.wind.anemoOk then s
    else
      let s1 := s.withAnemoLine true
      if s.wind.running && !s.wind.priming then returnState s1 else s1)

/-! ## Sample times and timers -/

/-- WIND_SAMPLE (R125). The third sample time of a priming is READY or PRIMING_END. -/
def execWindSample (pulses : Nat) (s : State) : Host.Outcome State Fault Refusal :=
  .next (if !s.wind.running then s
    else if s.wind.priming then primingSample s pulses
    else endEvent s (windSample s pulses))

/-- HOLD_TIMER_EXPIRY (R131): DEGRADED, with t2 as the wind figure from then on. The band is judged at the next
second. -/
def execHoldTimerExpiry (s : State) : Host.Outcome State Fault Refusal :=
  .next (if s.wind.anem = .hold then
      s.withWind { s.wind with anem := .degraded, holdTimer := none, figure := s.limits.t2 }
    else s)

/-- The end of a wake priming (R133): the band, the hand-off, CEILING_CHANGE if the band differs. -/
def wakePrimingEnd (s : State) (pulses : Nat) : State := handOff s (endPriming s pulses)

/-- PRIMING_END (R133). -/
def execPrimingEnd (pulses : Nat) (s : State) : Host.Outcome State Fault Refusal :=
  .next (if s.wind.priming && s.ctl.mode != .starting then endEvent s (wakePrimingEnd s pulses) else s)

end Sys2Proof.Machine
end

