-- ==== Sys2Proof/Machine/Dispatch.lean ====
section
/-! DEFINITION. The dispatch of the commands to their meanings. -/
namespace Sys2Proof.Machine

def exec (i : Instr) (s : State) : Host.Outcome State Fault Refusal :=
  match i with
  | .raise => Sys2Proof.Machine.execRaise s
  | .lower => Sys2Proof.Machine.execLower s
  | .stow => Sys2Proof.Machine.execStow s
  | .aim => Sys2Proof.Machine.execAim s
  | .peak => Sys2Proof.Machine.execPeak s
  | .point => Sys2Proof.Machine.execPoint s
  | .halt => Sys2Proof.Machine.execHalt s
  | .recoverHold => Sys2Proof.Machine.execRecoverHold s
  | .swap => Sys2Proof.Machine.execSwap s
  | .setFix => Sys2Proof.Machine.execSetFix s
  | .setLimits => Sys2Proof.Machine.execSetLimits s
  | .clearFault => Sys2Proof.Machine.execClearFault s
  | .standby => Sys2Proof.Machine.execStandby s
  | .notifyWrite w => Sys2Proof.Machine.execNotifyWrite w s
  | .noticeWrite w => Sys2Proof.Machine.execNoticeWrite w s
  | .controlWrite w => Sys2Proof.Machine.execControlWrite w s
  | .otherRegisterWrite offset w => Sys2Proof.Machine.execOtherRegisterWrite offset w s
  | .hostMemoryWrite offset d => Sys2Proof.Machine.execHostMemoryWrite offset d s
  | .parkChange active => Sys2Proof.Machine.execParkChange active s
  | .overheadChange active => Sys2Proof.Machine.execOverheadChange active s
  | .stowLineChange active => Sys2Proof.Machine.execStowLineChange active s
  | .holdLineAssert => Sys2Proof.Machine.execHoldLineAssert s
  | .holdLineRelease => Sys2Proof.Machine.execHoldLineRelease s
  | .anemoOkLow => Sys2Proof.Machine.execAnemoOkLow s
  | .anemoOkHigh => Sys2Proof.Machine.execAnemoOkHigh s
  | .windSample pulses => Sys2Proof.Machine.execWindSample pulses s
  | .holdTimerExpiry => Sys2Proof.Machine.execHoldTimerExpiry s
  | .primingEnd pulses => Sys2Proof.Machine.execPrimingEnd pulses s
  | .levelSample code => Sys2Proof.Machine.execLevelSample code s
  | .settleTimeExpiry => Sys2Proof.Machine.execSettleTimeExpiry s
  | .watchCheck => Sys2Proof.Machine.execWatchCheck s
  | .inclinometerReading r => Sys2Proof.Machine.execInclinometerReading r s
  | .encoderReading a v => Sys2Proof.Machine.execEncoderReading a v s
  | .encoderInvalid a => Sys2Proof.Machine.execEncoderInvalid a s
  | .encoderValidReturn a v => Sys2Proof.Machine.execEncoderValidReturn a v s
  | .limitSwitchTrip sw => Sys2Proof.Machine.execLimitSwitchTrip sw s
  | .limitSwitchOpen sw => Sys2Proof.Machine.execLimitSwitchOpen sw s
  | .standstill a => Sys2Proof.Machine.execStandstill a s
  | .lockReleaseEnd => Sys2Proof.Machine.execLockReleaseEnd s
  | .lockEngageEnd => Sys2Proof.Machine.execLockEngageEnd s
  | .deadlineExpiry a => Sys2Proof.Machine.execDeadlineExpiry a s
  | .controlledStopTimeout a => Sys2Proof.Machine.execControlledStopTimeout a s
  | .immediateStopTimeout a => Sys2Proof.Machine.execImmediateStopTimeout a s
  | .alarmOnExpiry => Sys2Proof.Machine.execAlarmOnExpiry s
  | .alarmPeriodExpiry => Sys2Proof.Machine.execAlarmPeriodExpiry s
  | .telemetryPeriodExpiry => Sys2Proof.Machine.execTelemetryPeriodExpiry s
  | .telemetryPageWriteEnd => Sys2Proof.Machine.execTelemetryPageWriteEnd s
  | .uptimeTick => Sys2Proof.Machine.execUptimeTick s
  | .reset cause => Sys2Proof.Machine.execReset cause s
  | .settleEnd lines strap => Sys2Proof.Machine.execSettleEnd lines strap s
  | .warmUpEnd => Sys2Proof.Machine.execWarmUpEnd s
  | .ready pulses => Sys2Proof.Machine.execReady pulses s
  | .wakeWarmUpEnd r => Sys2Proof.Machine.execWakeWarmUpEnd r s

end Sys2Proof.Machine
end

