-- ==== Sys2Proof/Safety.lean ====
section
/-! DEFINITION. The terms in which the statements speak: results read back from a slot, commands ended, takes that
reach their owning block, and the invariants of the machine. -/
namespace Sys2Proof.Machine

/-! ## Results -/

/-- The bytes of a slot that a result writes: owner, code, warnings, result data (R158, 10.2). -/
def resultByte (n : Slot) (a : Nat) : Prop :=
  a = slotAddr n ∨ a = slotAddr n + 4 ∨ a = slotAddr n + 5 ∨ (slotAddr n + 40 ≤ a ∧ a < slotAddr n + 64)

/-- A slot back with the host, holding a result code, with its NOTICE bit set (R158). -/
def Answered (s : State) (n : Slot) (code : Nat) : Prop :=
  slotOwner s.mem n = 0 ∧ readU8 s.mem (slotAddr n + 4) = code ∧ s.board.notice.getLsbD n.val = true

/-- The open commands of `s` that meet `p` have ended in `u` with a code, and no byte of memory but their results has
changed. -/
def Ended (s u : State) (p : OpenCommand → Bool) (code : Code) : Prop :=
  (∀ c ∈ s.board.openSet, p c = true → Answered u c.slot code.toNat) ∧
  ∀ a, (∀ c ∈ s.board.openSet, p c = true → ¬ resultByte c.slot a) → read8 u.mem a = read8 s.mem a

/-- The groups that neither the board nor the stance touches are as before. -/
def sameDrives (s u : State) : Prop :=
  u.pending = s.pending ∧ u.telem = s.telem ∧ u.limits = s.limits ∧ u.swap = s.swap ∧ u.axes = s.axes ∧
    u.arb = s.arb ∧ u.wind = s.wind ∧ u.ilk = s.ilk ∧ u.power = s.power

/-- The Board Manager after a take: the intake list without its oldest slot, the rest of it as before but for the open
set and NOTICE. -/
def boardTaken (s u : State) : Prop :=
  u.board.intake = s.board.intake.tail ∧ u.board.control = s.board.control ∧ u.board.headerSeq = s.board.headerSeq

/-! ## Takes -/

/-- A take of a command of kind `k` from slot `n` that reaches its owning block (R157, R14). -/
abbrev Taken (s : State) (k : Kind) (n : Slot) : Prop :=
  running s = true ∧ s.swap.phase = .idle ∧ s.board.intake.head? = some n ∧ slotOwner s.mem n = 1 ∧
    Kind.ofCode (slotKind s.mem n) = some k ∧ recordOk s.mem n k = true ∧ gate s.ctl.mode k = none

/-- The command that takes a slot holding a command of a kind. -/
def takeInstr : Kind → Instr
  | .raise => .raise
  | .lower => .lower
  | .stow => .stow
  | .aim => .aim
  | .peak => .peak
  | .point => .point
  | .halt => .halt
  | .swap => .swap
  | .setFix => .setFix
  | .setLimits => .setLimits
  | .clearFault => .clearFault
  | .standby => .standby
  | .recoverHold => .recoverHold

/-- What a refusal leaves: the slot answered with the code, no warnings and no result data, and nothing else changed but
the intake list (R157, R159, 1.8). -/
def Refused (s u : State) (n : Slot) (code : Code) : Prop :=
  Answered u n code.toNat ∧ read8 u.mem (slotAddr n + 5) = 0 ∧
    (∀ k < 24, read8 u.mem (slotAddr n + 40 + k) = 0) ∧
    (∀ a, ¬ resultByte n a → read8 u.mem a = read8 s.mem a) ∧
    u.board.openSet = s.board.openSet ∧ u.stance = s.stance ∧ u.ctl = s.ctl ∧ u.geo = s.geo ∧ u.level = s.level ∧
    sameDrives s u ∧ boardTaken s u

/-- No interlock condition of RAISE holds (R15, step 1). -/
abbrev RaiseClear (s : State) : Prop :=
  s.ilk.lines.park = true ∧ s.ilk.lines.overhead = false ∧ FaultId.overhead ∉ s.ilk.faults ∧
    s.ilk.pitch.natAbs ≤ 500 ∧ s.ilk.roll.natAbs ≤ 500 ∧ FaultId.sensor .incl ∉ s.ilk.faults ∧ effCeiling s ≠ 0 ∧
    s.wind.priming = false

/-- What RAISE bars below the nest height (R15, step 3; R26). -/
abbrev LowBarred (s : State) : Prop :=
  s.stance.dishGoal.aimed = true ∨
    (inWindow s = false ∧ (s.stance.dishGoal ≠ .stow ∨ s.ctl.dishState = .failed))

/-- The whole of `s` but for the board, the stance, common memory and the Stance Controller's own state. -/
def sameRest (s u : State) : Prop := sameDrives s u ∧ u.geo = s.geo ∧ u.level = s.level ∧ boardTaken s u

/-- What the outside and the other timers set is as before: limits, wind, power, telemetry, the queue, the fix, the
intake list, CONTROL and the positions. -/
def surroundingsKept (s t : State) : Prop :=
  t.limits = s.limits ∧ t.wind = s.wind ∧ t.power = s.power ∧ t.telem = s.telem ∧ t.pending = s.pending ∧
    t.geo.fix = s.geo.fix ∧ t.geo.fixGen = s.geo.fixGen ∧ t.board.intake = s.board.intake ∧
    t.board.control = s.board.control ∧ ∀ a, (t.axis a).position = (s.axis a).position

/-! ## Axes -/

/-- No request of an axis waits but that of a WAITING axis, and no axis has two (R98, R117). -/
abbrev requestsSound (s : State) : Prop :=
  (∀ q ∈ s.arb.waits, (s.axis q.axis).phase = .waiting) ∧ (s.arb.waits.map (·.axis)).Nodup

/-- No grant of an axis is left. -/
def noGrant (u : State) (a : Axis) : Prop := ∀ g ∈ u.arb.grants, g.axis ≠ a

/-- What an axis's own fault makes of it, phase by phase: the immediate stop of R106, which a fault ends in FAULTED; a
request withdrawn, with the lock engaged first after a reversal (R103); FAULTED at once at rest. An axis that has arrived and
awaits its standstill counts as DRIVING (DESIGN CHOICE, log 77). -/
def faultStopMade (s u : State) (a : Axis) : Prop :=
  let x := s.axis a
  let y := u.axis a
  (x.phase = .atRest ∨ x.phase = .faulted → y.phase = .faulted) ∧
  (x.phase = .waiting → (∀ q ∈ u.arb.waits, q.axis ≠ a) ∧
    (¬ (a = .mast ∧ s.axes.lock = .released) → y.phase = .faulted) ∧
    (a = .mast → s.axes.lock = .released → y.phase = .engaging ∧ u.axes.lock = .engaging ∧ y.faultStop = true)) ∧
  (x.phase = .driving ∨ x.phase = .stopping → y.stop = some .immediate ∧ y.faultStop = true ∧ y.next = none ∧
    (x.stop ≠ some .immediate → y.deadline = none ∧ noGrant u a) ∧
    (a ≠ .mast → y.phase = .stopping) ∧
    (a = .mast → y.phase = .engaging ∧ y.skidding = true ∧ u.axes.lock = .engaging)) ∧
  (a = .mast → x.phase = .releasing ∨ x.phase = .engaging →
    y.phase = x.phase ∧ y.stop = some .immediate ∧ y.faultStop = true ∧ noGrant u a)

/-- A controlled stop of an axis that drives, and the withdrawal of one that waits (R105, R107). -/
def controlledStopMade (s u : State) (a : Axis) : Prop :=
  let x := s.axis a
  let y := u.axis a
  (x.phase = .driving → y = { x with
    phase := .stopping, deadline := none, arrived := false, stop := some .controlled, next := none }) ∧
  (x.phase = .waiting → a ≠ .mast → y.phase = .atRest ∧ y.target = x.position ∧ ∀ q ∈ u.arb.waits, q.axis ≠ a)

/-- The mast moves, or is about to move, toward its target: it waits for its grant, or drives or releases its lock with
no stop asked for. -/
def mastUnderTarget (s : State) : Prop :=
  s.axes.mast.phase = .waiting ∨
    (s.axes.mast.stop = none ∧ (s.axes.mast.phase = .releasing ∨ s.axes.mast.phase = .driving))

/-- The mast moves, or is about to move, upward: to a target above its extension by more than its tolerance, and above the
lower end of its travel (R96). -/
def climbs (s : State) : Prop :=
  mastUnderTarget s ∧ 0 < s.axes.mast.target ∧ extension s + 20 < s.axes.mast.target

/-- The mast moves, or is about to move, downward to a target below the nest height by more than its tolerance. -/
def dives (s : State) : Prop :=
  mastUnderTarget s ∧ s.axes.mast.target < 1500 ∧ s.axes.mast.target + 20 < extension s

/-- Below the nest height an axis waits to move, or drives, toward a target that is not its stow target. -/
def straysLow (s : State) (a : Axis) : Prop :=
  ((s.axis a).phase = .waiting ∨ (s.axis a).phase = .driving) ∧ extension s < 1500 ∧ (s.axis a).target ≠ stowTarget a

/-! ## Searches -/

/-- The full search `c` has ended in `u` with an outcome, its commands answered with a code: the outcome stands in the
result data of a PEAK and of an AIM (R74, 10.2). -/
def searchEnded (s u : State) (c : Search) (o : SearchOutcome) (code : Code) : Prop :=
  u.level.search = none ∧ u.stance = { s.stance with peakPending := false } ∧
  (c.kind = .touchUp → u.board.openSet = s.board.openSet ∧ u.mem = s.mem) ∧
  (c.kind = .full →
    Ended s u ownsSearch code ∧ u.board.openSet = s.board.openSet.filter (fun d => !ownsSearch d) ∧
    (∀ d ∈ s.board.openSet, d.kind = .peak → readU8 u.mem (slotAddr d.slot + 40) = o.toNat) ∧
    (∀ d ∈ s.board.openSet, d.kind = .aim → d.peakAfter = true → readU8 u.mem (slotAddr d.slot + 41) = o.toNat))

/-- The trims of a probe point: the centre's, that of the probed axis moved by the step (R67). -/
def probeTrims (c : Search) (ax : ProbeAxis) (plus : Bool) : Int × Int :=
  let d : Int := if plus then c.step else -c.step
  (if ax = .pan then c.centrePan + d else c.centrePan, if ax = .tilt then c.centreTilt + d else c.centreTilt)

/-- The targets of the live site's untrimmed solution with the trims given, not clamped by a probe (R68); for an EMPTY entry
the site targets in force stand in, the model's inference (log 33). -/
def searchTargets (s : State) (t : Int × Int) : Targets :=
  if (liveEntry s).state = .empty then s.ctl.siteTargets
  else deriveTargets (liveEntry s).sol t.1 t.2 s.axes.pan.position

/-- A probe point is skipped: the trim of the probed axis beyond 300, or the trial tilt outside the aim range (R67), or an
EMPTY entry, the model's inference (log 33). -/
def probeBarred (s : State) (c : Search) (ax : ProbeAxis) (plus : Bool) : Bool :=
  let t := probeTrims c ax plus
  decide (300 < (if ax = .pan then t.1 else t.2).natAbs ∨ (liveEntry s).state = .empty ∨
    (liveEntry s).sol.tilt + t.2 < -1000 ∨ 3000 < (liveEntry s).sol.tilt + t.2)

/-- The context with which the engine moves to a probe point (R68). -/
def toProbe (s : State) (c : Search) (ax : ProbeAxis) (plus : Bool) : Search :=
  { c with stage := .probe ax plus, wait := .moving, asked := searchTargets s (probeTrims c ax plus) }

/-- The context with which it returns to the centre that the comparison leaves (R69). -/
def toCentre (s : State) (c : Search) (ax : ProbeAxis) : Search :=
  let d := moveCentre c ax
  { d with stage := .back ax, wait := .moving, asked := searchTargets s (d.centrePan, d.centreTilt) }

/-- The second probe point of an axis, which a skip passes over with the edge flag set (R67). -/
def toMinus (s : State) (c : Search) (ax : ProbeAxis) : Search :=
  if probeBarred s c ax false then toCentre s { c with edge := true } ax else toProbe s c ax false

/-- The first probe point of an axis (R67). -/
def toPlus (s : State) (c0 : Search) (ax : ProbeAxis) : Search :=
  let c := { c0 with plusLevel := none, minusLevel := none }
  if probeBarred s c ax true then toMinus s { c with edge := true } ax else toProbe s c ax true

/-- The search goes on with a context: its targets are issued, unless the mast is below the nest height (R68, R11). -/
def searchMoves (s : State) (c : Search) : State :=
  let u := s.withLevel { s.level with search := some c }
  if extension s < 1500 then u else giveDish u c.asked

/-! ## Invariants -/

/-- The range of the mast goal (R1) and the stance validity rule (R2). -/
abbrev stanceValid (s : State) : Prop :=
  (0 ≤ s.stance.mastGoal ∧ s.stance.mastGoal ≤ 15000) ∧
  (s.stance.dishGoal.aimed = true → 1500 ≤ s.stance.mastGoal) ∧ (s.stance.dishGoal = .site → s.stance.site ≠ none)

/-- What the modes say of the stance: NONE and no upward target due in HALTED (R25), NONE before READY (R1), no aimed dish
goal in standby (R170), and an exchange in its quiesce only in NORMAL and over a valid package (R85, R92). -/
abbrev modesSound (s : State) : Prop :=
  (s.ctl.mode = .halted → s.stance.dishGoal = .none ∧ s.ctl.upwardDue = false) ∧
  (s.power.phase ≠ .done → s.ctl.mode = .starting ∧ s.stance.dishGoal = .none ∧ s.power.standby = .awake) ∧
  (s.power.standby ≠ .awake → s.ctl.mode = .standby ∧ s.stance.dishGoal.aimed = false) ∧
  (s.swap.phase = .quiesce → s.ctl.mode = .normal ∧ s.swap.snapshot.valid = true)

/-- The invariant behind the interlocks of the prose: a valid stance, sound modes, sound requests. -/
abbrev InterlocksSound (s : State) : Prop := stanceValid s ∧ modesSound s ∧ requestsSound s

/-- No slot is in the intake list twice, in the open set twice, or in both (R156). -/
abbrev slotsSeparate (s : State) : Prop :=
  s.board.intake.Nodup ∧ (s.board.openSet.map (·.slot)).Nodup ∧
    ∀ n ∈ s.board.intake, n ∉ s.board.openSet.map (·.slot)

/-- No fault is in the set twice, and the set holds at most 16 (R139, R140). -/
abbrev faultSetSound (s : State) : Prop := s.ilk.faults.Nodup ∧ s.ilk.faults.length ≤ 16

/-- The fix generation is 0 exactly while no fix is present, and at most 65,535 (R30). -/
abbrev generationSound (s : State) : Prop :=
  (s.geo.fixGen = 0 ↔ s.geo.fix = none) ∧ s.geo.fixGen ≤ 65535

/-- The header sequence is even (R162), and the telemetry generation odd exactly while a page is written (R163). -/
abbrev countsSound (s : State) : Prop :=
  s.board.headerSeq.getLsbD 0 = false ∧ s.telem.gen.getLsbD 0 = s.telem.writing

/-- CONTROL and NOTICE hold no bit but those of 10.2 (R161). -/
abbrev registersSound (s : State) : Prop :=
  s.board.control &&& 0x001F#16 = s.board.control ∧ s.board.notice &&& 0x07FF#16 = s.board.notice

/-- The table holds 32 entries (R49). -/
abbrev tableSound (s : State) : Prop := s.geo.table.length = 32

/-- The records of the module are sound: slots, fault set, fix generation, counts, registers, table. -/
abbrev RecordsSound (s : State) : Prop :=
  slotsSeparate s ∧ faultSetSound s ∧ generationSound s ∧ countsSound s ∧ registersSound s ∧ tableSound s

/-- What a statement about the stored bytes and the open set of a running module may rely on. -/
abbrev Sound (s : State) : Prop := Memory.wf s.mem = true ∧ slotsSeparate s

/-! ## Axis faults at the stance -/

/-- Every open command of `s` that meets `p` has ended FAULTED in `u`, and none that meets it is left open. -/
def endedFaulted (s u : State) (p : OpenCommand → Bool) : Prop :=
  (∀ c ∈ s.board.openSet, p c = true → Answered u c.slot 18) ∧ ∀ c ∈ u.board.openSet, p c = false

/-- The dish stands: no dish axis is left waiting or driving, and one that drove makes a controlled stop; a running search
has ended FAULTED in the result data of the PEAK whose it was (R25, R26, R74). -/
def dishStopped (s u : State) (a : Axis) : Prop :=
  (∀ b, b ≠ .mast → (u.axis b).phase ≠ .waiting ∧ (u.axis b).phase ≠ .driving) ∧
  (∀ b, b ≠ .mast → b ≠ a → (s.axis b).phase = .driving → controlledStopMade s u b) ∧
  u.level.search = none ∧ u.stance.peakPending = false ∧ u.stance.dishGoal = .none ∧
  (Sound s → s.swap.phase = .idle → ∀ c d, s.level.search = some c → c.kind = .full → d ∈ s.board.openSet →
    d.kind = .peak → readU8 u.mem (slotAddr d.slot + 40) = SearchOutcome.faulted.toNat)

/-- An axis fault as the stance shows it. A mast fault makes the mast FAILED and the mode HALTED, and where it was not
HALTED before stops the dish and ends every open stance command FAULTED (R25). A dish fault in NORMAL or RECOVERY makes
the dish FAILED, stops the other dish axes, ends open AIM, PEAK, POINT and STOW commands FAULTED, and RAISE and LOWER too
where the mast goal lies below the nest height and the dish outside its window; mode, mast goal, site and flags are kept
(R26). In FORCED_STOW it makes the dish FAILED and nothing else: goals, commands and the other axes' moves stay (R147). -/
def axisFaultShown (s u : State) (a : Axis) : Prop :=
  (a = .mast → running s = true → u.ctl.mastState = .failed ∧ u.ctl.mode = .halted ∧
    (s.ctl.mode ≠ .halted → dishStopped s u a ∧ (Sound s → endedFaulted s u (ofKinds stanceKinds)))) ∧
  (a ≠ .mast → s.ctl.mode = .normal ∨ s.ctl.mode = .recovery →
    u.ctl.dishState = .failed ∧ u.ctl.mode = s.ctl.mode ∧ dishStopped s u a ∧
    u.stance = { s.stance with dishGoal := .none, peakPending := false } ∧
    (Sound s → endedFaulted s u (fun c => ofKinds [.aim, .peak, .point, .stow] c ||
      (ofKinds [.raise, .lower] c && decide (s.stance.mastGoal < 1500 ∧ inWindow u = false))))) ∧
  (a ≠ .mast → s.ctl.mode = .forcedStow → s.swap.phase = .idle →
    u.ctl = { s.ctl with dishState := .failed } ∧ u.stance = s.stance ∧ u.board.openSet = s.board.openSet ∧
    ∀ b, b ≠ a → (u.axis b).target = (s.axis b).target ∧ ((s.axis b).phase ≠ .waiting → u.axis b = s.axis b))

end Sys2Proof.Machine
end

