-- ==== Sys2Proof/Certificates/Slice0/Obligations.lean ====
section
/-! DEFINITION. The statements about the MP-340. A meaning ends with what every event brings about (`endEvent`:
arrivals, completions, triggers, the ends of forced stow and of an exchange, the header write); a statement that says
`exec c s = .next (endEvent s u)` gives in `u` what the command itself leaves, and the statements about `endEvent` say
what may follow. -/
open Sys2Proof Sys2Proof.Machine

/-! ## The step -/

/-- A step runs the command at the front of the queue on the state with the queue's rest. -/
def Obligations.StepRunsFront : Prop := ∀ (c : Instr) (rest : List Instr) (s : State),
  s.pending = c :: rest → step s = exec c (s.withPending rest)

/-! ## Takes (R14, R157) -/

/-- R14: a command that passes the common checks is measured against the mode before it reaches its owning block: it is
refused with the code of the gate's table or goes on; the table, row by row; in STARTING and STANDBY no command is
taken; and a STANDBY that passes the gate is refused NOT_STOWED unless the mast is NESTED and the dish STOWED. -/
def Obligations.ModeGateTable : Prop :=
  (∀ (s : State) (k : Kind) (n : Slot), running s = true → s.swap.phase = .idle → s.board.intake.head? = some n →
    slotOwner s.mem n = 1 → Kind.ofCode (slotKind s.mem n) = some k → recordOk s.mem n k = true →
    takeSteps s k = match gate s.ctl.mode k with | some c => .refused n c | none => .passed n) ∧
  (∀ k, gate .normal k = if k = .recoverHold then some .badState else none) ∧
  (∀ k, gate .recovery k =
    if k = .stow ∨ k = .recoverHold ∨ k = .setFix ∨ k = .setLimits ∨ k = .clearFault then none else some .badState) ∧
  (∀ k, gate .forcedStow k =
    if k = .lower ∨ k = .stow ∨ k = .setFix ∨ k = .setLimits ∨ k = .clearFault then none
    else if k = .recoverHold then some .badState else some .interlock) ∧
  (∀ k, gate .halted k =
    if k = .halt ∨ k = .setFix ∨ k = .setLimits ∨ k = .clearFault then none else some .badState) ∧
  (∀ (s : State) (k : Kind), s.ctl.mode = .starting ∨ s.ctl.mode = .standby → takeSteps s k = .notTaken) ∧
  (∀ (s : State) (n : Slot), Taken s .standby n → Memory.wf s.mem = true →
    (s.ctl.mastState ≠ .nested ∨ s.ctl.dishState ≠ .stowed) →
    ∃ u, exec .standby s = .next (endEvent s u) ∧ Refused s u n .notStowed)

/-- The common checks of a take, for every kind: a slot owned by the host is dropped, a kind outside 1 to 13 is refused
BAD_KIND, a bad record BAD_RECORD, and a command the gate stops with the gate's code. -/
def Obligations.TakeCommonChecks : Prop := ∀ (s : State) (k : Kind) (n : Slot),
  running s = true → s.swap.phase = .idle → s.board.intake.head? = some n → Memory.wf s.mem = true →
  (slotOwner s.mem n = 0 → exec (takeInstr k) s = .next (endEvent s (popIntake s))) ∧
  (slotOwner s.mem n ≠ 0 → Kind.ofCode (slotKind s.mem n) = none →
    ∃ u, exec (takeInstr k) s = .next (endEvent s u) ∧ Refused s u n .badKind) ∧
  (slotOwner s.mem n ≠ 0 → Kind.ofCode (slotKind s.mem n) = some k → recordOk s.mem n k = false →
    ∃ u, exec (takeInstr k) s = .next (endEvent s u) ∧ Refused s u n .badRecord) ∧
  (∀ c, slotOwner s.mem n ≠ 0 → Kind.ofCode (slotKind s.mem n) = some k → recordOk s.mem n k = true →
    gate s.ctl.mode k = some c → ∃ u, exec (takeInstr k) s = .next (endEvent s u) ∧ Refused s u n c)

/-! ## Stance commands (R15 to R22) -/

/-- An accepted RAISE: open RAISE and LOWER commands end SUPERSEDED, the mast goal becomes the height clamped to 15,000,
with CLAMPED when that changes it, the command joins the open set, and the effective target is recomputed. A mast goal
that still waited for the extension at rest is given up: the model's inference (log 26, DEDUCED). -/
def Obligations.RaiseAccepted : Prop := ∀ (s : State) (n : Slot) (asked : Int),
  Taken s .raise n → Sound s → RaiseClear s → asked = readU16 s.mem (argAddr n 0) →
  (1500 ≤ min asked 15000 ∨ ¬ LowBarred s) →
  ∃ u, exec .raise s = .next (endEvent s (recomputeEff u)) ∧
    u.stance = { s.stance with mastGoal := min asked 15000 } ∧ u.ctl = { s.ctl with goalAtRest := none } ∧
    sameRest s u ∧
    u.board.openSet = s.board.openSet.filter (fun c => !ofKinds [.raise, .lower] c) ++
      [OpenCommand.new n .raise { Warnings.empty with clamped := decide (15000 < asked) }] ∧
    Ended s u (ofKinds [.raise, .lower]) .superseded

/-- An accepted LOWER. At or above the nest height the mast goal becomes the height clamped to the extension. Below it
the dish goal becomes STOW as well, a search is abandoned, peak pending is cleared, and open AIM, PEAK and POINT
commands end SUPERSEDED too. In FORCED_STOW the goals are left as they are and only open LOWER commands end. Outside it
a mast goal that still waited for the extension at rest is given up: the model's inference (log 26, DEDUCED); that a
height clamped to an extension above 15,000 gives a goal of 15,000 is the model's choice (log 61). -/
def Obligations.LowerAccepted : Prop := ∀ (s : State) (n : Slot) (asked h : Int),
  Taken s .lower n → Sound s → asked = readU16 s.mem (argAddr n 0) → h = min asked (extension s) →
  let goal := max 0 (min 15000 h)
  (s.ctl.mode ≠ .forcedStow → 1500 ≤ h →
    ∃ u, exec .lower s = .next (endEvent s (recomputeEff u)) ∧
      u.stance = { s.stance with mastGoal := goal } ∧ u.ctl = { s.ctl with goalAtRest := none } ∧ sameRest s u ∧
      u.board.openSet = s.board.openSet.filter (fun c => !ofKinds [.raise, .lower] c) ++
        [lowerCommand n h (decide (h < asked))] ∧
      Ended s u (ofKinds [.raise, .lower]) .superseded) ∧
  (s.ctl.mode ≠ .forcedStow → h < 1500 → (s.ctl.dishState ≠ .failed ∨ inWindow s = true) →
    ∃ u, exec .lower s = .next (endEvent s (pursueDish (recomputeEff u))) ∧
      u.stance = { s.stance with mastGoal := goal, dishGoal := .stow, peakPending := false } ∧
      u.ctl = { s.ctl with goalAtRest := none, touchUpMark := false, signalLost := false } ∧ sameDrives s u ∧
      u.geo = s.geo ∧ u.level = { s.level with search := none } ∧ boardTaken s u ∧
      u.board.openSet = s.board.openSet.filter (fun c => !ofKinds [.raise, .lower, .aim, .peak, .point] c) ++
        [lowerCommand n h (decide (h < asked))] ∧
      Ended s u (ofKinds [.raise, .lower, .aim, .peak, .point]) .superseded) ∧
  (s.ctl.mode = .forcedStow →
    ∃ u, exec .lower s = .next (endEvent s u) ∧ u.stance = s.stance ∧ u.ctl = s.ctl ∧ sameRest s u ∧
      u.board.openSet = s.board.openSet.filter (fun c => !ofKinds [.lower] c) ++
        [lowerCommand n h (decide (h < asked))] ∧
      Ended s u (ofKinds [.lower]) .superseded)

/-- An accepted STOW. In NORMAL and RECOVERY the mode becomes NORMAL, the mast goal 0, the dish goal STOW, peak pending
is cleared, a search is abandoned, and every open stance command ends SUPERSEDED; a mast goal that still waited for the
extension at rest is given up, the model's inference (log 26, DEDUCED), and a dish STOWED in its window but off its stow
targets is stowed again before the STOW completes, the model's choice (log 68). In FORCED_STOW open STOW and LOWER
commands end and the goals stay. -/
def Obligations.StowAccepted : Prop := ∀ (s : State) (n : Slot), Taken s .stow n → Sound s →
  (s.ctl.mode ≠ .forcedStow → s.ctl.dishState ≠ .failed →
    ∃ u, exec .stow s = .next (endEvent s (pursueDish (recomputeEff u))) ∧
      u.stance = { s.stance with mastGoal := 0, dishGoal := .stow, peakPending := false } ∧
      u.ctl = { s.ctl with mode := .normal, goalAtRest := none, touchUpMark := false, signalLost := false } ∧
      sameDrives s u ∧ u.geo = s.geo ∧ u.level = { s.level with search := none } ∧ boardTaken s u ∧
      u.board.openSet = s.board.openSet.filter (fun c => !ofKinds stanceKinds c) ++
        [OpenCommand.new n .stow Warnings.empty] ∧
      Ended s u (ofKinds stanceKinds) .superseded) ∧
  (s.ctl.mode = .forcedStow →
    ∃ u, exec .stow s = .next (endEvent s u) ∧ u.stance = s.stance ∧ u.ctl = s.ctl ∧ sameRest s u ∧
      u.board.openSet = s.board.openSet.filter (fun c => !ofKinds [.stow, .lower] c) ++
        [OpenCommand.new n .stow Warnings.empty] ∧
      Ended s u (ofKinds [.stow, .lower]) .superseded)

/-- An accepted AIM: the site, the dish goal SITE and the flags of the AIM are set, peak pending follows peak-after, and
open AIM, PEAK and POINT commands end SUPERSEDED. The site's entry is COMPUTED for the fix and the height in force, with
the trims of a matching revision; its solution is the stored one when the entry was COMPUTED for that revision, fix
generation and height, else the one computed now. The site targets are derived from it, the command joins the open set
with the warnings and the reported values of the solution, and the dish turns to its goal. Nothing else changes. -/
def Obligations.AimAccepted : Prop := ∀ (s : State) (n : Slot) (site : Fin 32) (f : Fix),
  Taken s .aim n → Sound s → tableSound s → s.ctl.dishState ≠ .failed → 1500 ≤ s.stance.mastGoal →
  readU8 s.mem (argAddr n 0) = site.val → (readSite s.mem site.val).acceptable = true → s.geo.fix = some f →
  50 ≤ rangeOf (readSite s.mem site.val) f →
  let r := readSite s.mem site.val
  let old := s.entry site
  let reused := old.revision = r.revision ∧ old.state = .computed ∧ old.fixGen = s.geo.fixGen ∧
    old.height = s.ctl.effTarget
  let sol := if reused then old.sol else solve r f s.ilk.pitch s.ilk.roll s.limits.roof s.ctl.effTarget
  let trim := if old.revision = r.revision then old.trim else { old.trim with valid := false }
  let trimPan := if trim.valid then trim.pan else 0
  let trimTilt := if trim.valid then trim.tilt else 0
  let targets := deriveTargets sol trimPan trimTilt s.axes.pan.position
  ∃ u, exec .aim s = .next (endEvent s (pursueDish u)) ∧
    u.stance = { s.stance with
      site := some site, dishGoal := .site, peakAfter := aimPeakAfter s n, watch := aimWatch s n
      peakPending := aimPeakAfter s n } ∧
    u.ctl = { s.ctl with
      touchUpMark := false, signalLost := false, siteTargets := targets, siteTrimPan := trimPan, siteTrimTilt := trimTilt } ∧
    sameDrives s u ∧ boardTaken s u ∧ u.level = { s.level with search := none } ∧
    u.entry site = ⟨.computed, s.geo.fixGen, s.ctl.effTarget, sol, r.revision, trim⟩ ∧
    u.geo.fix = s.geo.fix ∧ u.geo.fixGen = s.geo.fixGen ∧ tableSound u ∧ (∀ k, k ≠ site → u.entry k = s.entry k) ∧
    u.board.openSet = s.board.openSet.filter (fun c => !ofKinds [.aim, .peak, .point] c) ++
      [{ OpenCommand.new n .aim { Warnings.empty with
            elevClamped := decide (sol.tilt + trimTilt < -1000 ∨ 3000 < sol.tilt + trimTilt), rangeFar := sol.rangeFar } with
          peakAfter := aimPeakAfter s n
          aim := ⟨site.val, sol.bearing, sol.elevation, sol.range, targets⟩ }] ∧
    Ended s u (ofKinds [.aim, .peak, .point]) .superseded

/-- R34: the checks of an AIM, in their order. -/
def Obligations.AimChecks : Prop := ∀ (s : State) (n : Slot) (index : Nat),
  Taken s .aim n → Memory.wf s.mem = true → s.ctl.dishState ≠ .failed → 1500 ≤ s.stance.mastGoal →
  index = readU8 s.mem (argAddr n 0) →
  (32 ≤ index ∨ (readSite s.mem index).inUse = 0 →
    ∃ u, exec .aim s = .next (endEvent s u) ∧ Refused s u n .badSite) ∧
  (index < 32 → (readSite s.mem index).inUse ≠ 0 → (readSite s.mem index).acceptable = false →
    ∃ u, exec .aim s = .next (endEvent s u) ∧ Refused s u n .badRecord) ∧
  (index < 32 → (readSite s.mem index).acceptable = true → s.geo.fix = none →
    ∃ u, exec .aim s = .next (endEvent s u) ∧ Refused s u n .noFix) ∧
  (∀ f, index < 32 → (readSite s.mem index).acceptable = true → s.geo.fix = some f →
    rangeOf (readSite s.mem index) f < 50 → ∃ u, exec .aim s = .next (endEvent s u) ∧ Refused s u n .tooClose)

/-- An accepted PEAK: an open PEAK ends SUPERSEDED, a search is abandoned, peak pending is set, and a full search starts
at once; while HOLD_LINE is asserted no search starts. R66: a search, full or touch-up, sets peak pending, makes the
dish PEAKING and takes the context of the rule, its centre the trims that the site targets in force were derived with;
at or above the nest height the dish is given the site targets in force, below it no target. A record that is not
acceptable ends the search ABANDONED at once, a lost level SENSOR, with no probe. An EMPTY entry is computed at the
start, and where it cannot be the search ends ABANDONED, and the dish goes or stays as log 34 says: the model's
inferences (logs 33 and 34, DEDUCED). -/
def Obligations.PeakAccepted : Prop :=
  (∀ (s : State) (n : Slot), Taken s .peak n → Sound s →
    (s.ctl.dishState = .onSolution ∨ s.ctl.dishState = .locked ∨ s.ctl.dishState = .peaking) →
    ∃ u, (s.ilk.lines.hold = false → exec .peak s = .next (endEvent s (startSearch u .full))) ∧
      (s.ilk.lines.hold = true → exec .peak s = .next (endEvent s u)) ∧
      u.stance = { s.stance with peakPending := true } ∧ u.ctl = s.ctl ∧ sameDrives s u ∧ u.geo = s.geo ∧
      u.level = { s.level with search := none } ∧ boardTaken s u ∧
      (u.board.openSet.map (fun c => (c.slot, c.kind))) =
        ((s.board.openSet.filter (fun c => !ofKinds [.peak] c)).map (fun c => (c.slot, c.kind))) ++ [(n, .peak)] ∧
      Ended s u (ofKinds [.peak]) .superseded) ∧
  ∀ (s : State) (kind : SearchKind) (site : Fin 32), s.stance.site = some site → Sound s → tableSound s →
    let r := readSite s.mem site.val
    let e := s.entry site
    let computable := ∃ f, s.geo.fix = some f ∧ 50 ≤ rangeOf r f
    let usable := r.acceptable = true ∧ (e.state ≠ .empty ∨ computable)
    let l := s.limits
    let c : Search :=
      { kind := kind, site := site, centrePan := s.ctl.siteTrimPan, centreTilt := s.ctl.siteTrimTilt
        startPan := s.ctl.siteTrimPan, startTilt := s.ctl.siteTrimTilt, lc := none
        step := if kind = .full then l.initialStep else max 10 l.minStep
        probes := 0, edge := false, limit := false, lockFloor := r.lockFloor
        params := ⟨l.initialStep, l.minStep, l.threshold, l.probeLimit, l.settle⟩
        stage := .reference, wait := .moving, asked := s.ctl.siteTargets
        plusLevel := none, minusLevel := none, moved := false }
    ∃ v, v.stance = { s.stance with peakPending := true } ∧
      v.ctl = { s.ctl with dishState := .peaking, dishShort := none } ∧
      v.level = { s.level with search := some c, watch := none } ∧ v.board = s.board ∧ v.mem = s.mem ∧
      sameDrives s v ∧ v.geo.fix = s.geo.fix ∧ v.geo.fixGen = s.geo.fixGen ∧ (∀ k, k ≠ site → v.entry k = s.entry k) ∧
      (e.state ≠ .empty ∨ ¬ usable → v.entry site = e) ∧
      (∀ f, s.geo.fix = some f → e.state = .empty → usable → v.entry site = ⟨.computed, s.geo.fixGen, s.ctl.effTarget,
        solve r f s.ilk.pitch s.ilk.roll s.limits.roof s.ctl.effTarget, r.revision, e.trim⟩) ∧
      (usable → s.level.invalidRun < 3 →
        startSearch s kind = if extension s < 1500 then v else giveDish v s.ctl.siteTargets) ∧
      (usable → 3 ≤ s.level.invalidRun → ∃ u, startSearch s kind = slewTo u s.ctl.siteTargets ∧
        searchEnded v u c .sensor .faulted ∧ u.ctl = v.ctl ∧ u.geo = v.geo ∧ u.axes = s.axes) ∧
      (¬ usable → ∃ u, searchEnded v u c .abandoned .ok ∧ u.ctl = v.ctl ∧ u.geo = v.geo ∧ u.axes = s.axes ∧
        startSearch s kind = if dishAtRest s = true ∧ dishNear s s.ctl.siteTargets = true then
          u.withCtl { u.ctl with dishState := .onSolution } else slewTo u s.ctl.siteTargets)

/-- An accepted POINT: the dish goal becomes POINT with each value clamped to its axis travel, CLAMPED when that changes
one, peak pending is cleared, a search is abandoned, and open AIM, PEAK and POINT commands end SUPERSEDED. -/
def Obligations.PointAccepted : Prop := ∀ (s : State) (n : Slot) (asked t : Targets),
  Taken s .point n → Sound s → s.ctl.dishState ≠ .failed → 1500 ≤ s.stance.mastGoal →
  asked = ⟨readS16 s.mem (argAddr n 0), readS16 s.mem (argAddr n 2), readS16 s.mem (argAddr n 4)⟩ →
  t = ⟨max (-27000) (min 27000 asked.pan), max (-9000) (min 3000 asked.tilt), max (-9000) (min 9000 asked.pol)⟩ →
  ∃ u, exec .point s = .next (endEvent s (pursueDish u)) ∧
    u.stance = { s.stance with dishGoal := .point t, peakPending := false } ∧
    u.ctl = { s.ctl with touchUpMark := false, signalLost := false } ∧ sameDrives s u ∧ u.geo = s.geo ∧
    u.level = { s.level with search := none } ∧ boardTaken s u ∧
    u.board.openSet = s.board.openSet.filter (fun c => !ofKinds [.aim, .peak, .point] c) ++
      [{ OpenCommand.new n .point { Warnings.empty with clamped := decide (t ≠ asked) } with point := t }] ∧
    Ended s u (ofKinds [.aim, .peak, .point]) .superseded

/-- HALT. In NORMAL every open stance command ends HALTED, a search is abandoned, every axis that drives gets a
controlled stop and every dish axis that waits is withdrawn, the dish goal becomes NONE, peak pending is cleared, and
HALT completes OK; a mast at rest has its goal at the extension at once, a mast that was driving sets its goal once at
rest. In HALTED it completes OK with the mast goal at the extension and nothing moves. That the extension in HALTED is
the position with the mast encoder not valid too, that one above 15,000 is adopted as 15,000, and that no waiting axis is
granted between the withdrawals and stops of the one event, are the model's choices (logs 58, 61 and 10). -/
def Obligations.HaltAccepted : Prop := ∀ (s : State) (n : Slot), Taken s .halt n → Sound s →
  (s.ctl.mode ≠ .halted → ∃ u, exec .halt s = .next (endEvent s u) ∧ Answered u n 0 ∧
    u.stance.dishGoal = .none ∧ u.stance.peakPending = false ∧ u.level.search = none ∧
    u.stance.site = s.stance.site ∧ u.stance.peakAfter = s.stance.peakAfter ∧ u.stance.watch = s.stance.watch ∧
    (∀ c ∈ s.board.openSet, ofKinds stanceKinds c = true → Answered u c.slot 19) ∧
    (∀ c ∈ u.board.openSet, ofKinds stanceKinds c = false) ∧
    (requestsSound s → ∀ a, controlledStopMade s u a) ∧
    (requestsSound s → s.axes.mast.inMove = false →
      u.stance.mastGoal = max 0 (min 15000 (extension s)) ∧ u.ctl.goalAtRest = none) ∧
    (s.axes.mast.phase = .driving → u.ctl.goalAtRest = some .halt ∧ u.stance.mastGoal = s.stance.mastGoal)) ∧
  (s.ctl.mode = .halted → ∃ u, exec .halt s = .next (endEvent s u) ∧ Answered u n 0 ∧
    u.stance = { s.stance with mastGoal := max 0 (min 15000 (extension s)) } ∧ u.board.openSet = s.board.openSet ∧ u.axes = s.axes ∧
    ∀ a, ¬ resultByte n a → read8 u.mem a = read8 s.mem a)

/-- RECOVER_HOLD adopts the present positions: the mast goal becomes the extension, the mode NORMAL, and the dish goal
POINT at the present positions, clamped, at or above the nest height, NONE below it or with a FAILED dish. A mast goal
that still waited for the extension at rest is given up: the model's inference (log 26, DEDUCED); an extension above
15,000 is adopted as 15,000: the model's choice (log 61). -/
def Obligations.RecoverHoldAccepted : Prop := ∀ (s : State) (n : Slot), Taken s .recoverHold n →
  (1500 ≤ extension s ∨ inWindow s = true) →
  let height := max 0 (min 15000 (extension s))
  ∃ u g, exec .recoverHold s = .next (endEvent s (writeResult (setDishGoal (recomputeEff u) g) n .ok Warnings.empty
      (le16 height ++ targetBytes (goalPoint g)))) ∧
    u.stance = { s.stance with mastGoal := height } ∧
    u.ctl = { s.ctl with mode := .normal, goalAtRest := none } ∧ sameRest s u ∧ u.mem = s.mem ∧
    u.board.openSet = s.board.openSet ∧
    g = (if s.ctl.dishState = .failed ∨ extension s < 1500 then .none
      else .point ⟨max (-27000) (min 27000 s.axes.pan.position), max (-9000) (min 3000 s.axes.tilt.position),
        max (-9000) (min 9000 s.axes.pol.position)⟩)

/-- The refusals of the stance commands by the Stance Controller. -/
def Obligations.StanceRefusals : Prop := ∀ (s : State) (n : Slot), Memory.wf s.mem = true →
  (Taken s .raise n → ¬ RaiseClear s → ∃ u, exec .raise s = .next (endEvent s u) ∧ Refused s u n .interlock) ∧
  (Taken s .raise n → RaiseClear s → readU16 s.mem (argAddr n 0) < 1500 → LowBarred s →
    ∃ u, exec .raise s = .next (endEvent s u) ∧ Refused s u n .badState) ∧
  (Taken s .lower n → s.ctl.mode ≠ .forcedStow → min (readU16 s.mem (argAddr n 0) : Int) (extension s) < 1500 →
    s.ctl.dishState = .failed → inWindow s = false →
    ∃ u, exec .lower s = .next (endEvent s u) ∧ Refused s u n .badState) ∧
  (Taken s .stow n → s.ctl.mode ≠ .forcedStow → s.ctl.dishState = .failed →
    ∃ u, exec .stow s = .next (endEvent s u) ∧ Refused s u n .badState) ∧
  (Taken s .aim n → s.ctl.dishState = .failed ∨ s.stance.mastGoal < 1500 →
    ∃ u, exec .aim s = .next (endEvent s u) ∧ Refused s u n .badState) ∧
  (Taken s .peak n → s.ctl.dishState ≠ .onSolution → s.ctl.dishState ≠ .locked → s.ctl.dishState ≠ .peaking →
    ∃ u, exec .peak s = .next (endEvent s u) ∧ Refused s u n .badState) ∧
  (Taken s .point n → s.ctl.dishState = .failed ∨ s.stance.mastGoal < 1500 →
    ∃ u, exec .point s = .next (endEvent s u) ∧ Refused s u n .badState) ∧
  (Taken s .recoverHold n → extension s < 1500 → inWindow s = false →
    ∃ u, exec .recoverHold s = .next (endEvent s u) ∧ Refused s u n .badState)

/-! ## SWAP (R85, R89, R59) -/

/-- R85: the checks of a SWAP in their order, and what an accepted one starts: the package is copied, the command joins
the open set, and the quiesce begins. R87, R105, R107: at its start a running search is abandoned with peak pending set
and its command left open, the level watch is suspended, every axis that drives gets a controlled stop, a lock release
is to be followed by the stop, every request is withdrawn, no open command ends, and nothing else of the module changes.
A dish at rest with no search keeps its state; one that moves is to be STOWED or PARKED once at rest, one that the
downward nest crossing was stopping too (log 57), and one that searched is PARKED, or STOWED in its window, from that
event on (log 48); a mast withdrawn from a reversal engages its lock at once (log 45); and no waiting axis is granted
between the withdrawals and stops of the one event (log 10): these are the model's choices. -/
def Obligations.SwapChecks : Prop :=
  (∀ (s : State) (n : Slot) (number : Nat) (p : Package),
    Taken s .swap n → Memory.wf s.mem = true → number = readU8 s.mem (argAddr n 0) → p = readPackage s.mem number →
    let busy := (∃ c ∈ s.board.openSet, c.kind = .stow) ∨ s.ctl.dishState = .failed
    let blocked := extension s + 20 < (p.mastGoal : Int) ∧ ¬ RaiseClear s
    let refused := fun c => ∃ u, exec .swap s = .next (endEvent s u) ∧ Refused s u n c
    (4 ≤ number → refused .badRecord) ∧
    (number < 4 → p.state = 0 → refused .emptyPackage) ∧
    (number < 4 → p.state ≠ 0 → busy → refused .badState) ∧
    (number < 4 → p.state ≠ 0 → ¬ busy → p.valid = false → refused .badPackage) ∧
    (∀ c, number < 4 → ¬ busy → p.valid = true → p.dishGoal = 2 → aimCheck s p.site = some c → refused c) ∧
    (number < 4 → ¬ busy → p.valid = true → (p.dishGoal = 2 → aimCheck s p.site = none) → blocked →
      refused .interlock) ∧
    (number < 4 → ¬ busy → p.valid = true → (p.dishGoal = 2 → aimCheck s p.site = none) → ¬ blocked →
      ∃ u, exec .swap s = .next (endEvent s (quiesceStart u)) ∧ u.swap = ⟨.quiesce, number, n, p⟩ ∧
        u.board.openSet = s.board.openSet ++ [OpenCommand.new n .swap Warnings.empty] ∧ boardTaken s u ∧
        u.mem = s.mem ∧ u.stance = s.stance ∧ u.ctl = s.ctl ∧ u.geo = s.geo ∧ u.level = s.level ∧ u.axes = s.axes ∧
        u.arb = s.arb ∧ u.wind = s.wind ∧ u.ilk = s.ilk ∧ u.power = s.power ∧ u.limits = s.limits ∧
        u.telem = s.telem ∧ u.pending = s.pending)) ∧
  ∀ s : State, requestsSound s →
    let u := quiesceStart s
    let searching := s.level.search.isSome = true
    let standing : DishState := if inWindow s = true then .stowed else .parked
    (searching → u.stance = { s.stance with peakPending := true }) ∧ (¬ searching → u.stance = s.stance) ∧
    u.level = { s.level with search := none, watch := none } ∧
    (u.board.openSet.map (fun c => (c.slot, c.kind))) = (s.board.openSet.map (fun c => (c.slot, c.kind))) ∧
    u.board = { s.board with openSet := u.board.openSet } ∧ u.mem = s.mem ∧ u.geo = s.geo ∧ u.limits = s.limits ∧
    u.wind = s.wind ∧ u.ilk = s.ilk ∧ u.power = s.power ∧ u.telem = s.telem ∧ u.pending = s.pending ∧
    u.swap = s.swap ∧ u.arb = ⟨s.arb.grants, []⟩ ∧ (∀ a, controlledStopMade s u a) ∧
    (∀ a, (s.axis a).phase ≠ .waiting → (s.axis a).phase ≠ .driving → (s.axis a).phase ≠ .releasing →
      u.axis a = s.axis a) ∧
    (∀ a, (s.axis a).phase = .releasing →
      u.axis a = { s.axis a with stop := some ((s.axis a).stop.getD .controlled), next := none }) ∧
    (s.axes.mast.phase = .waiting → s.axes.lock ≠ .released →
      u.axes.mast.phase = .atRest ∧ u.axes.mast.target = s.axes.mast.position) ∧
    (s.axes.mast.phase = .waiting → s.axes.lock = .released →
      u.axes.mast.phase = .engaging ∧ u.axes.lock = .engaging ∧ u.axes.mast.stop = some .controlled) ∧
    (¬ searching → dishAtRest s = true → u.ctl = s.ctl) ∧
    (searching ∨ dishAtRest s = false → s.ctl.dishState ≠ .failed →
      (dishAtRest u = true → u.ctl = { s.ctl with dishState := standing, dishShort := none }) ∧
      (dishAtRest u = false → u.ctl = { s.ctl with
        dishState := if s.ctl.dishState = .peaking then .parked else s.ctl.dishState, dishShort := some .stop }))

/-- R81, R89: a stance written out is the stance read back from the package, SAVED, valid (R83), with its trim block and
the fix generation, for every stance within the ranges of R1 that satisfies the stance validity rule (R2) and every trim
block: one that is valid lies within the ranges of R49, and one that is not need only fit its fields, the zero block of a
stance with site NONE (R58) among them. -/
def Obligations.PackageRoundTrip : Prop := ∀ (m : Memory) (number : Nat) (st : Stance) (t : Trim) (gen : Nat),
  Memory.wf m = true → 0 ≤ st.mastGoal → st.mastGoal ≤ 15000 → (st.dishGoal.aimed = true → 1500 ≤ st.mastGoal) →
  (st.dishGoal = .site → st.site ≠ none) → (st.peakPending = true → st.dishGoal = .site) →
  (∀ x, st.dishGoal = .point x → -27000 ≤ x.pan ∧ x.pan ≤ 27000 ∧ -9000 ≤ x.tilt ∧ x.tilt ≤ 3000 ∧
    -9000 ≤ x.pol ∧ x.pol ≤ 9000) →
  (t.valid = true → -300 ≤ t.pan ∧ t.pan ≤ 300 ∧ -300 ≤ t.tilt ∧ t.tilt ≤ 300 ∧ -1000 ≤ t.peak ∧ t.peak ≤ -200 ∧
    -2000000 ≤ t.east ∧ t.east ≤ 2000000 ∧ -2000000 ≤ t.north ∧ t.north ≤ 2000000 ∧ t.heading ≤ 35999) →
  -32768 ≤ t.pan → t.pan ≤ 32767 → -32768 ≤ t.tilt → t.tilt ≤ 32767 → -32768 ≤ t.peak → t.peak ≤ 32767 →
  t.datum < 256 → -2147483648 ≤ t.east → t.east ≤ 2147483647 → -2147483648 ≤ t.north → t.north ≤ 2147483647 →
  0 ≤ t.heading → t.heading ≤ 65535 → gen < 65536 →
  let p := readPackage (writeBytes m (packageAddr number) (packageBytes st t gen)) number
  p.state = 2 ∧ p.stance = st ∧ p.trim = t ∧ p.savedAt = gen ∧ p.valid = true

/-- R59: at the load the trims of the package replace those of the incoming site's entry exactly when a fix is present,
they are valid and were learned in its datum, within 5 m and 100 cdeg of it; nothing else of the entry changes but by the
revision check, no other entry and nothing else of the module changes, and a package of no site changes nothing. -/
def Obligations.AdoptionRule : Prop :=
  (∀ (s : State) (p : Package), siteOfByte p.site = none → adoptTrims s p = s) ∧
  ∀ (s : State) (p : Package) (site : Fin 32), tableSound s → p.site = site.val →
    let e := s.entry site
    let rev := (readSite s.mem site.val).revision
    let t := (adoptTrims s p).entry site
    let d := fun (a b : Int) => (a - b) * (a - b)
    let fits := fun f : Fix => p.trimValid = 1 ∧ p.datum = f.datum ∧ d f.east p.east + d f.north p.north < 25 ∧
      min (p.heading - f.heading : Int).natAbs (36000 - (p.heading - f.heading : Int).natAbs) < 100
    (∀ f, s.geo.fix = some f → fits f → t.trim = p.trim) ∧
    ((∀ f, s.geo.fix = some f → ¬ fits f) →
      t.trim = if e.revision = rev then e.trim else { e.trim with valid := false }) ∧
    t.state = (if e.revision = rev then e.state else .empty) ∧ t.revision = rev ∧ t.sol = e.sol ∧
    t.fixGen = e.fixGen ∧ t.height = e.height ∧ (∀ k, k ≠ site → (adoptTrims s p).entry k = s.entry k) ∧
    adoptTrims s p = s.withGeo { s.geo with table := (adoptTrims s p).geo.table }

/-! ## SET_FIX (R31, R32, R53, R54) -/

/-- SET_FIX: a fix out of range is refused BAD_RECORD; an accepted one is the current fix once the event is over, with
the next generation, 1 after 65,535, and the lines, limits, wind, positions and intake list are as a take leaves them. It
completes OK with no warnings, and its result data give the new generation, whether the datum changed, whether the live
site was re-slewed, and how many trim blocks are kept and discarded; under the next even sequence (of the module's own count, also
where the host has written over it: the model's choice, log 76) the header holds the new generation and the datum, an equal
datum written again. The live site is re-slewed when its recompute can be
made and moves the pan or the tilt target by 2 cdeg, or when the fix discards the trims of a PEAKING dish; that the flush of
a block not valid before, by a new datum, is no such discarding is the model's choice (log 79). -/
def Obligations.SetFixTaken : Prop := ∀ (s : State) (n : Slot) (f : Fix),
  Taken s .setFix n → Memory.wf s.mem = true → f = readFix s.mem n →
  let changed := ∀ old, s.geo.fix = some old → old.datum ≠ f.datum
  let near := fun t : Trim => (f.east - t.east) * (f.east - t.east) + (f.north - t.north) * (f.north - t.north) < 25 ∧
    min (t.heading - f.heading).natAbs (36000 - (t.heading - f.heading).natAbs) < 100
  let kept := fun t : Trim => ¬ changed ∧ t.datum = f.datum ∧ near t
  let reslewed := ∃ site, s.stance.dishGoal = .site ∧ s.stance.site = some site ∧
    let e := s.entry site
    let r := readSite s.mem site.val
    let sol := solve r f s.ilk.pitch s.ilk.roll s.limits.roof s.ctl.effTarget
    let held := e.trim.valid = true ∧ kept e.trim
    let t := deriveTargets sol (if held then e.trim.pan else 0) (if held then e.trim.tilt else 0) s.axes.pan.position
    r.acceptable = true ∧ r.revision = e.revision ∧ 50 ≤ rangeOf r f ∧
      (2 ≤ (s.ctl.siteTargets.pan - t.pan).natAbs ∨ 2 ≤ (s.ctl.siteTargets.tilt - t.tilt).natAbs ∨
        (s.ctl.dishState = .peaking ∧ e.trim.valid = true ∧ ¬ held))
  (¬ (-2000000 ≤ f.east ∧ f.east ≤ 2000000 ∧ -2000000 ≤ f.north ∧ f.north ≤ 2000000 ∧ -5000 ≤ f.ground ∧
      f.ground ≤ 60000 ∧ f.heading ≤ 35999) →
    ∃ u, exec .setFix s = .next (endEvent s u) ∧ Refused s u n .badRecord) ∧
  (-2000000 ≤ f.east → f.east ≤ 2000000 → -2000000 ≤ f.north → f.north ≤ 2000000 → -5000 ≤ f.ground →
    f.ground ≤ 60000 → f.heading ≤ 35999 →
    ∃ t, exec .setFix s = .next t ∧ t.geo.fix = some f ∧
      t.geo.fixGen = (if s.geo.fixGen = 65535 then 1 else s.geo.fixGen + 1) ∧ t.limits = s.limits ∧
      t.wind = s.wind ∧ t.power = s.power ∧ t.telem = s.telem ∧ t.pending = s.pending ∧
      t.ilk.lines = s.ilk.lines ∧ t.ilk.pitch = s.ilk.pitch ∧ t.ilk.roll = s.ilk.roll ∧
      t.board.intake = s.board.intake.tail ∧ (∀ a, (t.axis a).position = (s.axis a).position) ∧
      (Sound s → tableSound s → Answered t n 0 ∧ readU8 t.mem (slotAddr n + 5) = 0 ∧
        readU16 t.mem (slotAddr n + 40) = t.geo.fixGen % 65536 ∧
        (readU8 t.mem (slotAddr n + 42) = 1 ↔ changed) ∧ (readU8 t.mem (slotAddr n + 43) = 1 ↔ reslewed) ∧
        readU8 t.mem (slotAddr n + 44) = s.geo.table.countP (fun e => decide (e.trim.valid = true ∧ kept e.trim)) ∧
        readU8 t.mem (slotAddr n + 45) = s.geo.table.countP (fun e => decide (e.trim.valid = true ∧ ¬ kept e.trim)) ∧
        (∀ k < 18, read8 t.mem (slotAddr n + 46 + k) = 0) ∧ readU16 t.mem 16 = t.geo.fixGen % 65536 ∧
        readU8 t.mem 18 = f.datum ∧ t.board.headerSeq = s.board.headerSeq + 2#16 ∧
        readU16 t.mem 10 = t.board.headerSeq.toNat))

/-- R53, R54, R55: what a SET_FIX leaves of the table. Without a fix before, or with another datum, an entry is EMPTY
with no valid trims. With the same datum a COMPUTED one is STALE and a valid block stays valid exactly when it was
learned within 5 m and 100 cdeg of the new fix. The live site's entry, with the dish goal SITE and a recompute that can
be made, is COMPUTED afresh for the new fix, its trims by the same rule; no other entry's revision, solution, generation
or height changes. The event ends as every event does, its header write with the generation and the datum in it. -/
def Obligations.TableAfterFix : Prop := ∀ (s : State) (n : Slot) (f : Fix),
  Taken s .setFix n → tableSound s → f = readFix s.mem n → f.acceptable = true →
  ∃ u, exec .setFix s = .next (updateHeaderWith s (settle u) (fixFields (settle u))) ∧ u.geo.table.length = 32 ∧
    ∀ k : Fin 32,
      let e := s.entry k
      let g := u.entry k
      let r := readSite s.mem k.val
      let live := s.stance.dishGoal = .site ∧ s.stance.site = some k ∧ r.acceptable = true ∧
        r.revision = e.revision ∧ 50 ≤ rangeOf r f
      let near := (f.east - e.trim.east) * (f.east - e.trim.east) +
        (f.north - e.trim.north) * (f.north - e.trim.north) < 25
      let turn := (e.trim.heading - f.heading).natAbs
      g.revision = e.revision ∧ g.trim = { e.trim with valid := g.trim.valid } ∧
      (live → g.state = .computed ∧ g.fixGen = u.geo.fixGen ∧ g.height = s.ctl.effTarget ∧
        g.sol = solve r f s.ilk.pitch s.ilk.roll s.limits.roof s.ctl.effTarget) ∧
      (¬ live → g.sol = e.sol ∧ g.fixGen = e.fixGen ∧ g.height = e.height) ∧
      ((∀ old, s.geo.fix = some old → old.datum ≠ f.datum) → g.trim.valid = false ∧ (¬ live → g.state = .empty)) ∧
      (∀ old, s.geo.fix = some old → old.datum = f.datum →
        (¬ live → g.state = (if e.state = .computed then .stale else e.state)) ∧
        (g.trim.valid = true ↔ e.trim.valid = true ∧ e.trim.datum = f.datum ∧ near ∧ min turn (36000 - turn) < 100))

/-! ## SET_LIMITS (R134, R164) -/

/-- SET_LIMITS: a record whose initial step is below its minimum step, or whose wind fields as they would be put in
force are out of order, is refused BAD_RECORD; any other is in force once the event is over, with nothing of the fix,
the lines and the positions changed, and nothing of the wind for a record equal to the one in force. For any other the
present figure (in DEGRADED and in a REFILL carrying band 2 the t2 in force, the model's inference, log 51) is judged
outside priming: the applied band rises to its band, never falls, and the residency period restarts where the figure
reaches it (R135; its moment counts as between sample times, log 8). In force is every field at the nearer end of its
range, the field as it stands inside it: the alarm-on time at or above the alarm period at half the period, and under
the fleet lock the wind fields within its bounds. The command completes OK with zero result data, with CLAMPED exactly
when a field was changed, and the record in force stands over the argument area and, under the next even sequence (of
the module's own count, the model's choice, log 76), in the header. A record in force has the 32 bytes from which it is read back. -/
def Obligations.SetLimitsTaken : Prop :=
  (∀ (s : State) (n : Slot) (l m : Limits),
    Taken s .setLimits n → Memory.wf s.mem = true → l = readLimits s.mem (argAddr n 0) →
    m = formLimits s.wind.fleetLock l →
    (¬ (l.minStep ≤ l.initialStep ∧ m.t1 < m.t2 ∧ m.t2 < m.t3 ∧ m.c1 ≤ m.c0 ∧ m.c2 ≤ m.c1) →
      ∃ u, exec .setLimits s = .next (endEvent s u) ∧ Refused s u n .badRecord) ∧
    (l.minStep ≤ l.initialStep → m.t1 < m.t2 → m.t2 < m.t3 → m.c1 ≤ m.c0 → m.c2 ≤ m.c1 →
      ∃ t, exec .setLimits s = .next t ∧ t.limits = m ∧ t.geo.fix = s.geo.fix ∧ t.geo.fixGen = s.geo.fixGen ∧
        t.ilk.lines = s.ilk.lines ∧ t.power = s.power ∧ t.telem = s.telem ∧ t.pending = s.pending ∧
        t.board.intake = s.board.intake.tail ∧ t.wind.figure = s.wind.figure ∧ t.wind.window = s.wind.window ∧
        (m = s.limits ∨ s.wind.priming = true → t.wind = s.wind) ∧
        (m ≠ s.limits → s.wind.priming = false →
          let atTwo := s.wind.anem = .degraded ∨ (s.wind.anem = .refill ∧ s.wind.carry = .bandTwo)
          let b := bandOf m (if atTwo then m.t2 else s.wind.figure)
          t.wind = { s.wind with
            band := max s.wind.band b
            residency := if s.wind.band ≤ b then some ⟨0, m.residency, true⟩ else s.wind.residency }) ∧
        (∀ a, (t.axis a).position = (s.axis a).position) ∧
        (Sound s → Answered t n 0 ∧ read8 t.mem (slotAddr n + 5) = (if m = l then 0 else 1) ∧
          (∀ k < 24, read8 t.mem (slotAddr n + 40 + k) = 0) ∧ readBytes t.mem (argAddr n 0) 32 = limitsBytes m ∧
          readBytes t.mem 64 32 = limitsBytes m ∧ t.board.headerSeq = s.board.headerSeq + 2#16 ∧
          readU16 t.mem 10 = t.board.headerSeq.toNat))) ∧
  ∀ (l : Limits) (fleet : Bool),
    let m := formLimits fleet l
    let into := fun lo hi v : Nat => if v < lo then lo else if hi < v then hi else v
    let period := into 200 2000 l.alarmPeriod
    let on := into 50 1950 l.alarmOn
    let bound := fun w v : Nat => if fleet = true ∧ w < v then w else v
    m.initialStep = into 10 100 l.initialStep ∧ m.minStep = into 1 20 l.minStep ∧
    m.threshold = into 1 20 l.threshold ∧ m.probeLimit = into 8 80 l.probeLimit ∧
    m.watchDrop = into 10 100 l.watchDrop ∧ m.anemoK = into 1 50 l.anemoK ∧ m.budget = into 25 60 l.budget ∧
    m.settle = into 100 1000 l.settle ∧ m.roof = into 1500 5000 l.roof ∧
    m.telemPeriod = into 100 2000 l.telemPeriod ∧ m.alarmPeriod = period ∧
    m.alarmOn = (if period ≤ on then period / 2 else on) ∧
    m.t1 = bound 100 (into 1 999 l.t1) ∧ m.t2 = bound 150 (into 1 999 l.t2) ∧ m.t3 = bound 200 (into 1 999 l.t3) ∧
    m.c0 = into 0 15000 l.c0 ∧ m.c1 = bound 10000 (into 0 15000 l.c1) ∧ m.c2 = bound 5000 (into 0 15000 l.c2) ∧
    m.residency = (if fleet = true ∧ into 60 3600 l.residency < 600 then 600 else into 60 3600 l.residency) ∧
    ∀ (mem : Memory) (a : Nat), Memory.wf mem = true → readLimits (writeBytes mem a (limitsBytes m)) a = m

/-! ## CLEAR_FAULT, STANDBY (R149, R170) -/

/-- R149, R150, R110, R26: a CLEAR_FAULT takes out of the fault set exactly the entries whose cause is gone by the table
of R149, in their order, completes OK without warnings, and its result data count the entries removed and remaining and
give the first eleven that remain. In NORMAL, RECOVERY, FORCED_STOW, and in HALTED with an axis-class fault left, the
mode stays and each FAULTED axis with no fault left returns to AT_REST with its target at its position, a mast FAILED
with it to NESTED or HELD. A FAILED dish leaves FAILED, with the dish goal NONE, when none of its axes is FAULTED by a
fault left; in FORCED_STOW it keeps its goal and its stow targets are issued again (R147). That it stays FAILED while an
axis still stops for its own fault, and that such an axis waits for the next CLEAR_FAULT, is the model's inference (logs
28 and 29, DEDUCED). In HALTED, with no axis-class fault left, axes, mast and dish return likewise, a mast goal that
waited for the mast becomes its extension (R25; within 0 to 15,000, log 61), the mode goes back to the return mode with a
recompute (log 71), and every trigger that holds is taken, in the order of the table (log 63): these three are the
model's choices. -/
def Obligations.ClearFaultTaken : Prop := ∀ (s : State) (n : Slot), Taken s .clearFault n → Sound s →
  s.ilk.faults.length ≤ 16 →
  let gone := fun f : FaultId => match f with
    | .vanMoved => s.ilk.lines.park = true
    | .attitude => s.ilk.pitch.natAbs ≤ 500 ∧ s.ilk.roll.natAbs ≤ 500
    | .overhead => s.ilk.lines.overhead = false
    | .windStow => 0 < effCeiling s
    | .sensor (.axis a) => (s.axis a).encValid = true
    | .sensor .incl => s.ilk.inclValid = true
    | .sensor .level => s.level.invalidRun < 3
    | .sensor .anemo => s.wind.anemoOk = true
    | .stall _ => True
    | .limit .mast => s.axes.tripped.mastTop = false
    | .limit .pan => s.axes.tripped.panPlus = false ∧ s.axes.tripped.panMinus = false
    | .limit .tilt => s.axes.tripped.tiltUp = false ∧ s.axes.tripped.tiltDown = false
    | .limit .pol => True
  let left := s.ilk.faults.filter (fun f => !removable s f)
  let sound := ∀ a, a ≠ .mast → axisHasFault left a = false ∧ (s.axis a).faultStop = false
  let mended := s.ctl.dishState = .failed ∧ sound
  let back := s.ctl.mastState = .failed ∧ (s.axes.mast.phase = .faulted ∨ s.axes.mast.phase = .atRest)
  let answered := fun u : State => Answered u n 0 ∧ readU8 u.mem (slotAddr n + 5) = 0 ∧
    readU8 u.mem (slotAddr n + 40) = s.ilk.faults.length - left.length ∧ readU8 u.mem (slotAddr n + 41) = left.length ∧
    (∀ k < 11, (readU8 u.mem (slotAddr n + 42 + 2 * k), readU8 u.mem (slotAddr n + 43 + 2 * k)) =
      ((left.map (fun f => (f.kindCode, f.qualifierCode))).getD k (0, 0))) ∧
    (∀ a, ¬ resultByte n a → read8 u.mem a = read8 s.mem a) ∧
    (s.ctl.mode ≠ .forcedStow ∨ ¬ mended ∨ s.axes.tripped = Switches.clear → u.ilk.faults = left) ∧
    u.board.openSet = s.board.openSet ∧ (FaultId.vanMoved ∈ s.ilk.faults → FaultId.vanMoved ∉ left →
      u.ilk.alarmRunning = false ∧ u.ilk.alarmOn = false)
  (∀ f, removable s f = true ↔ gone f) ∧
  (s.ctl.mode ≠ .halted ∨ anyAxisFault left = true → ∃ u, exec .clearFault s = .next (endEvent s u) ∧ answered u ∧
    u.ctl.mode = s.ctl.mode ∧ u.ctl.returnMode = s.ctl.returnMode ∧
    (s.ctl.mode ≠ .forcedStow → mended →
      (dishAtRest s = true → u.ctl.dishState = if inWindow s = true then .stowed else .parked) ∧
      u.ctl.dishState ≠ .failed ∧ u.stance.dishGoal = .none) ∧
    (¬ mended → u.ctl.dishState = s.ctl.dishState ∧ u.stance.dishGoal = s.stance.dishGoal) ∧
    (s.ctl.mode = .forcedStow → u.stance = s.stance) ∧
    (s.ctl.mode = .forcedStow → mended → s.stance.dishGoal = .stow → canIssue s = true → dishAtRest s = true →
      s.axes.tripped = Switches.clear → requestsSound s →
      u.ctl.dishState = .stowing ∧ ∀ a, a ≠ .mast → (u.axis a).target = stowTarget a ∧
        (near a (stowTarget a) (s.axis a).position = false → (u.axis a).phase = .waiting ∨ (u.axis a).phase = .driving)) ∧
    (axisHasFault left .mast = false → s.ctl.mastState = .failed → s.axes.mast.phase = .faulted → s.axes.tripped = Switches.clear →
      u.ctl.mastState = (if extension s ≤ 20 then .nested else .held)) ∧
    ∀ a, (s.axis a).phase = .faulted → axisHasFault left a = false → (s.ctl.mode = .forcedStow → ¬ mended) →
      (u.axis a).phase = .atRest ∧ (u.axis a).target = (s.axis a).position) ∧
  (s.ctl.mode = .halted → anyAxisFault left = false → ∃ u, answered u ∧
    (∀ a, (s.axis a).phase = .faulted → (u.axis a).phase = .atRest ∧ (u.axis a).target = (s.axis a).position) ∧
    (∀ a, (s.axis a).phase ≠ .faulted → u.axis a = s.axis a) ∧
    (back → u.ctl.mastState = if extension s ≤ 20 then .nested else .held) ∧
    (¬ back → u.ctl.mastState = s.ctl.mastState) ∧
    (back → s.ctl.goalOnReturn = true →
      u.ctl.goalOnReturn = false ∧ u.stance.mastGoal = max 0 (min 15000 (extension s))) ∧
    (¬ back ∨ s.ctl.goalOnReturn = false →
      u.ctl.goalOnReturn = s.ctl.goalOnReturn ∧ u.stance.mastGoal = s.stance.mastGoal) ∧
    (mended → u.stance.dishGoal = .none ∧
      (dishAtRest s = true → u.ctl.dishState = if inWindow s = true then .stowed else .parked)) ∧
    (¬ mended → u.ctl.dishState = s.ctl.dishState ∧ u.stance.dishGoal = s.stance.dishGoal) ∧
    u.ctl.mode = .halted ∧ u.ctl.returnMode = s.ctl.returnMode ∧
    exec .clearFault s = .next (endEvent s (takeAll (recomputeEff (u.withMode s.ctl.returnMode)))))

/-- An accepted STANDBY: with the module stowed at rest, nothing open and no slot waiting, it completes OK and the
module is ASLEEP in STANDBY, not READY, with the mast goal at the extension (within 0 to 15,000, the model's choice, log
61), peak pending clear, the wind, the level and
telemetry stopped; the applied band, the fix, the table and the fault set are kept, and so is the dish goal, but for one
of SITE or POINT, which gives way to NONE so that the stance stays valid (R2; the model's choice, log 49). -/
def Obligations.StandbyAccepted : Prop := ∀ (s : State) (n : Slot), Taken s .standby n → Memory.wf s.mem = true →
  s.board.intake = [n] → s.ctl.mastState = .nested → s.ctl.dishState = .stowed → s.board.openSet = [] →
  ∃ t, exec .standby s = .next t ∧ Answered t n 0 ∧ t.ctl.mode = .standby ∧ t.power.standby = .asleep ∧
    t.power.ready = false ∧ t.stance = { s.stance with
      mastGoal := max 0 (min 15000 (extension s)), peakPending := false
      dishGoal := if s.stance.dishGoal.aimed then .none else s.stance.dishGoal } ∧
    t.wind.running = false ∧ t.wind.window = [] ∧ t.wind.anem = .sampling ∧ t.wind.holdTimer = none ∧
    t.wind.band = s.wind.band ∧ t.level.running = false ∧ t.level.search = none ∧ t.telem.writing = false ∧
    t.telem.timer = none ∧ t.geo = s.geo ∧ t.ilk = s.ilk ∧ t.axes = s.axes ∧ t.limits = s.limits

/-! ## The bus port (R154, R156, R161) -/

/-- A write to NOTIFY appends to the intake list the slots of its set bits 0 to 7, in ascending order, that are neither
in the list nor open, and changes nothing else while the module is not asleep; asleep, with one of those bits set, it
is a wake event as well. -/
def Obligations.NotifyWrite : Prop := ∀ (s : State) (w : PortWrite),
  let joined := s.board.intake ++ allSlots.filter (fun n => (portValue w).getLsbD n.val && !slotHeld s.board n)
  (s.power.standby ≠ .asleep ∨ portValue w &&& 0x00FF#16 = 0#16 →
    exec (.notifyWrite w) s = .next (s.withBoard { s.board with intake := joined })) ∧
  (s.power.standby = .asleep → portValue w &&& 0x00FF#16 ≠ 0#16 →
    ∃ t, exec (.notifyWrite w) s = .next t ∧ t.board.intake = joined ∧ t.power = { s.power with standby := .waking } ∧
      t.wind.running = true ∧ t.wind.priming = true ∧ t.wind.window = [] ∧ t.wind.band = s.wind.band ∧
      t.stance = s.stance ∧ t.axes = s.axes ∧ t.geo = s.geo)

/-- A write to NOTICE clears the bits written as 1 and changes nothing else; a write to CONTROL holds the five enables,
and changes nothing else unless it turns the telemetry enable on or off: turned on while pages may be written it starts
a page, and no byte outside the page changes; turned off it stops the period timer. That an enable written set again
starts nothing is the model's inference (log 36, DEDUCED). -/
def Obligations.NoticeAndControlWrites : Prop := ∀ (s : State) (w : PortWrite),
  let held := portValue w &&& 0x001F#16
  exec (.noticeWrite w) s = .next (s.withBoard { s.board with notice := s.board.notice &&& ~~~(portValue w) }) ∧
  (held.getLsbD 4 = true → s.board.control.getLsbD 4 = true →
    exec (.controlWrite w) s = .next (s.withBoard { s.board with control := held })) ∧
  (held.getLsbD 4 = false → exec (.controlWrite w) s =
    .next ((s.withBoard { s.board with control := held }).withTelem { s.telem with timer := none })) ∧
  (held.getLsbD 4 = true → s.board.control.getLsbD 4 = false →
    ∃ t, exec (.controlWrite w) s = .next t ∧ t.board = { s.board with control := held } ∧ t.stance = s.stance ∧
      t.ctl = s.ctl ∧ t.axes = s.axes ∧ (telemetryRuns s = true → t.telem.writing = true ∧
        t.telem.timer = some s.limits.telemPeriod) ∧ (telemetryRuns s = false → t.telem = s.telem) ∧
      ∀ a, a < 0x300 ∨ 0x400 ≤ a → read8 t.mem a = read8 s.mem a)

/-- A host write to common memory stores its byte, or the two bytes of its word at an even offset, least significant
first, and changes nothing else; a write to STATUS or above the registers changes nothing. The manual gives a word at an
odd offset no effect, and the model stops on it (log 7). -/
def Obligations.HostWrites : Prop := ∀ (s : State) (offset : BitVec 15), Memory.wf s.mem = true →
  (∀ v, ∃ m, exec (.hostMemoryWrite offset (.byte v)) s = .next (s.withMem m) ∧ read8 m offset.toNat = v ∧
    ∀ a, a ≠ offset.toNat → read8 m a = read8 s.mem a) ∧
  (∀ v, offset.toNat % 2 = 0 → ∃ m, exec (.hostMemoryWrite offset (.word v)) s = .next (s.withMem m) ∧
    read8 m offset.toNat = v.extractLsb' 0 8 ∧ read8 m (offset.toNat + 1) = v.extractLsb' 8 8 ∧
    ∀ a, a ≠ offset.toNat → a ≠ offset.toNat + 1 → read8 m a = read8 s.mem a) ∧
  (∀ v, offset.toNat % 2 = 1 → exec (.hostMemoryWrite offset (.word v)) s = .fault .unalignedHostWord) ∧
  (∀ o w, exec (.otherRegisterWrite o w) s = .next s)

/-- R160: what STATUS reads, field by field. R161: the interrupt output is on exactly while a slot bit of NOTICE is set
under its enable of CONTROL, or the fault, the condition or the READY bit under its own. -/
def Obligations.StatusFields : Prop := ∀ s : State,
  (irq s = true ↔ (s.board.control.getLsbD 0 = true ∧ ∃ i < 8, s.board.notice.getLsbD i = true) ∨
    (s.board.control.getLsbD 1 = true ∧ s.board.notice.getLsbD 8 = true) ∨
    (s.board.control.getLsbD 2 = true ∧ s.board.notice.getLsbD 9 = true) ∨
    (s.board.control.getLsbD 3 = true ∧ s.board.notice.getLsbD 10 = true)) ∧
  (s.board.intake.length ≤ 8 →
  let v := readPort s 0x8000
  v.getLsbD 0 = s.power.ready ∧ (v.extractLsb' 1 3).toNat = s.ctl.mode.toNat ∧
  v.getLsbD 4 = decide (s.power.standby = .asleep) ∧ (v.extractLsb' 5 2).toNat = resetCauseCode s.power.cause ∧
  v.getLsbD 7 = s.power.mastUpAtReset ∧ v.getLsbD 8 = !s.ilk.faults.isEmpty ∧
  v.getLsbD 9 = decide (s.swap.phase = .quiesce) ∧ (v.extractLsb' 10 4).toNat = s.board.intake.length ∧
  (v.extractLsb' 14 2).toNat = 0)

/-- Site records are the host's: no command but a host write to common memory, the end of SETTLE and a reset changes a
byte of the site table. -/
def Obligations.SiteTableReadOnly : Prop := ∀ (c : Instr) (s t : State) (a : Nat),
  (∀ o d, c ≠ .hostMemoryWrite o d) → (∀ l b, c ≠ .settleEnd l b) → (∀ k, c ≠ .reset k) →
  exec c s = .next t → 0x400 ≤ a → a < 0xC00 → read8 t.mem a = read8 s.mem a

/-! ## Lines (R27, R112, R137, R144, R171) and forced stow (R143, R145) -/

/-- From READY to STANDBY a change of a line is recorded, and the change leaves the limits, the wind, the power state,
telemetry, the fix, the intake list, CONTROL and every position as they were; a level already recorded is no event
(the model's choice, log 3). What a change brings about: PARK going active and OVERHEAD going inactive are recomputes, the
release of HOLD_LINE recomputes the effective target, issues the mast's, and the dish's again; the other changes bring about what every event may, but
for OVERHEAD over a rising mast and HOLD_LINE, of which the next statements speak. The dish's targets issued again are
those of its goal, but for a dish at rest on its solution, which stays as it is and starts the search that is pending,
or LOCKED the touch-up of a fifth check: the model's inference (log 22, DEDUCED), since R27 issues the targets of the
goal again. For an EMPTY entry the targets so derived are the site targets in force, the model's inference too (log 33,
DEDUCED). -/
def Obligations.LineChangesTaken : Prop :=
  (∀ (s : State) (b : Bool), running s = true → s.power.phase ≠ .settle →
  (∃ t, exec (.parkChange b) s = .next t ∧ t.ilk.lines = { s.ilk.lines with park := b } ∧ surroundingsKept s t) ∧
  (∃ t, exec (.overheadChange b) s = .next t ∧ t.ilk.lines = { s.ilk.lines with overhead := b } ∧
    surroundingsKept s t) ∧
  (∃ t, exec (.stowLineChange b) s = .next t ∧ t.ilk.lines = { s.ilk.lines with stow := b } ∧
    surroundingsKept s t) ∧
  (∃ t, exec .holdLineAssert s = .next t ∧ t.ilk.lines = { s.ilk.lines with hold := true } ∧ surroundingsKept s t) ∧
  (∃ t, exec .holdLineRelease s = .next t ∧ t.ilk.lines = { s.ilk.lines with hold := false } ∧ surroundingsKept s t)) ∧
  (∀ (s : State) (b : Bool), running s = true → s.power.phase ≠ .settle →
    let now := fun l : Lines => s.withIlk { s.ilk with lines := l }
    let leads := fun (c : Instr) (u : State) => exec c s = .next (endEvent s u)
    let w := recomputeIssuing (now { s.ilk.lines with hold := false })
    (s.ilk.lines.park = b → exec (.parkChange b) s = .next s) ∧
    (s.ilk.lines.overhead = b → exec (.overheadChange b) s = .next s) ∧
    (s.ilk.lines.stow = b → exec (.stowLineChange b) s = .next s) ∧
    (s.ilk.lines.hold = true → exec .holdLineAssert s = .next s) ∧
    (s.ilk.lines.hold = false → exec .holdLineRelease s = .next s) ∧
    (s.ilk.lines.park = false → leads (.parkChange true) (recomputeEff (now { s.ilk.lines with park := true }))) ∧
    (s.ilk.lines.park = true → leads (.parkChange false) (now { s.ilk.lines with park := false })) ∧
    (s.ilk.lines.overhead = true →
      leads (.overheadChange false) (recomputeEff (now { s.ilk.lines with overhead := false }))) ∧
    (s.ilk.lines.overhead = false → ¬ (s.ctl.mastState = .rising ∧ s.ctl.mode = .normal) →
      leads (.overheadChange true) (now { s.ilk.lines with overhead := true })) ∧
    (s.ilk.lines.stow ≠ b → leads (.stowLineChange b) (now { s.ilk.lines with stow := b })) ∧
    (s.ilk.lines.hold = true → canIssue w = true → leads .holdLineRelease (reissueDish w)) ∧
    (s.ilk.lines.hold = true → canIssue w = false → leads .holdLineRelease w)) ∧
  ∀ s : State, canIssue s = true →
    let e := liveEntry s
    let trimPan := if e.trim.valid then e.trim.pan else 0
    let trimTilt := if e.trim.valid then e.trim.tilt else 0
    let t := deriveTargets e.sol trimPan trimTilt s.axes.pan.position
    let derived := if e.state = .empty then s
      else s.withCtl { s.ctl with siteTargets := t, siteTrimPan := trimPan, siteTrimTilt := trimTilt }
    let stays := s.stance.dishGoal = .site ∧ (s.ctl.dishState = .onSolution ∨ s.ctl.dishState = .locked) ∧
      s.ctl.touchUpMark = false ∧ dishAtRest s = true ∧ dishNear s derived.ctl.siteTargets = true
    let fifth := s.ctl.dishState = .locked ∧ s.level.watch = some 5
    (¬ stays → reissueDish s = pursueDish s) ∧
    (stays → s.stance.peakPending = true → reissueDish s = startSearch derived .full) ∧
    (stays → s.stance.peakPending = false → fifth → reissueDish s = startSearch derived .touchUp) ∧
    (stays → s.stance.peakPending = false → ¬ fifth → reissueDish s = derived)

/-- In standby a change of PARK, STOW_LINE or HOLD_LINE is a wake event: the module is WAKING and primes; a change of
OVERHEAD is recorded and wakes nothing. -/
def Obligations.StandbyWakes : Prop := ∀ (s : State) (c : Instr) (l : Lines),
  s.ctl.mode = .standby → s.power.standby = .asleep → s.power.phase ≠ .settle → l ≠ s.ilk.lines →
  (c = .parkChange l.park ∧ l = { s.ilk.lines with park := l.park } ∨
    c = .stowLineChange l.stow ∧ l = { s.ilk.lines with stow := l.stow } ∨
    c = .holdLineAssert ∧ l = { s.ilk.lines with hold := true } ∨
    c = .holdLineRelease ∧ l = { s.ilk.lines with hold := false } →
    ∃ t, exec c s = .next t ∧ t.ilk.lines = l ∧ t.power = { s.power with standby := .waking } ∧
      t.wind.running = true ∧ t.wind.priming = true ∧ t.wind.window = [] ∧ t.wind.band = s.wind.band ∧
      t.ctl.mode = .standby ∧ t.axes = s.axes ∧ t.stance = s.stance) ∧
  (l = { s.ilk.lines with overhead := l.overhead } →
    exec (.overheadChange l.overhead) s = .next (s.withIlk { s.ilk with lines := l }))

/-- OVERHEAD going active while the mast is RISING in NORMAL, in a quiesce too: the OVERHEAD fault is added, a driving mast
makes a controlled stop, one in its lock release makes it at the end of that phase, one that waits for its grant has its
request withdrawn and is at rest, open RAISE commands end FAULTED, and the mast goal is to become the extension once at
rest. A mast withdrawn from a reversal engages its lock at once, the model's choice (log 45). -/
def Obligations.OverheadStopsRise : Prop := ∀ s : State, Memory.wf s.mem = true → s.ctl.mode = .normal →
  s.ctl.mastState = .rising → s.power.phase ≠ .settle → s.ilk.lines.overhead = false → s.ilk.faults.length < 16 →
  requestsSound s →
  let m := s.axes.mast
  ∃ u, exec (.overheadChange true) s = .next (endEvent s u) ∧ FaultId.overhead ∈ u.ilk.faults ∧
    u.ilk.lines.overhead = true ∧ u.ctl.goalAtRest = some .overhead ∧ u.ctl.mode = .normal ∧
    (m.phase = .driving → u.axes.mast.phase = .stopping ∧ u.axes.mast.stop = some .controlled ∧
      u.axes.mast.deadline = none) ∧
    (m.phase = .releasing → u.axes.mast = { m with stop := some (m.stop.getD .controlled), next := none }) ∧
    (m.phase = .waiting → (∀ q ∈ u.arb.waits, q.axis ≠ .mast) ∧ u.axes.mast.target = m.position ∧
      (s.axes.lock ≠ .released → u.axes.mast.phase = .atRest) ∧
      (s.axes.lock = .released → u.axes.mast.phase = .engaging ∧ u.axes.lock = .engaging ∧
        u.axes.mast.stop = some .controlled)) ∧
    (m.phase = .atRest ∨ m.phase = .stopping ∨ m.phase = .engaging → u.axes.mast = m) ∧
    (∀ c ∈ s.board.openSet, c.kind = .raise → Answered u c.slot 18) ∧ (∀ c ∈ u.board.openSet, c.kind ≠ .raise)

/-- HOLD_LINE going active: every request is withdrawn and every grant released, no axis is left waiting or driving, and
one that drove makes an immediate stop, the mast over its engaging lock. Outside an exchange a running search has ended,
an open PEAK ends HALTED, the goals are kept, and peak pending stays set only for an open AIM with peak-after. During a
quiesce the axes alone act (R88): the search is over already, and stance, stance commands and PEAK stay as they are. The
premise is that memory keeps its form and no slot stands twice in intake list and open set, which every step keeps
(O58, O59). -/
def Obligations.HoldStops : Prop := ∀ s : State, Sound s → running s = true →
  s.power.phase ≠ .settle → s.ilk.lines.hold = false →
  ∃ u, exec .holdLineAssert s = .next (endEvent s u) ∧ u.ilk = { s.ilk with lines := u.ilk.lines } ∧
    u.ilk.lines = { s.ilk.lines with hold := true } ∧ u.arb = ⟨[], []⟩ ∧
    (∀ a, (u.axis a).phase ≠ .waiting ∧ (u.axis a).phase ≠ .driving) ∧
    (∀ a, a ≠ .mast → (s.axis a).phase = .driving → u.axis a = { s.axis a with
      phase := .stopping, deadline := none, arrived := false, stop := some .immediate, next := none }) ∧
    (s.axes.mast.phase = .driving → u.axes.lock = .engaging ∧ u.axes.mast = { s.axes.mast with
      phase := .engaging, deadline := none, arrived := false, stop := some .immediate, skidding := true, next := none }) ∧
    (s.swap.phase = .idle → u.level.search = none ∧
      u.stance = { s.stance with peakPending :=
        s.stance.peakPending && s.board.openSet.any (fun c => c.kind == .aim && c.peakAfter) } ∧
      u.ctl.mode = s.ctl.mode ∧ (∀ c ∈ s.board.openSet, c.kind = .peak → Answered u c.slot 19) ∧
      (∀ c ∈ u.board.openSet, c.kind ≠ .peak)) ∧
    (s.swap.phase = .quiesce → u.stance = s.stance ∧ u.ctl = s.ctl ∧ u.level = s.level ∧ u.swap = s.swap ∧
      u.board = s.board ∧ u.mem = s.mem)

/-- A forced-stow trigger taken in NORMAL or RECOVERY outside an exchange, with no limit switch tripped: its fault is
added, VAN_MOVED starts the alarm, the mode becomes FORCED_STOW, the mast goal 0 and the dish goal STOW, peak pending
and the touch-up mark are cleared, a search is abandoned, and every open stance command but STOW ends INTERLOCK. R143:
from READY on a judgement takes each condition that has come to hold, several in the order of the table (log 63, the
model's choice): PARK inactive with the module not stowed at rest, an attitude above 700 above the nest height, a
ceiling of 0, STOW_LINE. So the brake released, an attitude above 700 aloft and a ceiling that falls to 0, each under a
HELD mast, and STOW_LINE asserted leave NORMAL or RECOVERY for forced stow (or HALTED, where it can go no further) in
their event, with the fault of the trigger in the set. -/
def Obligations.ForcedStowStarts : Prop :=
  (∀ (s : State) (f : Option FaultId), Sound s →
    s.ctl.mode = .normal ∨ s.ctl.mode = .recovery → s.swap.phase = .idle → s.axes.tripped = Switches.clear →
    s.ilk.faults.length < 16 →
    let u := takeTrigger s f
    let barred := ofKinds [.raise, .lower, .aim, .peak, .point]
    (∀ x, f = some x → x ∈ u.ilk.faults) ∧
    (f = some .vanMoved → FaultId.vanMoved ∉ s.ilk.faults → u.ilk.alarmRunning = true ∧ u.ilk.alarmOn = true) ∧
    u.ctl.mode = .forcedStow ∧ u.stance = { s.stance with mastGoal := 0, dishGoal := .stow, peakPending := false } ∧
    u.ctl.touchUpMark = false ∧ u.ctl.signalLost = false ∧ u.level.search = none ∧ u.geo = s.geo ∧
    (∀ c ∈ s.board.openSet, barred c = true → Answered u c.slot 4) ∧
    (u.board.openSet.map (·.slot)) = (s.board.openSet.filter (fun c => !barred c)).map (·.slot) ∧
    (∀ a, (∀ c ∈ s.board.openSet, barred c = true → ¬ resultByte c.slot a) → read8 u.mem a = read8 s.mem a)) ∧
  (∀ s : State,
    let now : Triggers :=
      { vanMoved := decide (s.ilk.lines.park = false ∧ (s.ctl.mastState ≠ .nested ∨ s.ctl.dishState ≠ .stowed))
        attitude := decide ((700 < s.ilk.pitch.natAbs ∨ 700 < s.ilk.roll.natAbs) ∧ 1500 < extension s)
        windStow := decide (effCeiling s = 0)
        stowLine := s.ilk.lines.stow }
    let was := s.ilk.judged
    let take := fun (held was : Bool) (f : Option FaultId) (u : State) => if held && !was then takeTrigger u f else u
    (running s = false → judgeTriggers s = s) ∧
    (running s = true → judgeTriggers s = take now.stowLine was.stowLine none
      (take now.windStow was.windStow (some .windStow) (take now.attitude was.attitude (some .attitude)
        (take now.vanMoved was.vanMoved (some .vanMoved) (s.withIlk { s.ilk with judged := now })))))) ∧
  ∀ s : State, s.ctl.mode = .normal ∨ s.ctl.mode = .recovery → s.power.phase = .done → s.power.standby = .awake →
    s.ilk.faults.length < 8 →
    let stows := fun (c : Instr) (f : Option FaultId) => ∃ t, exec c s = .next t ∧ (∀ x, f = some x → x ∈ t.ilk.faults) ∧
      (t.ctl.mode = .forcedStow ∨ t.ctl.mode = .halted) ∧ (t.ctl.mode = .forcedStow → t.stance.mastGoal = 0 ∧
        t.stance.dishGoal = .stow ∧ t.stance.peakPending = false)
    (s.ilk.lines.park = true → s.ilk.judged.vanMoved = false → s.ctl.mastState = .held →
      stows (.parkChange false) (some .vanMoved)) ∧
    (s.ilk.lines.stow = false → s.ilk.judged.stowLine = false → stows (.stowLineChange true) none) ∧
    (∀ r : Tilts, r.valid = true → 700 < r.pitch.natAbs ∨ 700 < r.roll.natAbs → 1500 < extension s →
      s.ilk.judged.attitude = false → s.ctl.mastState = .held → stows (.inclinometerReading r) (some .attitude)) ∧
    (∀ pulses, s.wind.running = true → s.wind.priming = false → s.ilk.judged.windStow = false → effCeiling s ≠ 0 →
      effCeiling (windSample s pulses) = 0 → s.ctl.mastState = .held →
      stows (.windSample pulses) (some .windStow))

/-! ## Wind (R125 to R133) -/

/-- R125, R131, R132: the window and the figure of a sample time outside priming, in each anemometer state. A second in
which ANEMO_OK was low gives no sample. -/
def Obligations.WindSampleFigure : Prop := ∀ (s : State) (pulses : Nat),
  s.wind.running = true → s.wind.priming = false → s.wind.window.length ≤ 3 →
  let speed := min 999 (pulses * 10 / s.limits.anemoK)
  let joined := (s.wind.window ++ [speed]).drop (s.wind.window.length - 2)
  let high := s.wind.anemoOk = true ∧ s.wind.lowInSecond = false
  ∃ t, exec (.windSample pulses) s = .next t ∧ t.limits = s.limits ∧ t.power = s.power ∧
    t.board.intake = s.board.intake ∧ t.ilk.lines = s.ilk.lines ∧ t.wind.lowInSecond = !s.wind.anemoOk ∧
    (s.wind.anem = .sampling → high → t.wind.window = joined ∧ t.wind.figure = joined.foldl max 0 ∧
      t.wind.anem = .sampling) ∧
    (s.wind.anem = .sampling → ¬ high → t.wind.window = s.wind.window ∧ t.wind.figure = s.wind.figure) ∧
    (s.wind.anem = .hold → t.wind.window = s.wind.window ∧ t.wind.figure = s.wind.figure ∧ t.wind.anem = .hold) ∧
    (s.wind.anem = .degraded → t.wind.window = s.wind.window ∧ t.wind.figure = s.limits.t2 ∧
      t.wind.anem = .degraded) ∧
    (s.wind.anem = .refill → high → s.wind.refill = 2 → t.wind.anem = .sampling ∧ t.wind.window = joined ∧
      t.wind.figure = joined.foldl max 0) ∧
    (s.wind.anem = .refill → high → s.wind.refill < 2 → t.wind.anem = .refill ∧ t.wind.window = joined ∧
      t.wind.refill = s.wind.refill + 1 ∧
      t.wind.figure = if s.wind.carry = .heldFigure then s.wind.figure else s.limits.t2) ∧
    (s.wind.anem = .refill → ¬ high → s.wind.refill ≤ 2 → t.wind.anem = .refill ∧ t.wind.window = s.wind.window ∧
      t.wind.refill = s.wind.refill ∧
      t.wind.figure = if s.wind.carry = .heldFigure then s.wind.figure else s.limits.t2)

/-- R127, R128: the applied band at a figure event. It rises at once to the band of the figure, restarting the residency
period; it falls by one when the period has passed; any change of it sets CONDITION in NOTICE. The period is counted in
sample times (log 8, the model's choice). -/
def Obligations.BandJudged : Prop := ∀ (s : State) (pulses : Nat) (r : Residency),
  s.wind.running = true → s.wind.priming = false → s.wind.residency = some r →
  ∃ t, exec (.windSample pulses) s = .next t ∧
    let b := (if s.limits.t1 ≤ t.wind.figure then 1 else 0) + (if s.limits.t2 ≤ t.wind.figure then 1 else 0) +
      (if s.limits.t3 ≤ t.wind.figure then 1 else 0)
    let passed := r.period + (if r.offCadence then 1 else 0) ≤ r.elapsed + 1
    (s.wind.band < b → t.wind.band = b) ∧ (b = s.wind.band → t.wind.band = s.wind.band) ∧
    (b < s.wind.band → passed → t.wind.band = s.wind.band - 1) ∧
    (b < s.wind.band → ¬ passed → t.wind.band = s.wind.band ∧
      t.wind.residency = some { r with elapsed := r.elapsed + 1 }) ∧
    (s.wind.band ≤ b ∨ passed → t.wind.residency = some ⟨0, s.limits.residency, false⟩) ∧
    (t.wind.band ≠ s.wind.band → t.board.notice.getLsbD 9 = true)

/-- R131, R132: a loss of ANEMO_OK outside priming reports SENSOR(ANEMO) and holds the figure for 60 s, or is DEGRADED
where REFILL carried band 2; a return begins REFILL with an empty window; the hold timer's end is DEGRADED with t2 as
the figure, and judges no band in that event: the model's inference (log 15, DEDUCED). -/
def Obligations.AnemometerEvents : Prop := ∀ s : State, s.wind.running = true → s.wind.priming = false →
  (s.wind.anemoOk = true → s.ilk.faults.length < 16 → ∃ u, exec .anemoOkLow s = .next (endEvent s u) ∧
    u.wind.anemoOk = false ∧ u.wind.lowInSecond = true ∧ FaultId.sensor .anemo ∈ u.ilk.faults ∧
    u.wind.figure = s.wind.figure ∧ u.wind.window = s.wind.window ∧ u.wind.band = s.wind.band ∧
    (s.wind.anem = .sampling ∨ s.wind.anem = .refill ∧ s.wind.carry = .heldFigure →
      u.wind.anem = .hold ∧ u.wind.holdTimer = some 60) ∧
    (s.wind.anem = .refill → s.wind.carry = .bandTwo → u.wind.anem = .degraded)) ∧
  (s.wind.anemoOk = false → s.wind.anem = .hold ∨ s.wind.anem = .degraded →
    exec .anemoOkHigh s = .next (s.withWind { s.wind with
      anemoOk := true, anem := .refill, window := [], refill := 0, holdTimer := none
      carry := if s.wind.anem = .hold then .heldFigure else .bandTwo })) ∧
  (s.wind.anem = .hold → exec .holdTimerExpiry s = .next (s.withWind { s.wind with
    anem := .degraded, holdTimer := none, figure := s.limits.t2 }))

/-- R133: the end of the priming of a wake: the band of the figure, or band 2 with figure t2 for a lost priming, with the
anemometer state that goes with it; the residency period restarts. The figure of a priming not lost is the largest speed
of its window, the third sample joined where the second gave one (R125). -/
def Obligations.PrimingEnds : Prop := ∀ (s : State) (pulses : Nat), s.wind.priming = true → s.ctl.mode ≠ .starting →
  ∃ t, exec (.primingEnd pulses) s = .next t ∧ t.wind.priming = false ∧ t.wind.primingLost = false ∧
    t.wind.residency = some ⟨0, s.limits.residency, false⟩ ∧ t.wind.anemoOk = s.wind.anemoOk ∧
    (s.wind.primingLost = false → t.wind.band = bandOf s.limits t.wind.figure ∧ t.wind.anem = .sampling ∧
      (s.wind.window.length ≤ 3 →
        let speed := min 999 (pulses * 10 / s.limits.anemoK)
        let window := if s.wind.anemoOk = true ∧ s.wind.lowInSecond = false then
          (s.wind.window ++ [speed]).drop (s.wind.window.length - 2) else s.wind.window
        t.wind.window = window ∧ t.wind.figure = window.foldl max 0)) ∧
    (s.wind.primingLost = true → t.wind.band = 2 ∧ t.wind.figure = s.limits.t2 ∧
      (s.wind.anemoOk = true → t.wind.anem = .refill ∧ t.wind.carry = .bandTwo ∧ t.wind.window = [] ∧
        t.wind.refill = 0) ∧
      (s.wind.anemoOk = false → t.wind.anem = .degraded)) ∧
    (t.wind.band ≠ s.wind.band → t.board.notice.getLsbD 9 = true) ∧ t.limits = s.limits ∧ t.power = s.power

/-! ## Level, settle time, watch, attitude (R61 to R64, R78, R138) -/

/-- R61, R62: a level sample joins the history, the oldest leaving it; an invalid code is recorded as the held level and
counted; the third invalid sample in a row adds SENSOR(LEVEL). R64, R67, R68: while a search takes the samples of a
measurement each joins it, and the fourth completes it with the floor of their mean. That is the level of the centre,
after which the first probe point of a round follows, or the level of a probe, which is counted, with the limit flag at
the probe limit: then the second probe point follows, or after it, and at the limit, the comparison with the move to its
centre. A probe point out of bounds is skipped with the edge flag set; what an EMPTY entry skips and where it sends the
dish is the model's inference (log 33, DEDUCED). The targets are issued unless the mast is below the nest height. -/
def Obligations.LevelSampleTaken : Prop :=
  (∀ (s : State) (code : BitVec 12),
    s.level.running = true → s.level.history.length = 20 → s.ilk.faults.length < 12 →
    let ok := 100 ≤ code.toNat ∧ code.toNat ≤ 3300
    let v : Int := if 100 ≤ code.toNat ∧ code.toNat ≤ 3300 then ((code.toNat - 100) / 4 : Nat) - 1000 else s.level.held
    ∃ u, exec (.levelSample code) s = .next (endEvent s u) ∧
      (endEvent s u).level.history = s.level.history.tail ++ [v] ∧ (endEvent s u).level.held = v ∧
      (endEvent s u).level.invalidRun = (if ok then 0 else s.level.invalidRun + 1) ∧ surroundingsKept s (endEvent s u) ∧
      (¬ ok → s.level.invalidRun = 2 → FaultId.sensor .level ∈ u.ilk.faults)) ∧
  ∀ (s : State) (code : BitVec 12) (c : Search) (taken : List Int), s.level.running = true →
    s.level.history.length = 20 → s.level.search = some c → c.wait = .sampling taken →
    let ok := 100 ≤ code.toNat ∧ code.toNat ≤ 3300
    let v : Int := if 100 ≤ code.toNat ∧ code.toNat ≤ 3300 then ((code.toNat - 100) / 4 : Nat) - 1000 else s.level.held
    let heard := s.withLevel { s.level with
      history := s.level.history.tail ++ [v], held := v
      invalidRun := if 100 ≤ code.toNat ∧ code.toNat ≤ 3300 then 0 else s.level.invalidRun + 1 }
    let leads := fun d : Search => exec (.levelSample code) s = .next (endEvent s (searchMoves heard d))
    (ok ∨ s.level.invalidRun ≠ 2) →
    (taken.length < 3 → exec (.levelSample code) s = .next (endEvent s
      (heard.withLevel { heard.level with search := some { c with wait := .sampling (taken ++ [v]) } }))) ∧
    (∀ m : Int, taken.length = 3 → 4 * m ≤ taken.sum + v → taken.sum + v < 4 * m + 4 →
      let d := fun plus : Bool => { c with
        probes := c.probes + 1
        limit := c.limit || decide (c.params.probeLimit ≤ c.probes + 1)
        plusLevel := if plus then some m else c.plusLevel
        minusLevel := if plus then c.minusLevel else some m }
      (c.stage = .reference → leads (toPlus heard { c with lc := some m, moved := false } .pan)) ∧
      (∀ ax, c.stage = .probe ax true → (d true).limit = false → leads (toMinus heard (d true) ax)) ∧
      (∀ ax, c.stage = .probe ax true → (d true).limit = true → leads (toCentre heard (d true) ax)) ∧
      (∀ ax, c.stage = .probe ax false → leads (toCentre heard (d false) ax)))

/-- R64, R78: the end of the settle time opens the samples of a measurement; a check of the level watch counts one more
second below the peak level less the watch drop, else starts the count again, and the fifth starts a touch-up unless
HOLD_LINE or an exchange holds it back. That the end of a settle time with no search, the end of a timer that does not run,
leaves the state as it is, is the model's choice (log 3, DESIGN CHOICE). -/
def Obligations.SettleTimeAndWatch : Prop := ∀ s : State,
  (∀ c, s.level.search = some c → c.wait = .settling → exec .settleTimeExpiry s =
    .next (s.withLevel { s.level with search := some { c with wait := .sampling [] } })) ∧
  (s.level.search = none → exec .settleTimeExpiry s = .next s) ∧
  (∀ n, s.level.watch = some n →
    let n' := if 3 ≤ s.level.invalidRun then 0
      else if s.level.history.sum / 20 < (liveEntry s).trim.peak - s.limits.watchDrop then min 5 (n + 1) else 0
    let s' := s.withLevel { s.level with watch := some n' }
    (n' < 5 ∨ canIssue s = false → exec .watchCheck s = .next (endEvent s s')) ∧
    (n' = 5 → canIssue s = true → exec .watchCheck s = .next (endEvent s (startSearch s' .touchUp))))

/-- R138: a valid inclinometer reading is the attitude, in the wake warm-up too; an invalid one leaves the attitude and,
outside WARM_UP and the wake warm-up, adds SENSOR(INCL). R166: in WARM_UP the valid reading that finds every encoder
valid ends the phase: the switches are recorded and the wind priming begins, with no sensor fault but SENSOR(ANEMO). -/
def Obligations.InclinometerTaken : Prop := ∀ (s : State) (r : Tilts), s.power.phase ≠ .settle →
  (s.ctl.mode ≠ .standby ∨ s.power.standby = .waking) → s.ilk.faults.length < 16 →
  let ends := s.power.phase = .warmUp ∧ r.valid = true ∧ ∀ a, (s.axis a).encValid = true
  ∃ u, exec (.inclinometerReading r) s = .next (endEvent s u) ∧
    let t := endEvent s u
    t.ilk.inclValid = r.valid ∧ t.ilk.lines = s.ilk.lines ∧ (¬ ends → surroundingsKept s t) ∧
    (r.valid = true → t.ilk.pitch = r.pitch ∧ t.ilk.roll = r.roll ∧
      (¬ ends ∨ s.wind.anemoOk = true → u.ilk.faults = s.ilk.faults)) ∧
    (r.valid = false → t.ilk.pitch = s.ilk.pitch ∧ t.ilk.roll = s.ilk.roll ∧
      (s.power.phase ≠ .warmUp → s.power.standby ≠ .waking → FaultId.sensor .incl ∈ u.ilk.faults)) ∧
    (ends → s.ctl.mode = .starting → t.power = { s.power with phase := .priming } ∧ t.wind.running = true ∧
      t.wind.priming = true ∧ t.wind.window = [] ∧ t.axes = { s.axes with tripped := s.axes.contacts })

/-! ## Axes (R99 to R110, R152) -/

/-- R97, R109, R152: a reading of an encoder, and the return of its valid flag, make the value the position at once, and
leave every other axis where it was, in the wake warm-up too; the MAST_UP lamp follows the extension; the first reading
of WARM_UP is the target too. R166: the one that leaves every sensor valid ends WARM_UP: the switches are recorded and
the wind priming begins. R100, R101: from READY on a reading of the mast within 20 mm of its target, or past it (the
model's inference, log 20, DEDUCED), makes a driving mast arrived, with its deadline cancelled. R7: at the upward nest
crossing a dish in NEST_WAIT, or on its way there (log 57, the model's choice), has its targets issued, and so has a
search that waited for it. R11: at the downward one every dish axis that moves elsewhere than to its stow target gets a
controlled stop, and a dish so stopped with a goal of SITE or POINT is to be NEST_WAIT, unless its search runs. That a
search which waits below the nest height is given its targets at the upward crossing, and that one keeps PEAKING at the
downward crossing, is the model's inference (log 24, DEDUCED), since R11 says that no search can run there. -/
def Obligations.EncoderReadings : Prop :=
  (∀ (s : State) (a : Axis) (v : Int) (c : Instr),
  c = .encoderReading a v ∨ c = .encoderValidReturn a v → s.power.phase ≠ .settle →
  (s.ctl.mode ≠ .standby ∨ s.power.standby = .waking) →
  let ends := running s = false ∧ s.power.phase = .warmUp ∧ s.ilk.inclValid = true ∧
    ∀ b, b ≠ a → (s.axis b).encValid = true
  let lit := if a = .mast then { s.power with mastUpLamp := decide (20 < v) } else s.power
  ∃ t, exec c s = .next t ∧ (t.axis a).position = v ∧ (t.axis a).encValid = true ∧ (t.axis a).everValid = true ∧
    (t.axis a).lastValid = v ∧
    (∀ b, b ≠ a → (t.axis b).position = (s.axis b).position ∧ (t.axis b).encValid = (s.axis b).encValid) ∧
    (¬ ends → t.power = lit ∧ t.wind = s.wind) ∧
    (ends → t.power = { lit with phase := .priming } ∧ t.wind.running = true ∧ t.wind.priming = true ∧
      t.wind.window = [] ∧ t.axes.tripped = s.axes.contacts ∧
      (s.wind.anemoOk = true → t.ilk.faults = s.ilk.faults)) ∧
    t.limits = s.limits ∧ t.geo.fix = s.geo.fix ∧ t.ilk.lines = s.ilk.lines ∧ t.board.intake = s.board.intake ∧
    (s.ctl.mode = .starting → s.power.phase = .warmUp → (s.axis a).everValid = false → (t.axis a).target = v)) ∧
  ∀ (s : State) (v : Int) (c : Instr), c = .encoderReading .mast v ∨ c = .encoderValidReturn .mast v →
    running s = true → s.power.phase = .done →
    let x := s.axes.mast
    let old := extension s
    let arrives := x.phase = .driving ∧ x.arrived = false ∧ ((x.target - v).natAbs ≤ 20 ∨
      (old < x.target ∧ x.target < v) ∨ (v < x.target ∧ x.target < old))
    let read := { x with position := v, encValid := true, everValid := true, lastValid := v }
    let m := (s.withAxes { s.axes with mast := if arrives then { read with arrived := true, deadline := none } else read }
      ).withPower { s.power with mastUpLamp := decide (20 < v) }
    let leads := fun u : State => exec c s = .next (endEvent s u)
    let up := old < 1500 ∧ 1500 ≤ v
    let down := 1500 ≤ old ∧ v < 1500
    let awaits := s.ctl.dishState = .nestWait ∨ s.ctl.dishShort = some .nest
    let strays := fun a : Axis => a ≠ .mast ∧ (s.axis a).inMove = true ∧ (s.axis a).target ≠ stowTarget a
    (¬ up → ¬ down → leads m) ∧ (up → canIssue s = false → leads m) ∧
    (up → canIssue s = true → awaits → leads (pursueDish m)) ∧
    (up → canIssue s = true → ¬ awaits →
      (∀ d, s.level.search = some d → d.wait = .moving → leads (giveDish m d.asked)) ∧
      ((∀ d, s.level.search = some d → d.wait ≠ .moving) → leads m)) ∧
    (down → (∀ a, ¬ strays a) → leads m) ∧
    (down → (∃ a, strays a) → requestsSound s → ∃ u, leads u ∧ u.stance = s.stance ∧ u.level = s.level ∧
      (∀ a, strays a → controlledStopMade m u a) ∧
      (∀ a, ¬ strays a → (s.axis a).phase ≠ .waiting → u.axis a = m.axis a) ∧
      u.ctl = { s.ctl with dishShort :=
        if s.level.search = none ∧ s.stance.dishGoal.aimed = true then some .nest else s.ctl.dishShort })

/-- R106, R108, R109, R139, R140, R142: what an axis's own fault does. The loss of an encoder keeps the last position,
adds SENSOR(axis) and stops the axis: an immediate stop in DRIVING and STOPPING, a withdrawal in WAITING, FAULTED at
rest. That an axis that has arrived and
awaits its standstill makes the immediate stop of DRIVING, where R114 lets a move end at an arrival taken first, is the
model's choice (log 77, DESIGN CHOICE). That a loss in SETTLE or while the module is ASLEEP changes nothing is the model's inference (log 13, DEDUCED); that
the loss of a flag already clear and the trip of a contact already closed change nothing is the model's choice (log 3,
DESIGN CHOICE). A switch that trips is recorded, and where the axis moves toward it and has not arrived (the use of the mast's own
target is the model's inference, log 18, DEDUCED), the axis makes the same stop and LIMIT(axis) is added; a contact that
opens is recorded; up to the end of WARM_UP only the contact is noted. Both show at the stance as an axis fault (R25,
R26, R147). In a
lock release or engage the stop marks the mast and gives its grant up in that event while the phase runs to its end, the
model's inference (log 19, DEDUCED), and a WAITING mast whose lock a reversal left RELEASED engages it at once, the
model's choice (log 45). A fault reported joins the end of the set with FAULT_NEW and, in an empty set, is the
first-fault record; one present changes nothing; in a full set the oldest STALL, or entry whose cause is gone, gives way
to it. -/
def Obligations.OwnFaultStops : Prop :=
  (∀ (s : State) (a : Axis),
    (s.power.phase = .settle ∨ (s.ctl.mode = .standby ∧ s.power.standby ≠ .waking) ∨ (s.axis a).encValid = false →
      exec (.encoderInvalid a) s = .next s) ∧
    (s.power.phase ≠ .settle → (s.ctl.mode ≠ .standby ∨ s.power.standby = .waking) → (s.axis a).encValid = true →
      s.power.phase = .warmUp ∨ s.power.standby = .waking →
      exec (.encoderInvalid a) s = .next (s.withAxis a { s.axis a with encValid := false })) ∧
    (s.power.phase ≠ .settle → s.power.phase ≠ .warmUp → s.ctl.mode ≠ .standby → s.power.standby ≠ .waking →
      (s.axis a).encValid = true → s.ilk.faults.length < 16 → requestsSound s →
      ∃ u, exec (.encoderInvalid a) s = .next (endEvent s u) ∧ (u.axis a).encValid = false ∧
        (u.axis a).position = (s.axis a).position ∧ FaultId.sensor (.axis a) ∈ u.ilk.faults ∧
        faultStopMade s u a ∧ axisFaultShown s u a)) ∧
  (∀ (s : State) (sw : Switch),
    let unread := s.power.phase = .settle ∨ s.power.phase = .warmUp
    let a := switchAxis sw
    let marked := fun b : Bool => s.withAxes { s.axes with
      contacts := s.axes.contacts.put sw b
      tripped := if unread then s.axes.tripped else s.axes.tripped.put sw b }
    exec (.limitSwitchOpen sw) s = .next (marked false) ∧
    (s.axes.contacts.get sw = true → exec (.limitSwitchTrip sw) s = .next s) ∧
    (s.axes.contacts.get sw = false → tripStops s sw = false → exec (.limitSwitchTrip sw) s = .next (marked true)) ∧
    (s.axes.contacts.get sw = false → tripStops s sw = true → s.ilk.faults.length < 16 → requestsSound s →
      ∃ u, exec (.limitSwitchTrip sw) s = .next (endEvent s u) ∧ u.axes.contacts = s.axes.contacts.put sw true ∧
        u.axes.tripped = (if unread then s.axes.tripped else s.axes.tripped.put sw true) ∧
        FaultId.limit a ∈ u.ilk.faults ∧ faultStopMade s u a ∧ axisFaultShown s u a) ∧
    ((s.axis a).phase = .driving → (s.axis a).arrived = false → towardSwitch s sw = true → tripStops s sw = true)) ∧
  (∀ (s : State) (f : FaultId),
    let u := addFault s f
    (f ∈ s.ilk.faults → u = s) ∧
    (f ∉ s.ilk.faults → s.ilk.faults.length < 16 →
      u.ilk.faults = s.ilk.faults ++ [f] ∧ u.board.notice.getLsbD 8 = true ∧
      u.ilk.first = (if s.ilk.faults = [] then ⟨some f, s.power.uptime⟩ else s.ilk.first) ∧
      (f = .vanMoved → u.ilk.alarmRunning = true ∧ u.ilk.alarmOn = true)) ∧
    (∀ older d newer, f ∉ s.ilk.faults → s.ilk.faults.length = 16 → s.ilk.faults.Nodup →
      s.ilk.faults = older ++ d :: newer → ((∃ a, d = .stall a) ∨ removable s d = true) →
      (∀ g ∈ older, (∀ a, g ≠ .stall a) ∧ removable s g = false) →
      u.ilk.faults = older ++ newer ++ [f] ∧ u.board.notice.getLsbD 8 = true ∧ u.ilk.first = s.ilk.first ∧
      (d = .vanMoved → u.ilk.alarmRunning = false ∧ u.ilk.alarmOn = false)))

/-- R98 to R105, R110: how moves end and begin. Where no request of the axis waits, a dish axis at standstill on its
target is AT_REST without deadline or grant; one that was stopped is AT_REST with its target at its position, or FAULTED
after a stop for its own fault, and a target recorded meanwhile is taken as one given at rest, where one may be given it
at rest (R6, R11, R25 and R88 bar it; the model's inference, log 50, DEDUCED). A mast arrived or stopped starts its lock
engage; at the end of the lock release it drives with the deadline of its distance; at the end of the lock engage it is
AT_REST without grant, or FAULTED. A target given to an axis is recorded in FAULTED, in STOPPING, in ENGAGING and in a
lock release; at rest it is nothing to do (within tolerance, toward a tripped switch too, the model's choice, log 73), a
limit fault, or a request placed before a grant check; while driving it is
a new deadline, an arrival (log 43), or for a mast that must turn round a reversal, which gives its grant up and
requests again in one grant check. R103, R117: while WAITING a target within tolerance withdraws the request (a mast
with its lock RELEASED engages it first, at once, log 45); a mast that turns round and so draws otherwise, or a move
that gains the forced-stow priority, has its request placed anew, in one grant check (log 62, the model's choice); any
other keeps its request. -/
def Obligations.StandstillAndLock : Prop :=
  (∀ (s : State) (a : Axis), (∀ q ∈ s.arb.waits, q.axis ≠ a) →
    let x := s.axis a
    (a ≠ .mast → x.next = none → x.phase = .driving → near a x.target x.position = true → x.stop = none →
      x.faultStop = false →
      ∃ u, exec (.standstill a) s = .next (endEvent s u) ∧ (u.axis a).phase = .atRest ∧
        (u.axis a).target = x.target ∧ (u.axis a).deadline = none ∧ noGrant u a) ∧
    (a ≠ .mast → x.phase = .stopping → x.stop.isSome = true →
      ∃ u, noGrant u a ∧ (u.axis a).stop = none ∧ (u.axis a).position = x.position ∧
        (u.axis a).phase = (if x.faultStop then .faulted else .atRest) ∧
        (x.faultStop = false → (u.axis a).target = x.position) ∧
        (x.next = none ∨ x.faultStop = true → exec (.standstill a) s = .next (endEvent s u)) ∧
        (∀ t p, x.next = some (t, p) → x.faultStop = false → exec (.standstill a) s = .next (endEvent s
          (if near a t x.position then u.withAxis a { u.axis a with target := t }
           else if recordStands u a t then orLimit (axisGive u a t p) a else u)))) ∧
    (a = .mast → (x.phase = .driving ∧ x.arrived = true) ∨ x.phase = .stopping →
      ∃ u, exec (.standstill .mast) s = .next (endEvent s u) ∧ u.axes.mast.phase = .engaging ∧
        u.axes.lock = .engaging ∧ u.arb = s.arb ∧ u.axes.mast.stop = x.stop ∧ u.axes.mast.next = x.next) ∧
    (a = .mast → s.axes.lock = .releasing → x.phase = .releasing → x.stop = none →
      near .mast x.target x.position = false →
      grantedDraw s .mast = some (if x.position < x.target then 25 else 2) →
      let d := (x.target - x.position).natAbs
      let rate := if x.position < x.target then 150 else 200
      ∃ u k, exec .lockReleaseEnd s = .next (endEvent s u) ∧ u.axes.mast.phase = .driving ∧
        u.axes.lock = .released ∧ u.axes.mast.deadline = some (k + 30) ∧ 15 * d ≤ k * rate ∧ k * rate < 15 * d + rate) ∧
    (a = .mast → s.axes.lock = .engaging → x.phase = .engaging → x.skidding = false → x.next = none →
      ∃ u, exec .lockEngageEnd s = .next (endEvent s u) ∧ u.axes.lock = .engaged ∧ noGrant u .mast ∧
        u.axes.mast.phase = (if x.faultStop then .faulted else .atRest) ∧
        (x.faultStop = false → u.axes.mast.target = if x.stop.isSome then x.position else x.target))) ∧
  (∀ (s : State) (a : Axis) (t : Int) (p : Priority), travelLow a ≤ t → t ≤ travelHigh a →
    let x := s.axis a
    let r := axisGive s a t p
    let request : Request := ⟨a, drawOf a (decide (x.position < t)), p⟩
    let retargeted := s.withAxis a { x with
      target := t, arrived := false
      deadline := some (deadlineTenths (t - x.position).natAbs (rateOf a (decide (x.position < t)))) }
    (x.phase = .faulted → r = (s.withAxis a { x with target := t }, false)) ∧
    (x.phase = .stopping ∨ x.phase = .engaging ∨ (x.phase = .releasing ∧ towardTripped s a t = false) →
      r = (s.withAxis a { x with target := t, next := some (t, p) }, false)) ∧
    (x.phase = .atRest → near a t x.position = true → r = (s.withAxis a { x with target := t }, false)) ∧
    (x.phase = .atRest → near a t x.position = false → towardTripped s a t = true →
      r = (s.withAxis a { x with target := t, phase := .faulted }, true)) ∧
    (x.phase = .atRest → near a t x.position = false → towardTripped s a t = false →
      ∃ v, r = (grantCheck v, false) ∧ v.arb = { s.arb with waits := joinList request s.arb.waits } ∧
        v.axis a = { x with
          target := t, phase := .waiting, arrived := false, stop := none, faultStop := false, next := none } ∧
        (∀ b, b ≠ a → v.axis b = s.axis b) ∧ v.axes.lock = s.axes.lock ∧ v.stance = s.stance ∧ v.ctl = s.ctl) ∧
    (x.phase = .driving → a ≠ .mast ∨ x.arrived = false → near a t x.position = true →
      r = (s.withAxis a { x with target := t, arrived := true, deadline := none }, false)) ∧
    (x.phase = .driving → near a t x.position = false → towardTripped s a t = false →
      (a ≠ .mast → r = (retargeted, false)) ∧
      (a = .mast → x.arrived = false → grantedDraw s .mast = some request.draw → r = (retargeted, false)) ∧
      (a = .mast → x.arrived = false → grantedDraw s .mast ≠ some request.draw →
        ∃ v, r = (grantCheck v, false) ∧
          v.arb = ⟨s.arb.grants.filter (fun g => g.axis != .mast), joinList request s.arb.waits⟩ ∧
          v.axes.mast = { x with target := t, phase := .waiting, deadline := none, arrived := false, stop := none } ∧
          (∀ b, b ≠ .mast → v.axis b = s.axis b) ∧ v.axes.lock = s.axes.lock)) ∧
    (x.phase = .waiting → x.faultStop = false → near a t x.position = true →
      let others := s.arb.waits.filter (fun q => q.axis != a)
      let turning := a = .mast ∧ s.axes.lock = .released
      ∃ v, r = (grantCheck v, false) ∧ v.arb = ⟨s.arb.grants, others⟩ ∧ (∀ b, b ≠ a → v.axis b = s.axis b) ∧
        (¬ turning → v.axes.lock = s.axes.lock ∧
          v.axis a = { x with phase := .atRest, target := x.position, next := none }) ∧
        (turning → v.axes.lock = .engaging ∧ v.axis a = { x with
          phase := .engaging, target := x.position, deadline := none, stop := some .controlled, skidding := false
          next := none })) ∧
    (∀ old, x.phase = .waiting → near a t x.position = false → towardTripped s a t = false →
      s.arb.waits.find? (fun q => q.axis == a) = some old →
      let again := old.draw ≠ request.draw ∨ (old.priority = .ordinary ∧ p = .forcedStow)
      (again → ∃ v, r = (grantCheck v, false) ∧
        v.arb = ⟨s.arb.grants, joinList request (s.arb.waits.filter (fun q => q.axis != a))⟩ ∧
        v.axis a = { x with target := t } ∧ (∀ b, b ≠ a → v.axis b = s.axis b) ∧ v.axes.lock = s.axes.lock) ∧
      (¬ again → r = (s.withAxis a { x with target := t }, false))) ∧
    (x.phase = .waiting → near a t x.position = false → towardTripped s a t = true →
      r = (immediateStop (s.withAxis a { x with target := t }) a true, true)))

/-- R102, R105, R106: a deadline that expires, a controlled stop that finds no standstill in 2 s, and an immediate stop
likewise lead to a next state, whatever else holds. They add STALL(axis) to a set that is not full (O41 says what a full
one does), and the position stays. Where the requests are sound, which every step keeps (O42), they make the immediate
stop of R106 for the axis's own fault (in the lock phases and after a reversal as logs 19 and 45 say), and the fault
shows at the stance as an axis fault (R25, R26, R147). -/
def Obligations.StallsReported : Prop := ∀ (s : State) (a : Axis) (c : Instr),
  (c = .deadlineExpiry a ∧ (s.axis a).deadline.isSome = true ∨
    c = .controlledStopTimeout a ∧ (s.axis a).phase = .stopping ∧ (s.axis a).stop = some .controlled ∨
    c = .immediateStopTimeout a ∧ (s.axis a).stop = some .immediate ∧
      ((s.axis a).phase = .stopping ∨ (s.axis a).skidding = true)) →
  ∃ u, exec c s = .next (endEvent s u) ∧ (u.axis a).position = (s.axis a).position ∧
    (s.ilk.faults.length < 16 → FaultId.stall a ∈ u.ilk.faults) ∧
    (requestsSound s → faultStopMade s u a ∧ axisFaultShown s u a)

/-! ## Timers (R151, R162, R163) -/

/-- R163, 10.2: the telemetry period starts a page under an odd generation, with every field as the module holds it then,
the reserved bytes zero, and a period again; the end of a page write puts in the next even generation, 2 after 65,535;
no byte outside the page changes. That the fields are those of the moment the page began, so that its end changes the
generation alone, is the model's inference (log 36, DEDUCED). That an expiry during a page write keeps its odd
generation (log 11), that the period started is the one in force at the page, also at the first page after a SET_LIMITS
(log 47), that the generation goes on from the module's own, also where the host has written over it (log 76), that
of the uptime the low 32 bits are shown (log 81), and that a page end that finds no page is no event (log 3) are the model's choices. -/
def Obligations.TelemetryTimers : Prop := ∀ s : State, Memory.wf s.mem = true → countsSound s →
  (s.telem.timer.isSome = true → s.board.control.getLsbD 4 = true → s.ctl.mode ≠ .standby → s.power.phase ≠ .settle →
    let bit := fun (b : Bool) (n : Nat) => if b then 2 ^ n else 0
    let bitOf := fun f : FaultId => match f with
      | .stall a => (match a with | .mast => 0 | .pan => 1 | .tilt => 2 | .pol => 3)
      | .limit a => (match a with | .mast => 4 | .pan => 5 | .tilt => 6 | .pol => 32)
      | .sensor (.axis a) => (match a with | .mast => 7 | .pan => 8 | .tilt => 9 | .pol => 10)
      | .sensor .incl => 11
      | .sensor .level => 12
      | .sensor .anemo => 13
      | .overhead => 14
      | .vanMoved => 15
      | .attitude => 16
      | .windStow => 17
    let site := if s.stance.dishGoal = .site then s.ctl.siteTargets else ⟨0, 0, 0⟩
    let probes := s.level.search.elim 0 (·.probes)
    ∃ t, exec .telemetryPeriodExpiry s = .next t ∧
      let byte := fun (k v : Nat) => readU8 t.mem (0x300 + k) = v % 256
      let half := fun (k : Nat) (v : Int) => readBytes t.mem (0x300 + k) 2 = le16 v
      t.telem.writing = true ∧ t.telem.timer = some s.limits.telemPeriod ∧ t.telem.gen.getLsbD 0 = true ∧
      readU16 t.mem 0x300 = t.telem.gen.toNat ∧ byte 2 s.ctl.mode.toNat ∧ byte 3 s.ctl.mastState.toNat ∧
      byte 4 s.ctl.dishState.toNat ∧ byte 5 s.wind.band ∧
      byte 6 (bit s.ctl.signalLost 0 + bit (decide (s.ctl.mode = .forcedStow)) 1 + bit s.stance.peakPending 2) ∧
      byte 7 (s.stance.site.elim 255 (·.val)) ∧ half 8 (extension s) ∧ half 10 s.ctl.effTarget ∧
      half 12 s.stance.mastGoal ∧ half 14 (effCeiling s) ∧ half 16 s.axes.pan.position ∧ half 18 s.axes.pan.target ∧
      half 20 s.axes.tilt.position ∧ half 22 s.axes.tilt.target ∧ half 24 s.axes.pol.position ∧
      half 26 s.axes.pol.target ∧ half 28 site.pan ∧ half 30 site.tilt ∧ half 32 site.pol ∧ half 34 s.wind.figure ∧
      half 36 s.ilk.pitch ∧ half 38 s.ilk.roll ∧ half 40 (s.level.history.sum / 20) ∧ byte 42 s.limits.budget ∧
      byte 43 (s.arb.grants.map (·.draw)).sum ∧ byte 44 s.arb.waits.length ∧
      byte 45 (s.level.search.elim 0 (·.step)) ∧ byte 46 probes ∧
      byte 47 (bit s.ilk.lines.park 0 + bit s.ilk.lines.overhead 1 + bit s.ilk.lines.stow 2 + bit s.ilk.lines.hold 3) ∧
      (∀ f, f ≠ .limit .pol → (readU32 t.mem 0x330).testBit (bitOf f) = decide (f ∈ s.ilk.faults)) ∧
      readU32 t.mem 0x334 = s.power.uptime % 4294967296 ∧ (∀ k < 200, read8 t.mem (0x338 + k) = 0) ∧
      (∀ a, a < 0x300 ∨ 0x400 ≤ a → read8 t.mem a = read8 s.mem a) ∧ t.stance = s.stance ∧ t.board = s.board) ∧
  (s.telem.writing = true → ∃ t, exec .telemetryPageWriteEnd s = .next t ∧ t.telem.writing = false ∧
    t.telem.timer = s.telem.timer ∧ t.telem.gen = (if s.telem.gen = 0xFFFF#16 then 2#16 else s.telem.gen + 1#16) ∧
    readU16 t.mem 0x300 = t.telem.gen.toNat ∧ ∀ a, a ≠ 0x300 → a ≠ 0x301 → read8 t.mem a = read8 s.mem a) ∧
  (s.telem.writing = false → exec .telemetryPageWriteEnd s = .next s)

/-- R151, R162: while the alarm cadence runs, the end of the alarm-on time puts ALARM off, and the end of the period puts
it on for a period of the timing now in force. Past SETTLE a second of uptime counts one, and the header holds it under
the next even sequence (of the module's own count, the model's choice, log 76); of an uptime past
four bytes the low 32 bits, the model's choice (log 81). Nothing else changes, no other field of the header either (log 65, the model's choice). -/
def Obligations.AlarmAndUptime : Prop := ∀ s : State,
  (s.ilk.alarmRunning = true →
    exec .alarmOnExpiry s = .next (s.withIlk { s.ilk with alarmOn := false }) ∧
    exec .alarmPeriodExpiry s = .next (s.withIlk { s.ilk with
      alarmOn := true, alarmPeriod := s.limits.alarmPeriod, alarmOnTime := s.limits.alarmOn })) ∧
  (Memory.wf s.mem = true → s.power.phase ≠ .settle →
    ∃ m, exec .uptimeTick s = .next (((s.withPower { s.power with uptime := s.power.uptime + 1 }).withMem m).withBoard
        { s.board with headerSeq := s.board.headerSeq + 2#16 }) ∧
      readU32 m 12 = (s.power.uptime + 1) % 4294967296 ∧ readU16 m 10 = (s.board.headerSeq + 2#16).toNat ∧
      ∀ a, a < 10 ∨ 16 ≤ a → read8 m a = read8 s.mem a)

/-! ## Start-up and standby (R165 to R171) -/

/-- What a reset leaves, as each chapter gives it: the live stance, the modes, the table, the fault set, the registers,
the limits at their defaults, the axes at rest with the lock engaged, nothing granted or waiting, and, but for a
POWER_ON, common memory as it was, up to the end of SETTLE the header's mast-up-at-reset byte too (log 66, the model's
choice). -/
def Obligations.ResetLeaves : Prop := ∀ (s : State) (c : ResetCause), ∃ t, exec (.reset c) s = .next t ∧
  t.stance = ⟨none, 0, .none, false, false, false⟩ ∧ t.ctl.mode = .starting ∧ t.ctl.returnMode = .normal ∧
  t.ctl.touchUpMark = false ∧ t.ctl.signalLost = false ∧ t.geo.fix = none ∧ t.geo.fixGen = 0 ∧
  t.geo.table = List.replicate 32 ⟨.empty, 0, 0, ⟨0, 0, 0, 0, 0, 0, false⟩, 0, ⟨false, 0, 0, 0, 0, 0, 0, 0⟩⟩ ∧
  t.ilk.faults = [] ∧ t.ilk.first = ⟨none, 0⟩ ∧ t.ilk.pitch = 0 ∧ t.ilk.roll = 0 ∧ t.ilk.alarmOn = false ∧
  t.board.intake = [] ∧ t.board.openSet = [] ∧ t.board.control = 0#16 ∧ t.board.notice = 0#16 ∧
  t.limits = Limits.defaults ∧ (∀ a, (t.axis a).phase = .atRest ∧ (t.axis a).deadline = none) ∧
  t.axes.lock = .engaged ∧ t.arb.grants = [] ∧ t.arb.waits = [] ∧ t.wind.figure = 0 ∧ t.wind.band = 0 ∧
  t.wind.window = [] ∧ t.wind.anem = .sampling ∧ t.wind.residency = none ∧ t.level.search = none ∧
  t.level.watch = none ∧ t.swap.phase = .idle ∧ t.power.phase = .settle ∧ t.power.standby = .awake ∧
  t.power.ready = false ∧ t.power.uptime = 0 ∧ t.power.mastUpAtReset = false ∧ t.power.slotsReturned = [] ∧ t.pending = s.pending ∧
  (c ≠ .powerOn → ¬ (s.power.phase = .settle ∧ s.power.cause = .powerOn) → t.power.cause = c ∧ t.mem = s.mem) ∧
  (c = .powerOn ∨ s.power.phase = .settle ∧ s.power.cause = .powerOn → t.power.cause = .powerOn)

/-- R166, R167, R162, R163: the end of SETTLE takes the lines and the strap, gathers the slots whose owner reads PART,
after a POWER_ON puts every owner to HOST, every site out of use and every package EMPTY and leaves every other byte
beyond the header and the telemetry generation, after any other reset leaves them all, and writes the header with
sequence 0 and the values held: cause, mast up at reset and slots returned (0 after a reset), uptime, fix, faults, the
first-fault record and the limits; of an uptime past four bytes the low 32 bits, the model's choice (log 81). An enable set earlier starts the first page. That it is no event outside
SETTLE is the model's choice (log 3, DESIGN CHOICE). -/
def Obligations.SettleEnds : Prop := ∀ (s : State) (l : Lines) (strap : Bool),
  (s.power.phase ≠ .settle → exec (.settleEnd l strap) s = .next s) ∧
  (Memory.wf s.mem = true → s.power.phase = .settle →
    let enabled := s.board.control.getLsbD 4
    let page := fun a : Nat => a = 0x300 ∨ a = 0x301 ∨ (enabled = true ∧ 0x300 ≤ a ∧ a < 0x400)
    let cleared := fun a : Nat => (∃ n : Slot, a = slotAddr n) ∨ (∃ n, n < 32 ∧ a = siteAddr n) ∨
      ∃ n, n < 4 ∧ a = packageAddr n
    ∃ t, exec (.settleEnd l strap) s = .next t ∧ t.ilk = { s.ilk with lines := l } ∧
      t.wind = { s.wind with fleetLock := strap } ∧
      t.power = { s.power with phase := .warmUp, resetSet := t.power.resetSet } ∧
      t.board = { s.board with headerSeq := 0#16 } ∧ t.stance = s.stance ∧ t.ctl = s.ctl ∧ t.geo = s.geo ∧
      t.limits = s.limits ∧ t.axes = s.axes ∧ t.arb = s.arb ∧ t.level = s.level ∧ t.swap = s.swap ∧
      t.pending = s.pending ∧
      readU16 t.mem 0 = 0x0340 ∧ readU16 t.mem 2 = 1 ∧ readU8 t.mem 4 = 8 ∧ readU8 t.mem 5 = 32 ∧
      readU8 t.mem 6 = 4 ∧ readU8 t.mem 7 = resetCauseCode s.power.cause ∧ readU8 t.mem 8 = (if s.power.mastUpAtReset then 1 else 0) ∧
      (s.power.slotsReturned = [] → readU8 t.mem 9 = 0) ∧ readU16 t.mem 10 = 0 ∧
      readU32 t.mem 12 = s.power.uptime % 4294967296 ∧ readU16 t.mem 16 = s.geo.fixGen % 65536 ∧
      readU8 t.mem 18 = headerDatum s % 256 ∧ readU8 t.mem 19 = s.ilk.faults.length % 256 ∧
      readU8 t.mem 20 = firstKind s.ilk.first ∧ readU8 t.mem 21 = firstQualifier s.ilk.first ∧ readU16 t.mem 22 = 0 ∧
      readU32 t.mem 24 = s.ilk.first.uptime % 4294967296 ∧ readU32 t.mem 28 = 0 ∧ readBytes t.mem 32 32 = faultBytes s.ilk.faults ∧
      readBytes t.mem 64 32 = limitsBytes s.limits ∧
      (enabled = false → t.telem = Telemetry.reset ∧ readU16 t.mem 0x300 = 0) ∧
      (enabled = true → t.telem = ⟨1#16, true, some s.limits.telemPeriod⟩ ∧ readU16 t.mem 0x300 = 1) ∧
      (s.power.cause ≠ .powerOn → (∀ n, n ∈ t.power.resetSet ↔ slotOwner s.mem n = 1) ∧
        ∀ a, 0x100 ≤ a → ¬ page a → read8 t.mem a = read8 s.mem a) ∧
      (s.power.cause = .powerOn → t.power.resetSet = [] ∧ (∀ a, cleared a → read8 t.mem a = 0) ∧
        ∀ a, 0x100 ≤ a → ¬ page a → ¬ cleared a → read8 t.mem a = read8 s.mem a))

/-- R166, R108, R133: at the end of WARM_UP an axis whose encoder is not valid is FAULTED at position 0 with
SENSOR(axis), the others stay as they are, an inclinometer not valid gives SENSOR(INCL), the switches are recorded, and
the wind priming begins. -/
def Obligations.WarmUpEnds : Prop := ∀ s : State, s.power.phase = .warmUp → s.ilk.faults = [] →
  ∃ t, exec .warmUpEnd s = .next t ∧ t.power = { s.power with phase := .priming } ∧ t.wind.running = true ∧
    t.wind.priming = true ∧ t.wind.window = [] ∧ t.axes.tripped = s.axes.contacts ∧ t.stance = s.stance ∧
    (∀ a, (s.axis a).encValid = true → t.axis a = s.axis a ∧ FaultId.sensor (.axis a) ∉ t.ilk.faults) ∧
    (∀ a, (s.axis a).encValid = false → (t.axis a).phase = .faulted ∧ (t.axis a).position = 0 ∧
      (t.axis a).target = 0 ∧ FaultId.sensor (.axis a) ∈ t.ilk.faults) ∧
    (FaultId.sensor .incl ∈ t.ilk.faults ↔ s.ilk.inclValid = false)

/-- R169, R171: whatever the sensors show, READY ends priming with the module READY, and the end of the wake warm-up ends
the wake with the module AWAKE and READY; both set the READY bit of NOTICE and start level sampling afresh. -/
def Obligations.ReadySignalled : Prop := ∀ s : State,
  let begun := fun u : State => u.power.ready = true ∧ u.board.notice.getLsbD 10 = true ∧ u.level.running = true ∧
    u.level.history = List.replicate 20 (-1000) ∧ u.level.invalidRun = 0
  (∀ pulses, s.power.phase = .priming →
    ∃ u, exec (.ready pulses) s = .next (endEvent s u) ∧ begun u ∧ u.power.phase = .done) ∧
  (∀ r, s.power.standby = .waking →
    ∃ u, exec (.wakeWarmUpEnd r) s = .next (wakeTelemetry (endEvent s u)) ∧ begun u ∧ u.power.standby = .awake)

/-- R168, R169, R1: READY with every sensor sound and no forced-stow condition: the mode is NORMAL with the mast NESTED
and the dish STOWED, else RECOVERY with MAST_UP_AT_RESET; the mast goal is the extension, one above 15,000 taken as
15,000 (log 61, the model's choice); the slots of the reset set are answered RESET; READY is signalled and the level history starts
at its lowest level. -/
def Obligations.ReadySound : Prop := ∀ (s : State) (pulses : Nat), Memory.wf s.mem = true → s.power.resetSet.Nodup →
  s.power.phase = .priming → s.stance = Stance.reset → s.ctl.mode = .starting → s.swap.phase = .idle →
  s.level.search = none → s.axes.mast.encValid = true → s.axes.mast.phase = .atRest →
  anyAxisFault s.ilk.faults = false → s.ilk.lines.park = true → s.ilk.lines.stow = false → s.ilk.pitch.natAbs ≤ 700 → s.ilk.roll.natAbs ≤ 700 →
  effCeiling (endPriming s pulses) ≠ 0 →
  let rest := extension s ≤ 20 ∧ inWindow s = true
  ∃ u, exec (.ready pulses) s = .next (endEvent s u) ∧ u.power.ready = true ∧ u.power.phase = .done ∧
    u.board.notice.getLsbD 10 = true ∧ (rest → u.ctl.mode = .normal ∧ u.power.mastUpAtReset = false) ∧
    (¬ rest → u.ctl.mode = .recovery ∧ u.power.mastUpAtReset = true) ∧
    u.stance = { Stance.reset with mastGoal := max 0 (min 15000 (extension s)) } ∧ u.ilk.faults = s.ilk.faults ∧
    u.power.slotsReturned = s.power.resetSet ∧ (∀ n ∈ s.power.resetSet, Answered u n 20) ∧
    (∀ a, (∀ n ∈ s.power.resetSet, ¬ resultByte n a) → read8 u.mem a = read8 s.mem a) ∧
    u.level.running = true ∧ u.level.history = List.replicate 20 (-1000) ∧ u.level.held = -1000

/-- R171: the end of the wake warm-up with every sensor valid, the mast nested, the dish in the window and no forced-stow
condition: the positions are those read, the mode is NORMAL, the module AWAKE and READY, and level sampling starts
afresh; telemetry resumes after the event. -/
def Obligations.WakeWarmUpSound : Prop := ∀ (s : State) (m p t q : Int) (r : Tilts), s.ctl.mode = .standby →
  s.power.standby = .waking → s.power.phase = .done → s.level.search = none → s.axes.tripped = Switches.clear →
  anyAxisFault s.ilk.faults = false → s.ilk.lines.park = true → s.ilk.lines.stow = false → effCeiling s ≠ 0 →
  r.valid = true → m ≤ 20 → -100 ≤ p → p ≤ 100 → t ≤ -8900 → -200 ≤ q → q ≤ 200 →
  ∃ u, exec (.wakeWarmUpEnd ⟨some m, some p, some t, some q, r⟩) s = .next (wakeTelemetry (endEvent s u)) ∧
    u.ctl.mode = .normal ∧ u.power = { s.power with
      standby := .awake, ready := true, mastUpLamp := decide (20 < m) } ∧ u.board.notice.getLsbD 10 = true ∧
    u.axes.mast.position = m ∧ u.axes.pan.position = p ∧ u.axes.tilt.position = t ∧ u.axes.pol.position = q ∧
    u.ilk.pitch = r.pitch ∧ u.ilk.roll = r.roll ∧ u.ilk.faults = s.ilk.faults ∧ u.level.running = true ∧
    u.level.history = List.replicate 20 (-1000) ∧ u.stance = s.stance ∧ u.wind = s.wind ∧ u.ctl.dishState = .stowed

/-! ## Pointing, budget, height, searches (R8, R41, R48, R57, R69, R72, R118) -/

/-- R48: whatever the solution, the trims and the present pan, every target derived lies within the pan travel, the aim
range and the pol travel. R37 to R39: the reported range is the nearest metre to the horizontal distance, for every two
points of the survey area; RANGE_FAR is a range above 80,000 m; a site due north, east, south or west of the van bears 0,
9,000, 18,000 or 27,000; and the worked case of the manual's chapter comes out as it gives it. -/
def Obligations.TargetsInTravel : Prop :=
  (∀ (sol : Solution) (trimPan trimTilt present : Int),
    let t := deriveTargets sol trimPan trimTilt present
    (-27000 ≤ t.pan ∧ t.pan ≤ 27000) ∧ (-1000 ≤ t.tilt ∧ t.tilt ≤ 3000) ∧ -9000 ≤ t.pol ∧ t.pol ≤ 9000) ∧
  (∀ (r : SiteRecord) (f : Fix) (pitch roll : Int) (roof : Nat) (eff : Int),
    let sol := solve r f pitch roll roof eff
    let dE := r.east - f.east
    let dN := r.north - f.north
    let square := 4 * (dE * dE + dN * dN)
    (dE.natAbs ≤ 4000000 → dN.natAbs ≤ 4000000 →
      square < (2 * (sol.range : Int) + 1) * (2 * (sol.range : Int) + 1) ∧
      (0 < sol.range → (2 * (sol.range : Int) - 1) * (2 * (sol.range : Int) - 1) ≤ square)) ∧
    (sol.rangeFar = true ↔ 80000 < sol.range) ∧
    (dE = 0 → 0 < dN → sol.bearing = 0) ∧ (0 < dE → dN = 0 → sol.bearing = 9000) ∧
    (dE = 0 → dN < 0 → sol.bearing = 18000) ∧ (dE < 0 → dN = 0 → sol.bearing = 27000)) ∧
  ∀ r : SiteRecord, r.east = 13000 → r.north = 7000 → r.altitude = 2150 → r.polarisation = 0 →
    solve r ⟨7, 1000, 2000, 1200, 4500⟩ 120 (-80) 3400 12000 = ⟨2238, -111, 28, 6738, 31, 13000, false⟩

/-- R41: the cable-wrap choice is a candidate within the travel, no candidate is nearer to the present pan, among equally
near ones none is of smaller absolute value, and among those P' itself is chosen. -/
def Obligations.WrapChoice : Prop := ∀ (p present : Int), -18000 < p → p ≤ 18000 →
  let q := wrapPan p present
  let candidate := fun c : Int => (c = p ∨ c = p + 36000 ∨ c = p - 36000) ∧ -27000 ≤ c ∧ c ≤ 27000
  candidate q ∧ ∀ c, candidate c → (q - present).natAbs ≤ (c - present).natAbs ∧
    ((q - present).natAbs = (c - present).natAbs → q.natAbs ≤ c.natAbs ∧ (q.natAbs = c.natAbs → q = p ∨ q = c))

/-- R118: a grant check grants a first part of the wait list, in its order, within the budget, and ends when the list is
empty or its head does not fit. R99, R102: what a grant starts: a dish axis drives, with a deadline of 1.5 times its
distance over its rate and 3 s, in tenths rounded up; the mast releases its lock, or with the lock RELEASED after a
reversal drives at once; every other axis stays as it is. -/
def Obligations.GrantOrder : Prop := ∀ s : State, ∃ granted left,
  s.arb.waits = granted ++ left ∧ (grantCheck s).arb.waits = left ∧
  (grantCheck s).arb.grants = s.arb.grants ++ granted.map (fun r => ⟨r.axis, r.draw⟩) ∧
  (granted ≠ [] → currentInUse (grantCheck s) ≤ s.limits.budget) ∧
  (∀ h rest, left = h :: rest → s.limits.budget < currentInUse (grantCheck s) + h.draw) ∧
  currentInUse (grantCheck s) = currentInUse s + (granted.map (·.draw)).sum ∧ (grantCheck s).limits = s.limits ∧
  ((s.arb.waits.map (·.axis)).Nodup →
    let u := grantCheck s
    let fromLock := fun a : Axis => a = .mast ∧ s.axes.lock ≠ .released
    (∀ r ∈ granted, ¬ fromLock r.axis →
      let x := s.axis r.axis
      let d := (x.target - x.position).natAbs
      let rate := match r.axis with
        | .mast => if x.position < x.target then 150 else 200
        | .pan => 600
        | .tilt => 300
        | .pol => 900
      ∃ k, u.axis r.axis = { x with phase := .driving, arrived := false, stop := none, deadline := some (k + 30) } ∧
        15 * d ≤ k * rate ∧ k * rate < 15 * d + rate) ∧
    (∀ r ∈ granted, fromLock r.axis → u.axes.lock = .releasing ∧
      u.axes.mast = { s.axes.mast with phase := .releasing, arrived := false, stop := none }) ∧
    (∀ a, (∀ r ∈ granted, r.axis ≠ a) → u.axis a = s.axis a) ∧
    ((∀ r ∈ granted, ¬ fromLock r.axis) → u.axes.lock = s.axes.lock))

/-- R8, R12: in NORMAL, RECOVERY and FORCED_STOW the effective target is the lesser of the mast goal and the effective
ceiling, but for the nest floor: with the dish outside its stow window it is never below 1,500 mm, or the extension of a
mast already lower, and the floor never calls for an upward move. Elsewhere it is the mast goal. R9, R10: a recompute puts
it in force, once a running search has been abandoned for it (R76), and the mast's target goes before those of the dish
that searched (R9, R123; that R76 leaves the mast to R9 is the model's inference, log 25, DEDUCED). Where it changed, or
the event asks for the mast's target, or an upward target held back is due (log 55, DEDUCED), the mast is driven: at rest
more than 20 mm off it is given it, nearer nothing but the rise to 1,521 mm; one that moves is retargeted. A target above
the extension, a retarget too, is issued only under R10, and else is due; that a moving mast is given 0 mm whatever R10
says is the model's choice (log 82). R4: a mast at rest is RISING or DESCENDING with a
target more than 20 mm off; one that moves turns with a retarget to the other side of its extension, at any distance (log
60, DEDUCED). With the dish goal SITE a changed target recomputes the live site; the site targets in force stand in for an
EMPTY entry's (log 33, DEDUCED). R6, R7, R11, R27: the dish that turns to its goal is STOWING, SLEWING, or NEST_WAIT below
1,500 mm with no target; where none may be issued a dish at rest stands (log 54, the model's choice), and a FAILED dish is
given its stow targets in FORCED_STOW alone (log 28, DEDUCED). An axis given a target within tolerance stays at rest, any
other waits or drives. R44, R45: the re-slew by dish state; from PEAKING it ends the search ABANDONED, its commands answered
OK, the trims as they were, before the new targets are issued under the touch-up mark. That a SLEWING dish below the nest
height becomes NEST_WAIT with the new targets (log 24), and one ON_SOLUTION or LOCKED whose targets are held back keeps its
state with the mark set (log 22), is the model's inference (DEDUCED), as are the others so marked. -/
def Obligations.EffectiveTargetRule : Prop :=
  (∀ s : State,
    let lesser := min s.stance.mastGoal (effCeiling s)
    let driving := s.ctl.mode = .normal ∨ s.ctl.mode = .recovery ∨ s.ctl.mode = .forcedStow
    (¬ driving → effectiveTarget s = s.stance.mastGoal) ∧
    (driving → inWindow s = true ∨ 1500 ≤ lesser → effectiveTarget s = lesser) ∧
    (driving → inWindow s = false → min 1500 (extension s) ≤ effectiveTarget s) ∧
    (driving → effectiveTarget s ≠ lesser → effectiveTarget s ≤ extension s ∧ effectiveTarget s ≤ 1500 ∧
      lesser < effectiveTarget s) ∧
    (canIssue s = true ↔ driving ∧ s.ilk.lines.hold = false ∧ s.swap.phase = .idle)) ∧
  (∀ s : State,
    let e := effectiveTarget s
    let g := abandonForHeight s
    let w := driveMast (g.withCtl { g.ctl with effTarget := e }) true
    let d := if s.level.search = none then w else slewTo w s.ctl.siteTargets
    recomputeEff s = recompute s false ∧ recomputeIssuing s = recompute s true ∧ (s.level.search = none → g = s) ∧
    ∀ acts : Bool, (e = s.ctl.effTarget → recompute s acts = driveMast s acts) ∧
      (e ≠ s.ctl.effTarget → d.stance.dishGoal = .site → recompute s acts = (recomputeLive d false).1) ∧
      (e ≠ s.ctl.effTarget → d.stance.dishGoal ≠ .site → recompute s acts = d)) ∧
  (∀ (s : State) (acts : Bool),
    let e := s.ctl.effTarget
    let x := extension s
    let m := s.axes.mast
    let allowed := s.ctl.mode = .normal ∧ s.ilk.lines.park = true ∧ s.ilk.lines.overhead = false ∧
      FaultId.overhead ∉ s.ilk.faults ∧ s.ilk.lines.hold = false
    let held := fun b : Bool => s.withCtl { s.ctl with upwardDue := b }
    let bottom := fun t : Int => m.inMove = true ∧ t ≤ 0
    let issued := fun t : Int => (x < t → ¬ allowed → ¬ bottom t → driveMast s acts = held true) ∧
      (t ≤ x ∨ allowed ∨ bottom t → driveMast s acts = giveMast (held false) t)
    let rises := x < 1500 ∧ 1500 ≤ e ∧ s.stance.dishGoal.aimed = true ∧ 1521 ≤ effCeiling s
    let due := acts = true ∨ s.ctl.upwardDue = true
    (canIssue s = false ∨ s.ctl.goalAtRest ≠ none ∨ ¬ due → driveMast s acts = s) ∧
    (canIssue s = true → s.ctl.goalAtRest = none → due →
      (m.phase = .atRest → 20 < (e - x).natAbs → issued e) ∧
      (m.phase = .atRest → (e - x).natAbs ≤ 20 → rises → issued 1521) ∧
      (m.phase = .atRest → (e - x).natAbs ≤ 20 → ¬ rises → driveMast s acts = held false) ∧
      (m.phase ≠ .atRest → issued e))) ∧
  (∀ (s : State) (t : Int),
    let x := extension s
    let m := s.ctl.mastState
    let moves : MastState := if m = .rising ∧ t < x then .descending else if m = .descending ∧ x < t then .rising
      else if (m = .nested ∨ m = .held) ∧ x + 20 < t then .rising
      else if (m = .nested ∨ m = .held) ∧ t + 20 < x then .descending else m
    let r := axisGive (s.withCtl { s.ctl with mastState := moves }) .mast t
      (if s.ctl.mode = .forcedStow then .forcedStow else .ordinary)
    giveMast s t = if r.2 then axisFault r.1 .mast (.limit .mast) else r.1) ∧
  (∀ s : State,
    let turned := fun (d : DishState) (u : State) =>
      (u.withCtl { u.ctl with dishState := d, dishShort := none }).withLevel { u.level with watch := none }
    let stow : Targets := ⟨0, -9000, 0⟩
    let e := liveEntry s
    let trimPan := if e.trim.valid then e.trim.pan else 0
    let trimTilt := if e.trim.valid then e.trim.tilt else 0
    let t := deriveTargets e.sol trimPan trimTilt s.axes.pan.position
    let derived := if e.state = .empty then s
      else s.withCtl { s.ctl with siteTargets := t, siteTrimPan := trimPan, siteTrimTilt := trimTilt }
    let stands := (dishAtRest s = true →
        pursueDish s = turned (if inWindow s = true then .stowed else .parked) s) ∧
      (dishAtRest s = false → (pursueDish s).axes = s.axes ∧ (pursueDish s).ctl.dishShort = some .stop)
    let aimed := s.stance.dishGoal.aimed = true
    (s.ctl.dishState = .failed → canIssue s = true → s.ctl.mode = .forcedStow → s.stance.dishGoal = .stow →
      pursueDish s = giveDish s stow) ∧
    (s.ctl.dishState = .failed → canIssue s = false ∨ s.ctl.mode ≠ .forcedStow ∨ s.stance.dishGoal ≠ .stow →
      pursueDish s = s) ∧
    (s.ctl.dishState ≠ .failed → canIssue s = true →
      (s.stance.dishGoal = .none → pursueDish s = s) ∧
      (s.stance.dishGoal = .stow → pursueDish s = giveDish (turned .stowing s) stow) ∧
      (s.stance.dishGoal = .site → 1500 ≤ extension s →
        pursueDish s = giveDish (turned .slewing derived) derived.ctl.siteTargets) ∧
      (∀ p, s.stance.dishGoal = .point p → 1500 ≤ extension s → pursueDish s = giveDish (turned .slewing s) p)) ∧
    (s.ctl.dishState ≠ .failed → aimed → extension s < 1500 → pursueDish s = turned .nestWait s) ∧
    (s.ctl.dishState ≠ .failed → canIssue s = false → ¬ aimed ∨ 1500 ≤ extension s → stands)) ∧
  (∀ (s : State) (t : Targets), s.axes.tripped = Switches.clear → requestsSound s →
    s.ctl.dishState ≠ .failed ∨ s.ctl.mode = .forcedStow → (∀ a, a ≠ .mast → (s.axis a).phase = .atRest) →
    -27000 ≤ t.pan → t.pan ≤ 27000 → -9000 ≤ t.tilt → t.tilt ≤ 3000 → -9000 ≤ t.pol → t.pol ≤ 9000 →
    let u := giveDish s t
    u.stance = s.stance ∧ u.ctl = s.ctl ∧ u.axes.pan.target = t.pan ∧ u.axes.tilt.target = t.tilt ∧
      u.axes.pol.target = t.pol ∧
      ∀ a, a ≠ .mast → (u.axis a).position = (s.axis a).position ∧
        (near a (u.axis a).target (s.axis a).position = true → (u.axis a).phase = .atRest) ∧
        (near a (u.axis a).target (s.axis a).position = false →
          (u.axis a).phase = .waiting ∨ (u.axis a).phase = .driving)) ∧
  (∀ (s : State) (site : Fin 32), s.stance.site = some site →
    let r := readSite s.mem site.val
    let e := s.entry site
    let trimPan := if e.trim.valid then e.trim.pan else 0
    let trimTilt := if e.trim.valid then e.trim.tilt else 0
    let made := fun f : Fix => s.geo.fix = some f ∧ r.acceptable = true ∧ r.revision = e.revision ∧ 50 ≤ rangeOf r f
    (s.level.search = none ∨ e.state ≠ .empty → (∀ f, ¬ made f) → recomputeLive s false = (s, false)) ∧
    ∀ f, made f →
      let sol := solve r f s.ilk.pitch s.ilk.roll s.limits.roof s.ctl.effTarget
      let t := deriveTargets sol trimPan trimTilt s.axes.pan.position
      let old := s.ctl.siteTargets
      let u := s.withEntry site ⟨.computed, s.geo.fixGen, s.ctl.effTarget, sol, r.revision, e.trim⟩
      let v := u.withCtl { u.ctl with siteTargets := t, siteTrimPan := trimPan, siteTrimTilt := trimTilt }
      let far := 2 ≤ (old.pan - t.pan).natAbs ∨ 2 ≤ (old.tilt - t.tilt).natAbs
      let turns := fun w : State => recomputeLive s false = (w, true)
      let d := s.ctl.dishState
      let aloft := canIssue s = true ∧ 1500 ≤ extension s
      let marked := v.withCtl { v.ctl with touchUpMark := true }
      let slewing := fun w : State =>
        (w.withCtl { w.ctl with dishState := .slewing, dishShort := none }).withLevel { w.level with watch := none }
      let onPan := if t.pan = old.pan then v else giveDishAxis v .pan t.pan
      let onTilt := if t.tilt = old.tilt then onPan else giveDishAxis onPan .tilt t.tilt
      (¬ far → recomputeLive s false = (u, false)) ∧
      (far → d = .nestWait ∨ d = .parked ∨ d = .stowed ∨ d = .stowing ∨ d = .failed → turns v) ∧
      (far → d = .slewing → aloft → turns (if t.pol = old.pol then onTilt else giveDishAxis onTilt .pol t.pol)) ∧
      (far → d = .slewing → canIssue s = false ∨ (extension s < 1500 ∧ s.ctl.dishShort = some .nest) → turns v) ∧
      (far → d = .slewing → canIssue s = true → extension s < 1500 → s.ctl.dishShort ≠ some .nest →
        turns ((v.withCtl { v.ctl with dishState := .nestWait, dishShort := none }).withLevel
          { v.level with watch := none })) ∧
      (far → d = .onSolution ∨ d = .locked → aloft → turns (giveDish (slewing marked) t)) ∧
      (far → d = .onSolution ∨ d = .locked → canIssue s = false → turns marked) ∧
      (far → d = .peaking → s.level.search = none → aloft → turns (giveDish (slewing marked) t)) ∧
      (∀ c, far → d = .peaking → s.level.search = some c → Sound s →
        ∃ w, searchEnded v w c .abandoned .ok ∧ w.ctl = marked.ctl ∧ w.geo = v.geo ∧ w.axes = s.axes ∧
          turns (slewTo w t) ∧ (aloft → turns (giveDish (slewing w) t))))

/-- R57, R69, R72: the centre moves to the better probe point when its level reaches the centre level plus the
threshold, to the +s one on a tie, a skipped one never being better; a lock writes the whole trim block with the fix of
the moment, makes the dish LOCKED with the site targets of the centre in force, derived with its trims, clears SIGNAL_LOST
and peak pending, starts the watch where it is wanted, and answers the commands whose search it was OK with the search
fields: PROBE_LIMIT, LOCKED_EDGE or LOCKED, the probes used, the trims of the centre and its level, and the warning EDGE
where a probe point was skipped. R73, R76, R77: the other ends. A full search without signal discards the trims and
sends the dish to the untrimmed solution; a touch-up without signal keeps them, raises SIGNAL_LOST and sends the dish to
its starting centre; a change of the effective target abandons the search, with the touch-up mark set, and a lost level
ends it FAULTED, each with the dish sent back to the site targets in force: at a change of the effective target once the
mast has its own, and before the recompute of the live site (R9, R123; log 25, DEDUCED). Where the entry of the live site is EMPTY those site targets also stand
in for the targets of a NO_SIGNAL end and of the probe points, the model's own stand-in (log 33, DEDUCED). R64, R70,
R71: a settle time starts once the dish is at rest on the targets asked for and the mast at rest, and waits again while
the mast moves; the end of a return move leads to the tilt axis, to a new round, or with no move of the centre to a
round of half the step; the search ends at the probe limit, or when the half falls below the minimum step, with a lock
where the centre level reaches the lock floor, else without signal. -/
def Obligations.SearchRules : Prop :=
  (∀ (c : Search) (ax : ProbeAxis) (lc p m : Int), c.lc = some lc → c.plusLevel = some p → c.minusLevel = some m →
    (p < lc + c.params.threshold → m < lc + c.params.threshold → moveCentre c ax = c) ∧
    (m ≤ p → lc + c.params.threshold ≤ p → moveCentre c ax =
      { c with centrePan := probePan c ax true, centreTilt := probeTilt c ax true, lc := some p, moved := true }) ∧
    (p < m → lc + c.params.threshold ≤ m → moveCentre c ax =
      { c with centrePan := probePan c ax false, centreTilt := probeTilt c ax false, lc := some m, moved := true })) ∧
  (∀ (c : Search) (ax : ProbeAxis) (lc l : Int) (plus : Bool), c.lc = some lc →
    c.plusLevel = (if plus then some l else none) → c.minusLevel = (if plus then none else some l) →
    (l < lc + c.params.threshold → moveCentre c ax = c) ∧
    (lc + c.params.threshold ≤ l → moveCentre c ax = { c with
      centrePan := (probeTrims c ax plus).1, centreTilt := (probeTrims c ax plus).2, lc := some l, moved := true })) ∧
  (∀ (c : Search) (ax : ProbeAxis), c.plusLevel = none → c.minusLevel = none → moveCentre c ax = c) ∧
  (∀ (s : State) (c : Search), s.level.search = some c →
    let put := fun w : SearchWait => s.withLevel { s.level with search := some { c with wait := w } }
    let moves := s.axes.mast.inMove = true
    let there := dishAtRest s = true ∧ dishNear s c.asked = true
    (c.wait = .moving → ¬ there → searchPass s = s) ∧
    (c.wait = .moving → there → (∀ ax, c.stage ≠ .back ax) → moves → searchPass s = s) ∧
    (c.wait = .moving → there → (∀ ax, c.stage ≠ .back ax) → ¬ moves → searchPass s = put .settling) ∧
    (c.wait ≠ .moving → moves → searchPass s = put .moving) ∧ (c.wait ≠ .moving → ¬ moves → searchPass s = s) ∧
    ∀ (ax : ProbeAxis) (n : Nat), c.wait = .moving → there → c.stage = .back ax →
      let half := c.step / 2
      let leads := fun u : State => searchGo (n + 1) s = searchGo n u
      (c.limit = true → leads (searchFinish s c)) ∧
      (c.limit = false → ax = .pan → leads (searchMoves s (toPlus s c .tilt))) ∧
      (c.limit = false → ax = .tilt → c.moved = true → leads (searchMoves s (toPlus s { c with moved := false } .pan))) ∧
      (c.limit = false → ax = .tilt → c.moved = false → c.params.minimum ≤ half →
        leads (searchMoves s (toPlus s { c with step := half, moved := false } .pan))) ∧
      (c.limit = false → ax = .tilt → c.moved = false → half < c.params.minimum →
        leads (searchFinish s { c with step := half }))) ∧
  (∀ (s : State) (c : Search) (lc : Int), c.lc = some lc →
    let u := s.withLevel { s.level with search := some c }
    (c.lockFloor ≤ lc → searchFinish s c = searchLock u c lc) ∧
    (lc < c.lockFloor → c.kind = .full → searchFinish s c = searchNoSignal u c) ∧
    (lc < c.lockFloor → c.kind = .touchUp → searchFinish s c = touchUpNoSignal u c)) ∧
  (∀ (s : State) (c : Search) (lc : Int) (f : Fix), tableSound s → Memory.wf s.mem = true →
    s.level.search = some c → c.lc = some lc → s.geo.fix = some f →
    let u := searchLock s c lc
    (u.entry c.site).trim = ⟨true, c.centrePan, c.centreTilt, lc, f.datum, f.east, f.north, f.heading⟩ ∧
    (∀ k, k ≠ c.site → u.entry k = s.entry k) ∧ u.ctl.dishState = .locked ∧ u.ctl.signalLost = false ∧
    u.stance = { s.stance with peakPending := false } ∧ u.level.search = none ∧
    (s.stance.watch = true → u.level.watch = some 0) ∧ u.axes = s.axes ∧
    let o : SearchOutcome := if c.limit then .probeLimit else if c.edge then .lockedEdge else .locked
    let t := if (liveEntry s).state = .empty then s.ctl.siteTargets
      else deriveTargets (liveEntry s).sol c.centrePan c.centreTilt s.axes.pan.position
    u.ctl = { s.ctl with
      dishState := .locked, signalLost := false, siteTargets := t, siteTrimPan := c.centrePan,
      siteTrimTilt := c.centreTilt } ∧
    (c.kind = .full → ∀ d ∈ s.board.openSet, ownsSearch d = true → Answered u d.slot 0 ∧
      (slotsSeparate s → read8 u.mem (slotAddr d.slot + 5) = ({ d.warnings with edge := c.edge } : Warnings).toByte ∧
        (d.kind = .peak → readBytes u.mem (slotAddr d.slot + 40) 8 = leBytes 1 o.toNat ++ leBytes 1 c.probes ++
          le16 c.centrePan ++ le16 c.centreTilt ++ le16 lc) ∧
        (d.kind = .aim → readU8 u.mem (slotAddr d.slot + 41) = o.toNat ∧
          readBytes u.mem (slotAddr d.slot + 46) 2 = leBytes 2 c.probes ∧
          readBytes u.mem (slotAddr d.slot + 58) 6 = le16 c.centrePan ++ le16 c.centreTilt ++ le16 lc)))) ∧
  (∀ (s : State) (c : Search), tableSound s → Sound s → s.level.search = some c →
    (∃ u, searchSensor s = slewTo u s.ctl.siteTargets ∧ searchEnded s u c .sensor .faulted ∧ u.ctl = s.ctl ∧
      u.geo = s.geo ∧ u.axes = s.axes) ∧
    (effectiveTarget s ≠ s.ctl.effTarget → ∃ u, searchEnded s u c .abandoned .ok ∧
      u.ctl = { s.ctl with touchUpMark := true, effTarget := effectiveTarget s } ∧ u.geo = s.geo ∧ u.axes = s.axes ∧
      ∀ acts, recompute s acts = recomputeSite (slewTo (driveMast u true) s.ctl.siteTargets)) ∧
    (effectiveTarget s = s.ctl.effTarget → ∀ acts, recompute s acts = driveMast s acts) ∧
    (c.kind = .full → ∃ u t, searchNoSignal s c = slewTo u t ∧ searchEnded s u c .noSignal .ok ∧
      t = (if (liveEntry s).state = .empty then s.ctl.siteTargets
        else deriveTargets (liveEntry s).sol 0 0 s.axes.pan.position) ∧
      u.ctl = { s.ctl with siteTargets := t, siteTrimPan := 0, siteTrimTilt := 0 } ∧ u.axes = s.axes ∧
      u.entry c.site = { s.entry c.site with trim := { (s.entry c.site).trim with valid := false } } ∧
      ∀ k, k ≠ c.site → u.entry k = s.entry k) ∧
    (c.kind = .touchUp → ∃ u t, touchUpNoSignal s c = slewTo u t ∧ searchEnded s u c .noSignal .ok ∧
      t = (if (liveEntry s).state = .empty then s.ctl.siteTargets
        else deriveTargets (liveEntry s).sol c.startPan c.startTilt s.axes.pan.position) ∧
      u.ctl = { s.ctl with
        signalLost := true, siteTargets := t, siteTrimPan := c.startPan, siteTrimTilt := c.startTilt } ∧
      u.board.notice.getLsbD 9 = true ∧ u.geo = s.geo ∧ u.axes = s.axes))

/-! ## What ends with an event (R7, R15 to R17, R25, R45, R87, R90 to R93, R148) -/

/-- What an event may bring about once its own rule has acted, and that its end does: before READY and in standby only the
header write, from READY on three passes over the parts below, in the model's order (log 67). A mast whose move has ended
is NESTED or HELD, takes the goal that waited for its rest (within 0 to 15,000; below the nest height it takes an aimed
dish goal to NONE after HALT and the entry into HALTED: the model's choices, logs 61 and 49), and is driven again by a
recompute; so does a change of the stow status. A dish at rest that was stopped short is STOWED or PARKED, or after the
downward nest crossing NEST_WAIT or on its way again; one SLEWING on its targets has arrived. That one STOWING, one SLEWING
off its targets and one PEAKING with no search are STOWED or PARKED is the model's inference (log 21, DEDUCED). RAISE and
LOWER complete at rest within 20 mm of an effective target not held at the nest, a rest that HOLD_LINE made too (the
model's choice, log 69), with CEILING_LIMITED where the ceiling is below the goal, STOW at NESTED and STOWED, in
FORCED_STOW a LOWER at its height. A dish arrived at its site is ON_SOLUTION, completes the AIM without peak-after, and
starts the pending search, or the touch-up due; one at its POINT is PARKED and completes it. Forced
stow ends in NORMAL at NESTED and STOWED with STOW_LINE inactive, and in HALTED where a FAILED dish lets it go no further,
also where HOLD_LINE stopped its stow (log 64, the model's choice). HALTED leaves a dish goal of NONE, nothing upward due,
and the mast goal at the extension, with no waiting axis granted in between (log 10, the model's choice). A quiesce cut
short answers its SWAP and keeps the stance; in NORMAL the mast's target and then the dish's are issued again, a dish on
its solution left as it is (log 22, the model's inference). One complete saves the stance, ends the stance commands
SWAPPED_OUT, and makes the snapshot live, its goal NONE where its site cannot be served. -/
def Obligations.EventEnds : Prop :=
  (∀ before s : State, endEvent before s = updateHeader before (settle s) ∧ (running s = false → settle s = s) ∧
    (running s = true → settle s = settleOnce (settleOnce (settleOnce s))) ∧
    settleOnce s = quiesceEnd (resumeStance (forcedStowEnd (completeOpen (judgeTriggers
      (searchPass (dishRest (stowStatusPass (mastRest s))))))))) ∧
  (∀ s : State,
    let m := s.axes.mast
    let moved := s.ctl.mastState = .rising ∨ s.ctl.mastState = .descending
    let v := if moved then s.withCtl { s.ctl with mastState := if extension s ≤ 20 then .nested else .held } else s
    let status := s.withCtl { s.ctl with stowStatus := inWindow s }
    (m.inMove = true → mastRest s = s) ∧
    (m.phase = .atRest → moved ∨ s.ctl.goalAtRest ≠ none → mastRest s = recomputeIssuing (fixGoal v)) ∧
    (m.phase = .atRest → ¬ moved → s.ctl.goalAtRest = none → mastRest s = s) ∧
    (m.phase = .faulted → s.ctl.goalAtRest ≠ none → mastRest s = recomputeEff (fixGoal s)) ∧
    (m.phase = .faulted → s.ctl.goalAtRest = none → mastRest s = s) ∧
    (s.ctl.goalAtRest = none → fixGoal s = s) ∧
    (∀ why, s.ctl.goalAtRest = some why →
      let h := max 0 (min 15000 (if why = .halted ∧ m.encValid = false then m.lastValid else extension s))
      let low := h < 1500 ∧ s.stance.dishGoal.aimed = true
      let u := fixGoal s
      (¬ low → u = (s.withStance { s.stance with mastGoal := h }).withCtl { s.ctl with goalAtRest := none }) ∧
      (low → u.stance.mastGoal = h ∧ u.stance.peakPending = false ∧ u.level.search = none ∧
        (why ≠ .overhead → u.stance.dishGoal = .none) ∧
        (why = .overhead → s.axes.tripped = Switches.clear → u.stance.dishGoal = .stow))) ∧
    (inWindow s = s.ctl.stowStatus → stowStatusPass s = s) ∧
    (inWindow s ≠ s.ctl.stowStatus → stowStatusPass s = recomputeEff status)) ∧
  (∀ s : State,
    let turned := fun d : DishState =>
      (s.withCtl { s.ctl with dishState := d, dishShort := none }).withLevel { s.level with watch := none }
    let standing := turned (if inWindow s = true then .stowed else .parked)
    let d := s.ctl.dishState
    let there := ∀ a, a ≠ .mast → near a (s.axis a).target (s.axis a).position = true
    (dishAtRest s = false ∨ d = .failed → dishRest s = s) ∧
    (dishAtRest s = true → d ≠ .failed →
      (s.ctl.dishShort = some .stop → dishRest s = standing) ∧
      (s.ctl.dishShort = some .nest → extension s < 1500 → dishRest s = turned .nestWait) ∧
      (s.ctl.dishShort = some .nest → 1500 ≤ extension s →
        dishRest s = pursueDish (s.withCtl { s.ctl with dishShort := none })) ∧
      (s.ctl.dishShort = none →
        (d = .stowing → dishRest s = standing) ∧ (d = .slewing → there → dishRest s = arriveDish s) ∧
        (d = .slewing → ¬ there → dishRest s = standing) ∧
        (d = .peaking → s.level.search = none → dishRest s = standing) ∧
        (d = .peaking → s.level.search ≠ none → dishRest s = s) ∧
        (d ≠ .stowing → d ≠ .slewing → d ≠ .peaking → dishRest s = s) ∧
        (s.stance.dishGoal.aimed = false → arriveDish s = standing)))) ∧
  (∀ s : State,
    let v := s.withCtl { s.ctl with resumeDue := false }
    let w := recomputeIssuing v
    let again := canIssue w = true ∧ w.ctl.dishState ≠ .failed
    (s.ctl.resumeDue = false → resumeStance s = s) ∧
    (s.ctl.resumeDue = true → s.ctl.mode ≠ .normal → resumeStance s = v) ∧
    (s.ctl.resumeDue = true → s.ctl.mode = .normal →
      (again → resumeStance s = reissueDish w) ∧ (¬ again → resumeStance s = w))) ∧
  (∀ s : State, Sound s → s.swap.phase = .idle →
    let rest := (s.ctl.mastState = .nested ∨ s.ctl.mastState = .held) ∧ s.axes.mast.inMove = false
    let height := rest ∧ (s.ctl.effTarget - extension s).natAbs ≤ 20 ∧ heldAtNest s = false
    let short := s.ctl.effTarget < s.stance.mastGoal ∧ effCeiling s < s.stance.mastGoal
    let ends := fun c : OpenCommand => decide (
      (s.ctl.mode = .normal ∧ (ofKinds [.raise, .lower] c = true ∧ height ∨
        c.kind = .stow ∧ s.ctl.mastState = .nested ∧ s.ctl.dishState = .stowed)) ∨
      (s.ctl.mode = .forcedStow ∧ c.kind = .lower ∧
        (rest ∧ extension s ≤ c.height ∨ s.ctl.mastState = .nested)))
    let u := completeOpen s
    Ended s u ends .ok ∧ u.board.openSet = s.board.openSet.filter (fun c => !ends c) ∧ u.stance = s.stance ∧
    u.ctl = s.ctl ∧ u.geo = s.geo ∧ u.level = s.level ∧ sameDrives s u ∧
    ∀ c ∈ s.board.openSet, ofKinds [.raise, .lower] c = true → s.ctl.mode = .normal → height →
      read8 u.mem (slotAddr c.slot + 5) = ({ c.warnings with
        ceilingLimited := c.warnings.ceilingLimited || decide short } : Warnings).toByte) ∧
  (∀ s : State, s.swap.phase = .quiesce → completeOpen s = s) ∧
  (∀ s : State, Sound s → s.stance.dishGoal = .site →
    let ends := fun c : OpenCommand => c.kind == .aim && !c.peakAfter
    ∃ u, u.ctl = { s.ctl with dishState := .onSolution, touchUpMark := false } ∧ u.stance = s.stance ∧
      u.geo = s.geo ∧ sameDrives s u ∧ Ended s u ends .ok ∧
      u.board.openSet = s.board.openSet.filter (fun c => !ends c) ∧
      arriveDish s = (if s.stance.peakPending then startSearch u .full
        else if s.ctl.touchUpMark && (s.stance.watch && (liveEntry s).trim.valid) then startSearch u .touchUp else u)) ∧
  (∀ (s : State) (t : Targets), Sound s → s.stance.dishGoal = .point t →
    let u := arriveDish s
    u.ctl = { s.ctl with dishState := .parked, touchUpMark := false } ∧ u.stance = s.stance ∧ u.geo = s.geo ∧
      sameDrives s u ∧ Ended s u (ofKinds [.point]) .ok ∧
      u.board.openSet = s.board.openSet.filter (fun c => !ofKinds [.point] c)) ∧
  (∀ s : State, Sound s → s.ctl.mode = .forcedStow →
    let done := s.ctl.mastState = .nested ∧ s.ctl.dishState = .stowed ∧ s.ilk.lines.stow = false
    let stuck := s.ctl.dishState = .failed ∧ dishAtRest s = true ∧ s.axes.mast.inMove = false ∧
      (s.ctl.effTarget - extension s).natAbs ≤ 20
    (done → ∃ u, forcedStowEnd s = recomputeEff u ∧ u.ctl = { s.ctl with mode := .normal } ∧ u.stance = s.stance ∧
      u.geo = s.geo ∧ sameDrives s u ∧ Ended s u (ofKinds [.stow]) .ok ∧
      u.board.openSet = s.board.openSet.filter (fun c => !ofKinds [.stow] c)) ∧
    (¬ done → stuck → forcedStowEnd s = enterHalted s) ∧ (¬ done → ¬ stuck → forcedStowEnd s = s)) ∧
  (∀ s : State, Sound s → requestsSound s →
    let u := enterHalted s
    u.ctl.mode = .halted ∧ u.ctl.returnMode = (if s.ctl.mode = .recovery then .recovery else .normal) ∧
    u.stance.dishGoal = .none ∧ u.stance.peakPending = false ∧ u.stance.site = s.stance.site ∧ u.swap.phase = .idle ∧
    u.level.search = none ∧ (s.axes.mast.phase ≠ .waiting → u.axes.mast = s.axes.mast) ∧
    (∀ a, a ≠ .mast → controlledStopMade s u a) ∧
    (s.axes.mast.everValid = true → s.axes.mast.inMove = false →
      u.stance.mastGoal = max 0 (min 15000 (if s.axes.mast.encValid then extension s else s.axes.mast.lastValid))) ∧
    u.ctl.upwardDue = false ∧
    (s.axes.mast.everValid = true → s.axes.mast.inMove = true →
      u.ctl.goalAtRest = some .halted ∧ u.stance.mastGoal = s.stance.mastGoal) ∧
    (s.axes.mast.everValid = false → u.ctl.goalOnReturn = true ∧ u.stance.mastGoal = s.stance.mastGoal) ∧
    (∀ c ∈ s.board.openSet, ofKinds stanceKinds c = true → Answered u c.slot 18) ∧
    ∀ c ∈ u.board.openSet, ofKinds stanceKinds c = false) ∧
  (∀ (s : State) (code : Code), (s.swap.phase = .idle → swapEarlyEnd s code = s) ∧
    (s.swap.phase = .quiesce → Memory.wf s.mem = true →
      let u := swapEarlyEnd s code
      Answered u s.swap.slot code.toNat ∧ u.swap = { s.swap with phase := .idle } ∧ u.stance = s.stance ∧
      u.ctl = { s.ctl with resumeDue := true } ∧ u.axes = s.axes ∧
      u.level = (if s.ctl.dishState = .locked ∧ s.stance.watch = true then { s.level with watch := some 0 }
        else s.level) ∧
      u.board.openSet = s.board.openSet.filter (fun c => c.slot != s.swap.slot) ∧
      ∀ a, ¬ resultByte s.swap.slot a → read8 u.mem a = read8 s.mem a)) ∧
  (∀ s : State, Sound s → s.swap.phase = .quiesce → s.swap.number < 4 →
    (∀ c ∈ s.board.openSet, c.slot = s.swap.slot → c.kind = .swap) →
    let p := s.swap.snapshot
    let refused := p.dishGoal = 2 ∧ (aimCheck s p.site).isSome = true
    let stance := p.stance
    (allQuiet s = false → quiesceEnd s = s) ∧
    (allQuiet s = true → ∃ u, quiesceEnd s = driveStance u ∧ u.swap = { s.swap with phase := .idle } ∧
      u.stance = (if refused then { stance with dishGoal := .none, peakPending := false } else stance) ∧
      readBytes u.mem (packageAddr s.swap.number) 128 = packageBytes s.stance (outgoingTrim s) s.geo.fixGen ∧
      Answered u s.swap.slot 0 ∧ readU8 u.mem (slotAddr s.swap.slot + 40) = siteByte s.stance.site ∧
      (∀ c ∈ s.board.openSet, ofKinds stanceKinds c = true → Answered u c.slot 17) ∧
      (∀ c ∈ u.board.openSet, ofKinds stanceKinds c = false) ∧ u.ctl.goalAtRest = none ∧ u.level.watch = none ∧
      u.ctl.touchUpMark = false ∧ u.ctl.signalLost = false ∧ u.ctl.mode = s.ctl.mode ∧ u.axes = s.axes ∧
      u.geo.fix = s.geo.fix))

/-! ## Invariants -/

/-- Common memory keeps its canonical form in every step. -/
def Obligations.StepKeepsMemory : Prop := ∀ s t : State, Memory.wf s.mem = true → step s = .next t →
  Memory.wf t.mem = true

/-- Every step keeps the module's records sound: the intake list and the open set disjoint and without repeats (R156),
the fault set without repeats and at most 16 long (R139, R140), the fix generation 0 exactly while no fix is present
(R30), the header sequence even and the telemetry generation odd exactly while a page is written (R162, R163), CONTROL
and NOTICE without bits of no meaning (R161), the table of 32 entries (R49). -/
def Obligations.StepKeepsRecords : Prop := ∀ s t : State, RecordsSound s → step s = .next t → RecordsSound t

/-- Every step keeps the stance valid (R2) with its mast goal within 0 to 15,000 mm (R1; for an extension adopted the
model's choice, log 61), the dish goal NONE in HALTED, with no upward target due there, and before READY, no aimed dish
goal in standby, an exchange in its quiesce only in NORMAL over a valid package, and one request at most of each WAITING
axis. From such a state a step takes the current in use above the budget only as far as it already was (R118); it gives
the mast a target above 0 mm (log 82, the model's choice) and more than 20 mm above the extension only under the
conditions of R10 and within the effective ceiling (O56 has R10 hold back one nearer above it too), and one below 1,500 mm and the extension only with the dish in the stow window (R12); a mast that descends to
such a target is given another when the dish leaves the window; and no dish axis is left going anywhere but to its stow
target below 1,500 mm unless it already was (R11). -/
def Obligations.StepKeepsInterlocks : Prop := ∀ s t : State, InterlocksSound s → step s = .next t →
  InterlocksSound t ∧ currentInUse t ≤ max (currentInUse s) t.limits.budget ∧
  (climbs t → (mastUnderTarget s ∧ t.axes.mast.target = s.axes.mast.target) ∨
    (upwardAllowed t = true ∧ t.axes.mast.target ≤ effCeiling t)) ∧
  (dives t → (mastUnderTarget s ∧ t.axes.mast.target = s.axes.mast.target) ∨ inWindow t = true) ∧
  (canIssue s = true → s.ctl.goalAtRest = none → s.ctl.stowStatus = true → inWindow s = true → inWindow t = false →
    s.ctl.effTarget = effectiveTarget s → s.axes.mast.target = s.ctl.effTarget → ¬ dives t) ∧
  (running s = true → ∀ a, a ≠ .mast → straysLow t a → straysLow s a ∧ (t.axis a).target = (s.axis a).target)

/-- The state after reset meets the invariants. -/
def Obligations.ResetSound : Prop :=
  Memory.wf State.reset.mem = true ∧ RecordsSound State.reset ∧ InterlocksSound State.reset
end

