-- ==== Sys2Proof/Laws/State.lean ====
section
/-! SUPPORT. The small lemmas of the updates of State: one for each group under each update, true by unfolding, so that
no proof about a meaning unfolds a record update. -/
namespace Sys2Proof.Machine

/-! ## withPending -/

@[simp] theorem withPending_pending (s : State) (x : List Instr) : (s.withPending x).pending = x := rfl
@[simp] theorem withPending_mem (s : State) (x : List Instr) : (s.withPending x).mem = s.mem := rfl
@[simp] theorem withPending_board (s : State) (x : List Instr) : (s.withPending x).board = s.board := rfl
@[simp] theorem withPending_telem (s : State) (x : List Instr) : (s.withPending x).telem = s.telem := rfl
@[simp] theorem withPending_limits (s : State) (x : List Instr) : (s.withPending x).limits = s.limits := rfl
@[simp] theorem withPending_stance (s : State) (x : List Instr) : (s.withPending x).stance = s.stance := rfl
@[simp] theorem withPending_ctl (s : State) (x : List Instr) : (s.withPending x).ctl = s.ctl := rfl
@[simp] theorem withPending_geo (s : State) (x : List Instr) : (s.withPending x).geo = s.geo := rfl
@[simp] theorem withPending_level (s : State) (x : List Instr) : (s.withPending x).level = s.level := rfl
@[simp] theorem withPending_swap (s : State) (x : List Instr) : (s.withPending x).swap = s.swap := rfl
@[simp] theorem withPending_axes (s : State) (x : List Instr) : (s.withPending x).axes = s.axes := rfl
@[simp] theorem withPending_arb (s : State) (x : List Instr) : (s.withPending x).arb = s.arb := rfl
@[simp] theorem withPending_wind (s : State) (x : List Instr) : (s.withPending x).wind = s.wind := rfl
@[simp] theorem withPending_ilk (s : State) (x : List Instr) : (s.withPending x).ilk = s.ilk := rfl
@[simp] theorem withPending_power (s : State) (x : List Instr) : (s.withPending x).power = s.power := rfl

/-! ## withMem -/

@[simp] theorem withMem_pending (s : State) (x : Memory) : (s.withMem x).pending = s.pending := rfl
@[simp] theorem withMem_mem (s : State) (x : Memory) : (s.withMem x).mem = x := rfl
@[simp] theorem withMem_board (s : State) (x : Memory) : (s.withMem x).board = s.board := rfl
@[simp] theorem withMem_telem (s : State) (x : Memory) : (s.withMem x).telem = s.telem := rfl
@[simp] theorem withMem_limits (s : State) (x : Memory) : (s.withMem x).limits = s.limits := rfl
@[simp] theorem withMem_stance (s : State) (x : Memory) : (s.withMem x).stance = s.stance := rfl
@[simp] theorem withMem_ctl (s : State) (x : Memory) : (s.withMem x).ctl = s.ctl := rfl
@[simp] theorem withMem_geo (s : State) (x : Memory) : (s.withMem x).geo = s.geo := rfl
@[simp] theorem withMem_level (s : State) (x : Memory) : (s.withMem x).level = s.level := rfl
@[simp] theorem withMem_swap (s : State) (x : Memory) : (s.withMem x).swap = s.swap := rfl
@[simp] theorem withMem_axes (s : State) (x : Memory) : (s.withMem x).axes = s.axes := rfl
@[simp] theorem withMem_arb (s : State) (x : Memory) : (s.withMem x).arb = s.arb := rfl
@[simp] theorem withMem_wind (s : State) (x : Memory) : (s.withMem x).wind = s.wind := rfl
@[simp] theorem withMem_ilk (s : State) (x : Memory) : (s.withMem x).ilk = s.ilk := rfl
@[simp] theorem withMem_power (s : State) (x : Memory) : (s.withMem x).power = s.power := rfl

/-! ## withBoard -/

@[simp] theorem withBoard_pending (s : State) (x : Board) : (s.withBoard x).pending = s.pending := rfl
@[simp] theorem withBoard_mem (s : State) (x : Board) : (s.withBoard x).mem = s.mem := rfl
@[simp] theorem withBoard_board (s : State) (x : Board) : (s.withBoard x).board = x := rfl
@[simp] theorem withBoard_telem (s : State) (x : Board) : (s.withBoard x).telem = s.telem := rfl
@[simp] theorem withBoard_limits (s : State) (x : Board) : (s.withBoard x).limits = s.limits := rfl
@[simp] theorem withBoard_stance (s : State) (x : Board) : (s.withBoard x).stance = s.stance := rfl
@[simp] theorem withBoard_ctl (s : State) (x : Board) : (s.withBoard x).ctl = s.ctl := rfl
@[simp] theorem withBoard_geo (s : State) (x : Board) : (s.withBoard x).geo = s.geo := rfl
@[simp] theorem withBoard_level (s : State) (x : Board) : (s.withBoard x).level = s.level := rfl
@[simp] theorem withBoard_swap (s : State) (x : Board) : (s.withBoard x).swap = s.swap := rfl
@[simp] theorem withBoard_axes (s : State) (x : Board) : (s.withBoard x).axes = s.axes := rfl
@[simp] theorem withBoard_arb (s : State) (x : Board) : (s.withBoard x).arb = s.arb := rfl
@[simp] theorem withBoard_wind (s : State) (x : Board) : (s.withBoard x).wind = s.wind := rfl
@[simp] theorem withBoard_ilk (s : State) (x : Board) : (s.withBoard x).ilk = s.ilk := rfl
@[simp] theorem withBoard_power (s : State) (x : Board) : (s.withBoard x).power = s.power := rfl

/-! ## withTelem -/

@[simp] theorem withTelem_pending (s : State) (x : Telemetry) : (s.withTelem x).pending = s.pending := rfl
@[simp] theorem withTelem_mem (s : State) (x : Telemetry) : (s.withTelem x).mem = s.mem := rfl
@[simp] theorem withTelem_board (s : State) (x : Telemetry) : (s.withTelem x).board = s.board := rfl
@[simp] theorem withTelem_telem (s : State) (x : Telemetry) : (s.withTelem x).telem = x := rfl
@[simp] theorem withTelem_limits (s : State) (x : Telemetry) : (s.withTelem x).limits = s.limits := rfl
@[simp] theorem withTelem_stance (s : State) (x : Telemetry) : (s.withTelem x).stance = s.stance := rfl
@[simp] theorem withTelem_ctl (s : State) (x : Telemetry) : (s.withTelem x).ctl = s.ctl := rfl
@[simp] theorem withTelem_geo (s : State) (x : Telemetry) : (s.withTelem x).geo = s.geo := rfl
@[simp] theorem withTelem_level (s : State) (x : Telemetry) : (s.withTelem x).level = s.level := rfl
@[simp] theorem withTelem_swap (s : State) (x : Telemetry) : (s.withTelem x).swap = s.swap := rfl
@[simp] theorem withTelem_axes (s : State) (x : Telemetry) : (s.withTelem x).axes = s.axes := rfl
@[simp] theorem withTelem_arb (s : State) (x : Telemetry) : (s.withTelem x).arb = s.arb := rfl
@[simp] theorem withTelem_wind (s : State) (x : Telemetry) : (s.withTelem x).wind = s.wind := rfl
@[simp] theorem withTelem_ilk (s : State) (x : Telemetry) : (s.withTelem x).ilk = s.ilk := rfl
@[simp] theorem withTelem_power (s : State) (x : Telemetry) : (s.withTelem x).power = s.power := rfl

/-! ## withLimits -/

@[simp] theorem withLimits_pending (s : State) (x : Limits) : (s.withLimits x).pending = s.pending := rfl
@[simp] theorem withLimits_mem (s : State) (x : Limits) : (s.withLimits x).mem = s.mem := rfl
@[simp] theorem withLimits_board (s : State) (x : Limits) : (s.withLimits x).board = s.board := rfl
@[simp] theorem withLimits_telem (s : State) (x : Limits) : (s.withLimits x).telem = s.telem := rfl
@[simp] theorem withLimits_limits (s : State) (x : Limits) : (s.withLimits x).limits = x := rfl
@[simp] theorem withLimits_stance (s : State) (x : Limits) : (s.withLimits x).stance = s.stance := rfl
@[simp] theorem withLimits_ctl (s : State) (x : Limits) : (s.withLimits x).ctl = s.ctl := rfl
@[simp] theorem withLimits_geo (s : State) (x : Limits) : (s.withLimits x).geo = s.geo := rfl
@[simp] theorem withLimits_level (s : State) (x : Limits) : (s.withLimits x).level = s.level := rfl
@[simp] theorem withLimits_swap (s : State) (x : Limits) : (s.withLimits x).swap = s.swap := rfl
@[simp] theorem withLimits_axes (s : State) (x : Limits) : (s.withLimits x).axes = s.axes := rfl
@[simp] theorem withLimits_arb (s : State) (x : Limits) : (s.withLimits x).arb = s.arb := rfl
@[simp] theorem withLimits_wind (s : State) (x : Limits) : (s.withLimits x).wind = s.wind := rfl
@[simp] theorem withLimits_ilk (s : State) (x : Limits) : (s.withLimits x).ilk = s.ilk := rfl
@[simp] theorem withLimits_power (s : State) (x : Limits) : (s.withLimits x).power = s.power := rfl

/-! ## withStance -/

@[simp] theorem withStance_pending (s : State) (x : Stance) : (s.withStance x).pending = s.pending := rfl
@[simp] theorem withStance_mem (s : State) (x : Stance) : (s.withStance x).mem = s.mem := rfl
@[simp] theorem withStance_board (s : State) (x : Stance) : (s.withStance x).board = s.board := rfl
@[simp] theorem withStance_telem (s : State) (x : Stance) : (s.withStance x).telem = s.telem := rfl
@[simp] theorem withStance_limits (s : State) (x : Stance) : (s.withStance x).limits = s.limits := rfl
@[simp] theorem withStance_stance (s : State) (x : Stance) : (s.withStance x).stance = x := rfl
@[simp] theorem withStance_ctl (s : State) (x : Stance) : (s.withStance x).ctl = s.ctl := rfl
@[simp] theorem withStance_geo (s : State) (x : Stance) : (s.withStance x).geo = s.geo := rfl
@[simp] theorem withStance_level (s : State) (x : Stance) : (s.withStance x).level = s.level := rfl
@[simp] theorem withStance_swap (s : State) (x : Stance) : (s.withStance x).swap = s.swap := rfl
@[simp] theorem withStance_axes (s : State) (x : Stance) : (s.withStance x).axes = s.axes := rfl
@[simp] theorem withStance_arb (s : State) (x : Stance) : (s.withStance x).arb = s.arb := rfl
@[simp] theorem withStance_wind (s : State) (x : Stance) : (s.withStance x).wind = s.wind := rfl
@[simp] theorem withStance_ilk (s : State) (x : Stance) : (s.withStance x).ilk = s.ilk := rfl
@[simp] theorem withStance_power (s : State) (x : Stance) : (s.withStance x).power = s.power := rfl

/-! ## withCtl -/

@[simp] theorem withCtl_pending (s : State) (x : Control) : (s.withCtl x).pending = s.pending := rfl
@[simp] theorem withCtl_mem (s : State) (x : Control) : (s.withCtl x).mem = s.mem := rfl
@[simp] theorem withCtl_board (s : State) (x : Control) : (s.withCtl x).board = s.board := rfl
@[simp] theorem withCtl_telem (s : State) (x : Control) : (s.withCtl x).telem = s.telem := rfl
@[simp] theorem withCtl_limits (s : State) (x : Control) : (s.withCtl x).limits = s.limits := rfl
@[simp] theorem withCtl_stance (s : State) (x : Control) : (s.withCtl x).stance = s.stance := rfl
@[simp] theorem withCtl_ctl (s : State) (x : Control) : (s.withCtl x).ctl = x := rfl
@[simp] theorem withCtl_geo (s : State) (x : Control) : (s.withCtl x).geo = s.geo := rfl
@[simp] theorem withCtl_level (s : State) (x : Control) : (s.withCtl x).level = s.level := rfl
@[simp] theorem withCtl_swap (s : State) (x : Control) : (s.withCtl x).swap = s.swap := rfl
@[simp] theorem withCtl_axes (s : State) (x : Control) : (s.withCtl x).axes = s.axes := rfl
@[simp] theorem withCtl_arb (s : State) (x : Control) : (s.withCtl x).arb = s.arb := rfl
@[simp] theorem withCtl_wind (s : State) (x : Control) : (s.withCtl x).wind = s.wind := rfl
@[simp] theorem withCtl_ilk (s : State) (x : Control) : (s.withCtl x).ilk = s.ilk := rfl
@[simp] theorem withCtl_power (s : State) (x : Control) : (s.withCtl x).power = s.power := rfl

/-! ## withGeo -/

@[simp] theorem withGeo_pending (s : State) (x : Geometry) : (s.withGeo x).pending = s.pending := rfl
@[simp] theorem withGeo_mem (s : State) (x : Geometry) : (s.withGeo x).mem = s.mem := rfl
@[simp] theorem withGeo_board (s : State) (x : Geometry) : (s.withGeo x).board = s.board := rfl
@[simp] theorem withGeo_telem (s : State) (x : Geometry) : (s.withGeo x).telem = s.telem := rfl
@[simp] theorem withGeo_limits (s : State) (x : Geometry) : (s.withGeo x).limits = s.limits := rfl
@[simp] theorem withGeo_stance (s : State) (x : Geometry) : (s.withGeo x).stance = s.stance := rfl
@[simp] theorem withGeo_ctl (s : State) (x : Geometry) : (s.withGeo x).ctl = s.ctl := rfl
@[simp] theorem withGeo_geo (s : State) (x : Geometry) : (s.withGeo x).geo = x := rfl
@[simp] theorem withGeo_level (s : State) (x : Geometry) : (s.withGeo x).level = s.level := rfl
@[simp] theorem withGeo_swap (s : State) (x : Geometry) : (s.withGeo x).swap = s.swap := rfl
@[simp] theorem withGeo_axes (s : State) (x : Geometry) : (s.withGeo x).axes = s.axes := rfl
@[simp] theorem withGeo_arb (s : State) (x : Geometry) : (s.withGeo x).arb = s.arb := rfl
@[simp] theorem withGeo_wind (s : State) (x : Geometry) : (s.withGeo x).wind = s.wind := rfl
@[simp] theorem withGeo_ilk (s : State) (x : Geometry) : (s.withGeo x).ilk = s.ilk := rfl
@[simp] theorem withGeo_power (s : State) (x : Geometry) : (s.withGeo x).power = s.power := rfl

/-! ## withLevel -/

@[simp] theorem withLevel_pending (s : State) (x : Level) : (s.withLevel x).pending = s.pending := rfl
@[simp] theorem withLevel_mem (s : State) (x : Level) : (s.withLevel x).mem = s.mem := rfl
@[simp] theorem withLevel_board (s : State) (x : Level) : (s.withLevel x).board = s.board := rfl
@[simp] theorem withLevel_telem (s : State) (x : Level) : (s.withLevel x).telem = s.telem := rfl
@[simp] theorem withLevel_limits (s : State) (x : Level) : (s.withLevel x).limits = s.limits := rfl
@[simp] theorem withLevel_stance (s : State) (x : Level) : (s.withLevel x).stance = s.stance := rfl
@[simp] theorem withLevel_ctl (s : State) (x : Level) : (s.withLevel x).ctl = s.ctl := rfl
@[simp] theorem withLevel_geo (s : State) (x : Level) : (s.withLevel x).geo = s.geo := rfl
@[simp] theorem withLevel_level (s : State) (x : Level) : (s.withLevel x).level = x := rfl
@[simp] theorem withLevel_swap (s : State) (x : Level) : (s.withLevel x).swap = s.swap := rfl
@[simp] theorem withLevel_axes (s : State) (x : Level) : (s.withLevel x).axes = s.axes := rfl
@[simp] theorem withLevel_arb (s : State) (x : Level) : (s.withLevel x).arb = s.arb := rfl
@[simp] theorem withLevel_wind (s : State) (x : Level) : (s.withLevel x).wind = s.wind := rfl
@[simp] theorem withLevel_ilk (s : State) (x : Level) : (s.withLevel x).ilk = s.ilk := rfl
@[simp] theorem withLevel_power (s : State) (x : Level) : (s.withLevel x).power = s.power := rfl

/-! ## withSwap -/

@[simp] theorem withSwap_pending (s : State) (x : Swap) : (s.withSwap x).pending = s.pending := rfl
@[simp] theorem withSwap_mem (s : State) (x : Swap) : (s.withSwap x).mem = s.mem := rfl
@[simp] theorem withSwap_board (s : State) (x : Swap) : (s.withSwap x).board = s.board := rfl
@[simp] theorem withSwap_telem (s : State) (x : Swap) : (s.withSwap x).telem = s.telem := rfl
@[simp] theorem withSwap_limits (s : State) (x : Swap) : (s.withSwap x).limits = s.limits := rfl
@[simp] theorem withSwap_stance (s : State) (x : Swap) : (s.withSwap x).stance = s.stance := rfl
@[simp] theorem withSwap_ctl (s : State) (x : Swap) : (s.withSwap x).ctl = s.ctl := rfl
@[simp] theorem withSwap_geo (s : State) (x : Swap) : (s.withSwap x).geo = s.geo := rfl
@[simp] theorem withSwap_level (s : State) (x : Swap) : (s.withSwap x).level = s.level := rfl
@[simp] theorem withSwap_swap (s : State) (x : Swap) : (s.withSwap x).swap = x := rfl
@[simp] theorem withSwap_axes (s : State) (x : Swap) : (s.withSwap x).axes = s.axes := rfl
@[simp] theorem withSwap_arb (s : State) (x : Swap) : (s.withSwap x).arb = s.arb := rfl
@[simp] theorem withSwap_wind (s : State) (x : Swap) : (s.withSwap x).wind = s.wind := rfl
@[simp] theorem withSwap_ilk (s : State) (x : Swap) : (s.withSwap x).ilk = s.ilk := rfl
@[simp] theorem withSwap_power (s : State) (x : Swap) : (s.withSwap x).power = s.power := rfl

/-! ## withAxes -/

@[simp] theorem withAxes_pending (s : State) (x : Axes) : (s.withAxes x).pending = s.pending := rfl
@[simp] theorem withAxes_mem (s : State) (x : Axes) : (s.withAxes x).mem = s.mem := rfl
@[simp] theorem withAxes_board (s : State) (x : Axes) : (s.withAxes x).board = s.board := rfl
@[simp] theorem withAxes_telem (s : State) (x : Axes) : (s.withAxes x).telem = s.telem := rfl
@[simp] theorem withAxes_limits (s : State) (x : Axes) : (s.withAxes x).limits = s.limits := rfl
@[simp] theorem withAxes_stance (s : State) (x : Axes) : (s.withAxes x).stance = s.stance := rfl
@[simp] theorem withAxes_ctl (s : State) (x : Axes) : (s.withAxes x).ctl = s.ctl := rfl
@[simp] theorem withAxes_geo (s : State) (x : Axes) : (s.withAxes x).geo = s.geo := rfl
@[simp] theorem withAxes_level (s : State) (x : Axes) : (s.withAxes x).level = s.level := rfl
@[simp] theorem withAxes_swap (s : State) (x : Axes) : (s.withAxes x).swap = s.swap := rfl
@[simp] theorem withAxes_axes (s : State) (x : Axes) : (s.withAxes x).axes = x := rfl
@[simp] theorem withAxes_arb (s : State) (x : Axes) : (s.withAxes x).arb = s.arb := rfl
@[simp] theorem withAxes_wind (s : State) (x : Axes) : (s.withAxes x).wind = s.wind := rfl
@[simp] theorem withAxes_ilk (s : State) (x : Axes) : (s.withAxes x).ilk = s.ilk := rfl
@[simp] theorem withAxes_power (s : State) (x : Axes) : (s.withAxes x).power = s.power := rfl

/-! ## withArb -/

@[simp] theorem withArb_pending (s : State) (x : Arbiter) : (s.withArb x).pending = s.pending := rfl
@[simp] theorem withArb_mem (s : State) (x : Arbiter) : (s.withArb x).mem = s.mem := rfl
@[simp] theorem withArb_board (s : State) (x : Arbiter) : (s.withArb x).board = s.board := rfl
@[simp] theorem withArb_telem (s : State) (x : Arbiter) : (s.withArb x).telem = s.telem := rfl
@[simp] theorem withArb_limits (s : State) (x : Arbiter) : (s.withArb x).limits = s.limits := rfl
@[simp] theorem withArb_stance (s : State) (x : Arbiter) : (s.withArb x).stance = s.stance := rfl
@[simp] theorem withArb_ctl (s : State) (x : Arbiter) : (s.withArb x).ctl = s.ctl := rfl
@[simp] theorem withArb_geo (s : State) (x : Arbiter) : (s.withArb x).geo = s.geo := rfl
@[simp] theorem withArb_level (s : State) (x : Arbiter) : (s.withArb x).level = s.level := rfl
@[simp] theorem withArb_swap (s : State) (x : Arbiter) : (s.withArb x).swap = s.swap := rfl
@[simp] theorem withArb_axes (s : State) (x : Arbiter) : (s.withArb x).axes = s.axes := rfl
@[simp] theorem withArb_arb (s : State) (x : Arbiter) : (s.withArb x).arb = x := rfl
@[simp] theorem withArb_wind (s : State) (x : Arbiter) : (s.withArb x).wind = s.wind := rfl
@[simp] theorem withArb_ilk (s : State) (x : Arbiter) : (s.withArb x).ilk = s.ilk := rfl
@[simp] theorem withArb_power (s : State) (x : Arbiter) : (s.withArb x).power = s.power := rfl

/-! ## withWind -/

@[simp] theorem withWind_pending (s : State) (x : Wind) : (s.withWind x).pending = s.pending := rfl
@[simp] theorem withWind_mem (s : State) (x : Wind) : (s.withWind x).mem = s.mem := rfl
@[simp] theorem withWind_board (s : State) (x : Wind) : (s.withWind x).board = s.board := rfl
@[simp] theorem withWind_telem (s : State) (x : Wind) : (s.withWind x).telem = s.telem := rfl
@[simp] theorem withWind_limits (s : State) (x : Wind) : (s.withWind x).limits = s.limits := rfl
@[simp] theorem withWind_stance (s : State) (x : Wind) : (s.withWind x).stance = s.stance := rfl
@[simp] theorem withWind_ctl (s : State) (x : Wind) : (s.withWind x).ctl = s.ctl := rfl
@[simp] theorem withWind_geo (s : State) (x : Wind) : (s.withWind x).geo = s.geo := rfl
@[simp] theorem withWind_level (s : State) (x : Wind) : (s.withWind x).level = s.level := rfl
@[simp] theorem withWind_swap (s : State) (x : Wind) : (s.withWind x).swap = s.swap := rfl
@[simp] theorem withWind_axes (s : State) (x : Wind) : (s.withWind x).axes = s.axes := rfl
@[simp] theorem withWind_arb (s : State) (x : Wind) : (s.withWind x).arb = s.arb := rfl
@[simp] theorem withWind_wind (s : State) (x : Wind) : (s.withWind x).wind = x := rfl
@[simp] theorem withWind_ilk (s : State) (x : Wind) : (s.withWind x).ilk = s.ilk := rfl
@[simp] theorem withWind_power (s : State) (x : Wind) : (s.withWind x).power = s.power := rfl

/-! ## withIlk -/

@[simp] theorem withIlk_pending (s : State) (x : Interlock) : (s.withIlk x).pending = s.pending := rfl
@[simp] theorem withIlk_mem (s : State) (x : Interlock) : (s.withIlk x).mem = s.mem := rfl
@[simp] theorem withIlk_board (s : State) (x : Interlock) : (s.withIlk x).board = s.board := rfl
@[simp] theorem withIlk_telem (s : State) (x : Interlock) : (s.withIlk x).telem = s.telem := rfl
@[simp] theorem withIlk_limits (s : State) (x : Interlock) : (s.withIlk x).limits = s.limits := rfl
@[simp] theorem withIlk_stance (s : State) (x : Interlock) : (s.withIlk x).stance = s.stance := rfl
@[simp] theorem withIlk_ctl (s : State) (x : Interlock) : (s.withIlk x).ctl = s.ctl := rfl
@[simp] theorem withIlk_geo (s : State) (x : Interlock) : (s.withIlk x).geo = s.geo := rfl
@[simp] theorem withIlk_level (s : State) (x : Interlock) : (s.withIlk x).level = s.level := rfl
@[simp] theorem withIlk_swap (s : State) (x : Interlock) : (s.withIlk x).swap = s.swap := rfl
@[simp] theorem withIlk_axes (s : State) (x : Interlock) : (s.withIlk x).axes = s.axes := rfl
@[simp] theorem withIlk_arb (s : State) (x : Interlock) : (s.withIlk x).arb = s.arb := rfl
@[simp] theorem withIlk_wind (s : State) (x : Interlock) : (s.withIlk x).wind = s.wind := rfl
@[simp] theorem withIlk_ilk (s : State) (x : Interlock) : (s.withIlk x).ilk = x := rfl
@[simp] theorem withIlk_power (s : State) (x : Interlock) : (s.withIlk x).power = s.power := rfl

/-! ## withPower -/

@[simp] theorem withPower_pending (s : State) (x : Power) : (s.withPower x).pending = s.pending := rfl
@[simp] theorem withPower_mem (s : State) (x : Power) : (s.withPower x).mem = s.mem := rfl
@[simp] theorem withPower_board (s : State) (x : Power) : (s.withPower x).board = s.board := rfl
@[simp] theorem withPower_telem (s : State) (x : Power) : (s.withPower x).telem = s.telem := rfl
@[simp] theorem withPower_limits (s : State) (x : Power) : (s.withPower x).limits = s.limits := rfl
@[simp] theorem withPower_stance (s : State) (x : Power) : (s.withPower x).stance = s.stance := rfl
@[simp] theorem withPower_ctl (s : State) (x : Power) : (s.withPower x).ctl = s.ctl := rfl
@[simp] theorem withPower_geo (s : State) (x : Power) : (s.withPower x).geo = s.geo := rfl
@[simp] theorem withPower_level (s : State) (x : Power) : (s.withPower x).level = s.level := rfl
@[simp] theorem withPower_swap (s : State) (x : Power) : (s.withPower x).swap = s.swap := rfl
@[simp] theorem withPower_axes (s : State) (x : Power) : (s.withPower x).axes = s.axes := rfl
@[simp] theorem withPower_arb (s : State) (x : Power) : (s.withPower x).arb = s.arb := rfl
@[simp] theorem withPower_wind (s : State) (x : Power) : (s.withPower x).wind = s.wind := rfl
@[simp] theorem withPower_ilk (s : State) (x : Power) : (s.withPower x).ilk = s.ilk := rfl
@[simp] theorem withPower_power (s : State) (x : Power) : (s.withPower x).power = x := rfl

/-! ## Axes -/

@[simp] theorem get_put_mast (x : Axes) (v : AxisState) : (x.put .mast v).mast = v := rfl
@[simp] theorem put_mast_pan (x : Axes) (v : AxisState) : (x.put .mast v).pan = x.pan := rfl
@[simp] theorem put_mast_tilt (x : Axes) (v : AxisState) : (x.put .mast v).tilt = x.tilt := rfl
@[simp] theorem put_mast_pol (x : Axes) (v : AxisState) : (x.put .mast v).pol = x.pol := rfl
@[simp] theorem get_put_pan (x : Axes) (v : AxisState) : (x.put .pan v).pan = v := rfl
@[simp] theorem put_pan_mast (x : Axes) (v : AxisState) : (x.put .pan v).mast = x.mast := rfl
@[simp] theorem put_pan_tilt (x : Axes) (v : AxisState) : (x.put .pan v).tilt = x.tilt := rfl
@[simp] theorem put_pan_pol (x : Axes) (v : AxisState) : (x.put .pan v).pol = x.pol := rfl
@[simp] theorem get_put_tilt (x : Axes) (v : AxisState) : (x.put .tilt v).tilt = v := rfl
@[simp] theorem put_tilt_mast (x : Axes) (v : AxisState) : (x.put .tilt v).mast = x.mast := rfl
@[simp] theorem put_tilt_pan (x : Axes) (v : AxisState) : (x.put .tilt v).pan = x.pan := rfl
@[simp] theorem put_tilt_pol (x : Axes) (v : AxisState) : (x.put .tilt v).pol = x.pol := rfl
@[simp] theorem get_put_pol (x : Axes) (v : AxisState) : (x.put .pol v).pol = v := rfl
@[simp] theorem put_pol_mast (x : Axes) (v : AxisState) : (x.put .pol v).mast = x.mast := rfl
@[simp] theorem put_pol_pan (x : Axes) (v : AxisState) : (x.put .pol v).pan = x.pan := rfl
@[simp] theorem put_pol_tilt (x : Axes) (v : AxisState) : (x.put .pol v).tilt = x.tilt := rfl

@[simp] theorem Axes.get_put_same (x : Axes) (a : Axis) (v : AxisState) : (x.put a v).get a = v := by cases a <;> rfl

theorem Axes.get_put_other (x : Axes) (a b : Axis) (v : AxisState) (h : b ≠ a) : (x.put a v).get b = x.get b := by
  cases a <;> cases b <;> first | rfl | exact absurd rfl h

@[simp] theorem Axes.put_lock (x : Axes) (a : Axis) (v : AxisState) : (x.put a v).lock = x.lock := by cases a <;> rfl
@[simp] theorem Axes.put_tripped (x : Axes) (a : Axis) (v : AxisState) : (x.put a v).tripped = x.tripped := by
  cases a <;> rfl
@[simp] theorem Axes.put_contacts (x : Axes) (a : Axis) (v : AxisState) : (x.put a v).contacts = x.contacts := by
  cases a <;> rfl

@[simp] theorem axis_withAxis_same (s : State) (a : Axis) (v : AxisState) : (s.withAxis a v).axis a = v := by
  cases a <;> rfl

theorem axis_withAxis_other (s : State) (a b : Axis) (v : AxisState) (h : b ≠ a) :
    (s.withAxis a v).axis b = s.axis b := by
  cases a <;> cases b <;> first | rfl | exact absurd rfl h

/-! ## The updates of one part of a group -/

@[simp] theorem withAxis_pending (s : State) (a : Axis) (x : AxisState) : (s.withAxis a x).pending = s.pending := rfl
@[simp] theorem withAxis_mem (s : State) (a : Axis) (x : AxisState) : (s.withAxis a x).mem = s.mem := rfl
@[simp] theorem withAxis_board (s : State) (a : Axis) (x : AxisState) : (s.withAxis a x).board = s.board := rfl
@[simp] theorem withAxis_telem (s : State) (a : Axis) (x : AxisState) : (s.withAxis a x).telem = s.telem := rfl
@[simp] theorem withAxis_limits (s : State) (a : Axis) (x : AxisState) : (s.withAxis a x).limits = s.limits := rfl
@[simp] theorem withAxis_stance (s : State) (a : Axis) (x : AxisState) : (s.withAxis a x).stance = s.stance := rfl
@[simp] theorem withAxis_ctl (s : State) (a : Axis) (x : AxisState) : (s.withAxis a x).ctl = s.ctl := rfl
@[simp] theorem withAxis_geo (s : State) (a : Axis) (x : AxisState) : (s.withAxis a x).geo = s.geo := rfl
@[simp] theorem withAxis_level (s : State) (a : Axis) (x : AxisState) : (s.withAxis a x).level = s.level := rfl
@[simp] theorem withAxis_swap (s : State) (a : Axis) (x : AxisState) : (s.withAxis a x).swap = s.swap := rfl
@[simp] theorem withAxis_arb (s : State) (a : Axis) (x : AxisState) : (s.withAxis a x).arb = s.arb := rfl
@[simp] theorem withAxis_wind (s : State) (a : Axis) (x : AxisState) : (s.withAxis a x).wind = s.wind := rfl
@[simp] theorem withAxis_ilk (s : State) (a : Axis) (x : AxisState) : (s.withAxis a x).ilk = s.ilk := rfl
@[simp] theorem withAxis_power (s : State) (a : Axis) (x : AxisState) : (s.withAxis a x).power = s.power := rfl

@[simp] theorem withLock_pending (s : State) (x : Lock) : (s.withLock x).pending = s.pending := rfl
@[simp] theorem withLock_mem (s : State) (x : Lock) : (s.withLock x).mem = s.mem := rfl
@[simp] theorem withLock_board (s : State) (x : Lock) : (s.withLock x).board = s.board := rfl
@[simp] theorem withLock_telem (s : State) (x : Lock) : (s.withLock x).telem = s.telem := rfl
@[simp] theorem withLock_limits (s : State) (x : Lock) : (s.withLock x).limits = s.limits := rfl
@[simp] theorem withLock_stance (s : State) (x : Lock) : (s.withLock x).stance = s.stance := rfl
@[simp] theorem withLock_ctl (s : State) (x : Lock) : (s.withLock x).ctl = s.ctl := rfl
@[simp] theorem withLock_geo (s : State) (x : Lock) : (s.withLock x).geo = s.geo := rfl
@[simp] theorem withLock_level (s : State) (x : Lock) : (s.withLock x).level = s.level := rfl
@[simp] theorem withLock_swap (s : State) (x : Lock) : (s.withLock x).swap = s.swap := rfl
@[simp] theorem withLock_arb (s : State) (x : Lock) : (s.withLock x).arb = s.arb := rfl
@[simp] theorem withLock_wind (s : State) (x : Lock) : (s.withLock x).wind = s.wind := rfl
@[simp] theorem withLock_ilk (s : State) (x : Lock) : (s.withLock x).ilk = s.ilk := rfl
@[simp] theorem withLock_power (s : State) (x : Lock) : (s.withLock x).power = s.power := rfl

@[simp] theorem withMode_pending (s : State) (x : Mode) : (s.withMode x).pending = s.pending := rfl
@[simp] theorem withMode_mem (s : State) (x : Mode) : (s.withMode x).mem = s.mem := rfl
@[simp] theorem withMode_board (s : State) (x : Mode) : (s.withMode x).board = s.board := rfl
@[simp] theorem withMode_telem (s : State) (x : Mode) : (s.withMode x).telem = s.telem := rfl
@[simp] theorem withMode_limits (s : State) (x : Mode) : (s.withMode x).limits = s.limits := rfl
@[simp] theorem withMode_stance (s : State) (x : Mode) : (s.withMode x).stance = s.stance := rfl
@[simp] theorem withMode_geo (s : State) (x : Mode) : (s.withMode x).geo = s.geo := rfl
@[simp] theorem withMode_level (s : State) (x : Mode) : (s.withMode x).level = s.level := rfl
@[simp] theorem withMode_swap (s : State) (x : Mode) : (s.withMode x).swap = s.swap := rfl
@[simp] theorem withMode_axes (s : State) (x : Mode) : (s.withMode x).axes = s.axes := rfl
@[simp] theorem withMode_arb (s : State) (x : Mode) : (s.withMode x).arb = s.arb := rfl
@[simp] theorem withMode_wind (s : State) (x : Mode) : (s.withMode x).wind = s.wind := rfl
@[simp] theorem withMode_ilk (s : State) (x : Mode) : (s.withMode x).ilk = s.ilk := rfl
@[simp] theorem withMode_power (s : State) (x : Mode) : (s.withMode x).power = s.power := rfl

@[simp] theorem withFaults_pending (s : State) (x : List FaultId) : (s.withFaults x).pending = s.pending := rfl
@[simp] theorem withFaults_mem (s : State) (x : List FaultId) : (s.withFaults x).mem = s.mem := rfl
@[simp] theorem withFaults_board (s : State) (x : List FaultId) : (s.withFaults x).board = s.board := rfl
@[simp] theorem withFaults_telem (s : State) (x : List FaultId) : (s.withFaults x).telem = s.telem := rfl
@[simp] theorem withFaults_limits (s : State) (x : List FaultId) : (s.withFaults x).limits = s.limits := rfl
@[simp] theorem withFaults_stance (s : State) (x : List FaultId) : (s.withFaults x).stance = s.stance := rfl
@[simp] theorem withFaults_ctl (s : State) (x : List FaultId) : (s.withFaults x).ctl = s.ctl := rfl
@[simp] theorem withFaults_geo (s : State) (x : List FaultId) : (s.withFaults x).geo = s.geo := rfl
@[simp] theorem withFaults_level (s : State) (x : List FaultId) : (s.withFaults x).level = s.level := rfl
@[simp] theorem withFaults_swap (s : State) (x : List FaultId) : (s.withFaults x).swap = s.swap := rfl
@[simp] theorem withFaults_axes (s : State) (x : List FaultId) : (s.withFaults x).axes = s.axes := rfl
@[simp] theorem withFaults_arb (s : State) (x : List FaultId) : (s.withFaults x).arb = s.arb := rfl
@[simp] theorem withFaults_wind (s : State) (x : List FaultId) : (s.withFaults x).wind = s.wind := rfl
@[simp] theorem withFaults_power (s : State) (x : List FaultId) : (s.withFaults x).power = s.power := rfl

@[simp] theorem withEntry_pending (s : State) (n : Fin 32) (x : Entry) : (s.withEntry n x).pending = s.pending := rfl
@[simp] theorem withEntry_mem (s : State) (n : Fin 32) (x : Entry) : (s.withEntry n x).mem = s.mem := rfl
@[simp] theorem withEntry_board (s : State) (n : Fin 32) (x : Entry) : (s.withEntry n x).board = s.board := rfl
@[simp] theorem withEntry_telem (s : State) (n : Fin 32) (x : Entry) : (s.withEntry n x).telem = s.telem := rfl
@[simp] theorem withEntry_limits (s : State) (n : Fin 32) (x : Entry) : (s.withEntry n x).limits = s.limits := rfl
@[simp] theorem withEntry_stance (s : State) (n : Fin 32) (x : Entry) : (s.withEntry n x).stance = s.stance := rfl
@[simp] theorem withEntry_ctl (s : State) (n : Fin 32) (x : Entry) : (s.withEntry n x).ctl = s.ctl := rfl
@[simp] theorem withEntry_level (s : State) (n : Fin 32) (x : Entry) : (s.withEntry n x).level = s.level := rfl
@[simp] theorem withEntry_swap (s : State) (n : Fin 32) (x : Entry) : (s.withEntry n x).swap = s.swap := rfl
@[simp] theorem withEntry_axes (s : State) (n : Fin 32) (x : Entry) : (s.withEntry n x).axes = s.axes := rfl
@[simp] theorem withEntry_arb (s : State) (n : Fin 32) (x : Entry) : (s.withEntry n x).arb = s.arb := rfl
@[simp] theorem withEntry_wind (s : State) (n : Fin 32) (x : Entry) : (s.withEntry n x).wind = s.wind := rfl
@[simp] theorem withEntry_ilk (s : State) (n : Fin 32) (x : Entry) : (s.withEntry n x).ilk = s.ilk := rfl
@[simp] theorem withEntry_power (s : State) (n : Fin 32) (x : Entry) : (s.withEntry n x).power = s.power := rfl

@[simp] theorem withDish_pending (s : State) (x : DishState) : (s.withDish x).pending = s.pending := by
  unfold State.withDish; split <;> rfl
@[simp] theorem withDish_mem (s : State) (x : DishState) : (s.withDish x).mem = s.mem := by
  unfold State.withDish; split <;> rfl
@[simp] theorem withDish_board (s : State) (x : DishState) : (s.withDish x).board = s.board := by
  unfold State.withDish; split <;> rfl
@[simp] theorem withDish_telem (s : State) (x : DishState) : (s.withDish x).telem = s.telem := by
  unfold State.withDish; split <;> rfl
@[simp] theorem withDish_limits (s : State) (x : DishState) : (s.withDish x).limits = s.limits := by
  unfold State.withDish; split <;> rfl
@[simp] theorem withDish_stance (s : State) (x : DishState) : (s.withDish x).stance = s.stance := by
  unfold State.withDish; split <;> rfl
@[simp] theorem withDish_geo (s : State) (x : DishState) : (s.withDish x).geo = s.geo := by
  unfold State.withDish; split <;> rfl
@[simp] theorem withDish_swap (s : State) (x : DishState) : (s.withDish x).swap = s.swap := by
  unfold State.withDish; split <;> rfl
@[simp] theorem withDish_axes (s : State) (x : DishState) : (s.withDish x).axes = s.axes := by
  unfold State.withDish; split <;> rfl
@[simp] theorem withDish_arb (s : State) (x : DishState) : (s.withDish x).arb = s.arb := by
  unfold State.withDish; split <;> rfl
@[simp] theorem withDish_wind (s : State) (x : DishState) : (s.withDish x).wind = s.wind := by
  unfold State.withDish; split <;> rfl
@[simp] theorem withDish_ilk (s : State) (x : DishState) : (s.withDish x).ilk = s.ilk := by
  unfold State.withDish; split <;> rfl
@[simp] theorem withDish_power (s : State) (x : DishState) : (s.withDish x).power = s.power := by
  unfold State.withDish; split <;> rfl

@[simp] theorem withDish_ctl (s : State) (x : DishState) : (s.withDish x).ctl = { s.ctl with dishState := x } := by
  unfold State.withDish; split <;> rfl
@[simp] theorem withMode_mode (s : State) (x : Mode) : (s.withMode x).ctl.mode = x := rfl
@[simp] theorem withFaults_faults (s : State) (x : List FaultId) : (s.withFaults x).ilk.faults = x := rfl

theorem withEntry_same (s : State) (n : Fin 32) (x : Entry) (h : s.geo.table.length = 32) :
    (s.withEntry n x).entry n = x := by
  simp [State.withEntry, State.entry, State.withGeo, List.getD, h]

theorem withEntry_other (s : State) (n k : Fin 32) (x : Entry) (h : k ≠ n) :
    (s.withEntry n x).entry k = s.entry k := by
  have h' : ¬ n.val = k.val := fun e => h (Fin.ext e.symm)
  simp [State.withEntry, State.entry, State.withGeo, List.getD, List.getElem?_set_ne h']

theorem withEntry_length (s : State) (n : Fin 32) (x : Entry) :
    (s.withEntry n x).geo.table.length = s.geo.table.length := by
  simp [State.withEntry, State.withGeo]

end Sys2Proof.Machine
end

