-- ==== Sys2Proof/Laws/Memory.lean ====
section
/-! SUPPORT. Common memory: every operation keeps the canonical form; a read after a write gives what was written, and
every other byte is as before. -/
namespace Sys2Proof.Machine

/-- Every address of a memory lies above a bound. -/
def Memory.above (b : Nat) (m : Memory) : Prop := ∀ c ∈ m, b < c.1

theorem Memory.wf_cons (a : Nat) (b : Byte) (m : Memory) :
    Memory.wf ((a, b) :: m) = true ↔ b ≠ 0 ∧ Memory.above a m ∧ Memory.wf m = true := by
  induction m generalizing a b with
  | nil => simp [Memory.wf, Memory.above]
  | cons c m ih =>
    obtain ⟨a', b'⟩ := c
    have hrest := ih a' b'
    constructor
    · intro h
      have h' : b ≠ 0 ∧ a < a' ∧ Memory.wf ((a', b') :: m) = true := by simpa [Memory.wf] using h
      refine ⟨h'.1, ?_, h'.2.2⟩
      intro c hc
      rcases List.mem_cons.mp hc with rfl | hc
      · exact h'.2.1
      · exact lt_trans h'.2.1 ((hrest.mp h'.2.2).2.1 c hc)
    · rintro ⟨hb, ha, hw⟩
      have : a < a' := ha (a', b') (by simp)
      simpa [Memory.wf] using ⟨hb, this, hw⟩

theorem write8_above (m : Memory) (b a : Nat) (v : Byte) (hm : Memory.above b m) (ha : b < a) :
    Memory.above b (write8 m a v) := by
  induction m with
  | nil =>
    unfold write8
    split
    · exact hm
    · intro c hc
      rcases List.mem_cons.mp hc with rfl | hc
      · exact ha
      · cases hc
  | cons c m ih =>
    obtain ⟨x, w⟩ := c
    have hx : b < x := hm (x, w) (by simp)
    have htl : Memory.above b m := fun d hd => hm d (by simp [hd])
    unfold write8
    split
    · split
      · exact hm
      · intro d hd
        rcases List.mem_cons.mp hd with rfl | hd
        · exact ha
        · exact hm d hd
    · split
      · split
        · exact htl
        · intro d hd
          rcases List.mem_cons.mp hd with rfl | hd
          · exact ha
          · exact htl d hd
      · intro d hd
        rcases List.mem_cons.mp hd with rfl | hd
        · exact hx
        · exact ih htl d hd

/-- Storing a byte keeps the canonical form. -/
theorem write8_wf (m : Memory) (a : Nat) (v : Byte) (hm : Memory.wf m = true) : Memory.wf (write8 m a v) = true := by
  induction m with
  | nil =>
    unfold write8
    split
    · rfl
    · simpa [Memory.wf] using ‹¬ v = 0›
  | cons c m ih =>
    obtain ⟨x, w⟩ := c
    obtain ⟨hw, hab, htl⟩ := (Memory.wf_cons x w m).mp hm
    unfold write8
    split
    next hlt =>
      split
      · exact hm
      next hv =>
        refine (Memory.wf_cons _ _ _).mpr ⟨hv, ?_, hm⟩
        intro d hd
        rcases List.mem_cons.mp hd with rfl | hd
        · exact hlt
        · exact lt_trans hlt (hab d hd)
    next hlt =>
      split
      next he =>
        split
        · exact htl
        next hv => exact (Memory.wf_cons _ _ _).mpr ⟨hv, he ▸ hab, htl⟩
      next he =>
        have hxa : x < a := by omega
        exact (Memory.wf_cons _ _ _).mpr ⟨hw, write8_above m x a v hab hxa, ih htl⟩

theorem writeBytes_wf (bs : List Byte) (m : Memory) (a : Nat) (hm : Memory.wf m = true) :
    Memory.wf (writeBytes m a bs) = true := by
  induction bs generalizing m a with
  | nil => exact hm
  | cons b bs ih => exact ih _ _ (write8_wf m a b hm)

theorem writeFields_wf (fs : List (Nat × List Byte)) (m : Memory) (hm : Memory.wf m = true) :
    Memory.wf (writeFields m fs) = true := by
  induction fs generalizing m with
  | nil => exact hm
  | cons f fs ih => exact ih _ (writeBytes_wf _ _ _ hm)

/-- A memory whose addresses all lie above `a` reads as an unlisted address there. -/
theorem read8_above (m : Memory) (a : Nat) (h : Memory.above a m) : read8 m a = 0 := by
  induction m with
  | nil => rfl
  | cons c m ih =>
    obtain ⟨x, w⟩ := c
    have : a < x := h (x, w) (by simp)
    have hne : a ≠ x := by omega
    simp [read8, hne, ih (fun d hd => h d (by simp [hd]))]

/-- A read after a write to the same address. -/
theorem read8_write8_same (m : Memory) (a : Nat) (v : Byte) (hm : Memory.wf m = true) :
    read8 (write8 m a v) a = v := by
  induction m with
  | nil =>
    unfold write8
    split
    next hv => simp [read8, hv]
    · simp [read8]
  | cons c m ih =>
    obtain ⟨x, w⟩ := c
    obtain ⟨hw, hab, htl⟩ := (Memory.wf_cons x w m).mp hm
    unfold write8
    split
    next hlt =>
      split
      next hv =>
        have : Memory.above a ((x, w) :: m) := by
          intro d hd
          rcases List.mem_cons.mp hd with rfl | hd
          · exact hlt
          · exact lt_trans hlt (hab d hd)
        rw [read8_above _ _ this, hv]
      · simp [read8]
    next hlt =>
      split
      next he =>
        split
        next hv => rw [read8_above m a (he ▸ hab), hv]
        · simp [read8]
      next he => simp [read8, he, ih htl]

/-- A write leaves every other address alone. -/
theorem read8_write8_other (m : Memory) (a b : Nat) (v : Byte) (h : b ≠ a) :
    read8 (write8 m a v) b = read8 m b := by
  induction m with
  | nil =>
    unfold write8
    split
    · rfl
    · simp [read8, h]
  | cons c m ih =>
    obtain ⟨x, w⟩ := c
    unfold write8
    split
    · split
      · rfl
      · simp [read8, h]
    · split
      next he =>
        subst he
        split
        · simp [read8, h]
        · simp [read8, h]
      · simp [read8, ih]

/-- Bytes outside those stored are as before. -/
theorem read8_writeBytes_other (bs : List Byte) (m : Memory) (a b : Nat) (h : b < a ∨ a + bs.length ≤ b) :
    read8 (writeBytes m a bs) b = read8 m b := by
  induction bs generalizing m a with
  | nil => rfl
  | cons v bs ih =>
    have hne : b ≠ a := by
      intro he
      simp at h
      omega
    have : b < a + 1 ∨ a + 1 + bs.length ≤ b := by
      simp at h
      omega
    rw [writeBytes, ih _ _ this, read8_write8_other _ _ _ _ hne]

/-- A stored byte reads back. -/
theorem read8_writeBytes (bs : List Byte) (m : Memory) (a k : Nat) (hm : Memory.wf m = true) (hk : k < bs.length) :
    read8 (writeBytes m a bs) (a + k) = bs[k] := by
  induction bs generalizing m a k with
  | nil => simp at hk
  | cons v bs ih =>
    rw [writeBytes]
    cases k with
    | zero =>
      rw [read8_writeBytes_other bs _ (a + 1) (a + 0) (by omega)]
      simpa using read8_write8_same m a v hm
    | succ k =>
      have := ih (write8 m a v) (a + 1) k (write8_wf m a v hm) (by simpa using hk)
      simpa [Nat.add_assoc, Nat.add_comm 1 k] using this

/-- Bytes outside every field stored are as before. -/
theorem read8_writeFields_other (fs : List (Nat × List Byte)) (m : Memory) (b : Nat)
    (h : ∀ f ∈ fs, b < f.1 ∨ f.1 + f.2.length ≤ b) : read8 (writeFields m fs) b = read8 m b := by
  induction fs generalizing m with
  | nil => rfl
  | cons f fs ih =>
    rw [writeFields, ih _ (fun g hg => h g (by simp [hg])), read8_writeBytes_other _ _ _ _ (h f (by simp))]

@[simp] theorem leBytes_length (n v : Nat) : (leBytes n v).length = n := by
  induction n generalizing v with
  | zero => rfl
  | succ n ih => simp [leBytes, ih]

@[simp] theorem padBytes_length (n : Nat) (l : List Byte) : (padBytes n l).length = n := by
  induction n generalizing l with
  | zero => rfl
  | succ n ih => cases l <;> simp [padBytes, ih]

/-- The memory after a reset of cause POWER_ON has the canonical form. -/
theorem reset_memory_wf : Memory.wf State.reset.mem = true := rfl

end Sys2Proof.Machine
end

