-- ==== Sys2Proof/Laws/Updates.lean ====
section
/-! SUPPORT. The small lemmas of the named updates that the meanings share: one for each group that an update leaves
alone, and what it writes. -/
namespace Sys2Proof.Machine

@[simp] theorem popIntake_pending (s : State) : (popIntake s).pending = s.pending := rfl
@[simp] theorem popIntake_mem (s : State) : (popIntake s).mem = s.mem := rfl
@[simp] theorem popIntake_telem (s : State) : (popIntake s).telem = s.telem := rfl
@[simp] theorem popIntake_limits (s : State) : (popIntake s).limits = s.limits := rfl
@[simp] theorem popIntake_stance (s : State) : (popIntake s).stance = s.stance := rfl
@[simp] theorem popIntake_ctl (s : State) : (popIntake s).ctl = s.ctl := rfl
@[simp] theorem popIntake_geo (s : State) : (popIntake s).geo = s.geo := rfl
@[simp] theorem popIntake_level (s : State) : (popIntake s).level = s.level := rfl
@[simp] theorem popIntake_swap (s : State) : (popIntake s).swap = s.swap := rfl
@[simp] theorem popIntake_axes (s : State) : (popIntake s).axes = s.axes := rfl
@[simp] theorem popIntake_arb (s : State) : (popIntake s).arb = s.arb := rfl
@[simp] theorem popIntake_wind (s : State) : (popIntake s).wind = s.wind := rfl
@[simp] theorem popIntake_ilk (s : State) : (popIntake s).ilk = s.ilk := rfl
@[simp] theorem popIntake_power (s : State) : (popIntake s).power = s.power := rfl

@[simp] theorem openCommand_pending (s : State) (c : OpenCommand) : (openCommand s c).pending = s.pending := rfl
@[simp] theorem openCommand_mem (s : State) (c : OpenCommand) : (openCommand s c).mem = s.mem := rfl
@[simp] theorem openCommand_telem (s : State) (c : OpenCommand) : (openCommand s c).telem = s.telem := rfl
@[simp] theorem openCommand_limits (s : State) (c : OpenCommand) : (openCommand s c).limits = s.limits := rfl
@[simp] theorem openCommand_stance (s : State) (c : OpenCommand) : (openCommand s c).stance = s.stance := rfl
@[simp] theorem openCommand_ctl (s : State) (c : OpenCommand) : (openCommand s c).ctl = s.ctl := rfl
@[simp] theorem openCommand_geo (s : State) (c : OpenCommand) : (openCommand s c).geo = s.geo := rfl
@[simp] theorem openCommand_level (s : State) (c : OpenCommand) : (openCommand s c).level = s.level := rfl
@[simp] theorem openCommand_swap (s : State) (c : OpenCommand) : (openCommand s c).swap = s.swap := rfl
@[simp] theorem openCommand_axes (s : State) (c : OpenCommand) : (openCommand s c).axes = s.axes := rfl
@[simp] theorem openCommand_arb (s : State) (c : OpenCommand) : (openCommand s c).arb = s.arb := rfl
@[simp] theorem openCommand_wind (s : State) (c : OpenCommand) : (openCommand s c).wind = s.wind := rfl
@[simp] theorem openCommand_ilk (s : State) (c : OpenCommand) : (openCommand s c).ilk = s.ilk := rfl
@[simp] theorem openCommand_power (s : State) (c : OpenCommand) : (openCommand s c).power = s.power := rfl

@[simp] theorem closeSlot_pending (s : State) (n : Slot) : (closeSlot s n).pending = s.pending := rfl
@[simp] theorem closeSlot_mem (s : State) (n : Slot) : (closeSlot s n).mem = s.mem := rfl
@[simp] theorem closeSlot_telem (s : State) (n : Slot) : (closeSlot s n).telem = s.telem := rfl
@[simp] theorem closeSlot_limits (s : State) (n : Slot) : (closeSlot s n).limits = s.limits := rfl
@[simp] theorem closeSlot_stance (s : State) (n : Slot) : (closeSlot s n).stance = s.stance := rfl
@[simp] theorem closeSlot_ctl (s : State) (n : Slot) : (closeSlot s n).ctl = s.ctl := rfl
@[simp] theorem closeSlot_geo (s : State) (n : Slot) : (closeSlot s n).geo = s.geo := rfl
@[simp] theorem closeSlot_level (s : State) (n : Slot) : (closeSlot s n).level = s.level := rfl
@[simp] theorem closeSlot_swap (s : State) (n : Slot) : (closeSlot s n).swap = s.swap := rfl
@[simp] theorem closeSlot_axes (s : State) (n : Slot) : (closeSlot s n).axes = s.axes := rfl
@[simp] theorem closeSlot_arb (s : State) (n : Slot) : (closeSlot s n).arb = s.arb := rfl
@[simp] theorem closeSlot_wind (s : State) (n : Slot) : (closeSlot s n).wind = s.wind := rfl
@[simp] theorem closeSlot_ilk (s : State) (n : Slot) : (closeSlot s n).ilk = s.ilk := rfl
@[simp] theorem closeSlot_power (s : State) (n : Slot) : (closeSlot s n).power = s.power := rfl

@[simp] theorem updateOpen_pending (s : State) (f : OpenCommand → OpenCommand) : (updateOpen s f).pending = s.pending := rfl
@[simp] theorem updateOpen_mem (s : State) (f : OpenCommand → OpenCommand) : (updateOpen s f).mem = s.mem := rfl
@[simp] theorem updateOpen_telem (s : State) (f : OpenCommand → OpenCommand) : (updateOpen s f).telem = s.telem := rfl
@[simp] theorem updateOpen_limits (s : State) (f : OpenCommand → OpenCommand) : (updateOpen s f).limits = s.limits := rfl
@[simp] theorem updateOpen_stance (s : State) (f : OpenCommand → OpenCommand) : (updateOpen s f).stance = s.stance := rfl
@[simp] theorem updateOpen_ctl (s : State) (f : OpenCommand → OpenCommand) : (updateOpen s f).ctl = s.ctl := rfl
@[simp] theorem updateOpen_geo (s : State) (f : OpenCommand → OpenCommand) : (updateOpen s f).geo = s.geo := rfl
@[simp] theorem updateOpen_level (s : State) (f : OpenCommand → OpenCommand) : (updateOpen s f).level = s.level := rfl
@[simp] theorem updateOpen_swap (s : State) (f : OpenCommand → OpenCommand) : (updateOpen s f).swap = s.swap := rfl
@[simp] theorem updateOpen_axes (s : State) (f : OpenCommand → OpenCommand) : (updateOpen s f).axes = s.axes := rfl
@[simp] theorem updateOpen_arb (s : State) (f : OpenCommand → OpenCommand) : (updateOpen s f).arb = s.arb := rfl
@[simp] theorem updateOpen_wind (s : State) (f : OpenCommand → OpenCommand) : (updateOpen s f).wind = s.wind := rfl
@[simp] theorem updateOpen_ilk (s : State) (f : OpenCommand → OpenCommand) : (updateOpen s f).ilk = s.ilk := rfl
@[simp] theorem updateOpen_power (s : State) (f : OpenCommand → OpenCommand) : (updateOpen s f).power = s.power := rfl

@[simp] theorem setNotice_pending (s : State) (n : Nat) : (setNotice s n).pending = s.pending := rfl
@[simp] theorem setNotice_mem (s : State) (n : Nat) : (setNotice s n).mem = s.mem := rfl
@[simp] theorem setNotice_telem (s : State) (n : Nat) : (setNotice s n).telem = s.telem := rfl
@[simp] theorem setNotice_limits (s : State) (n : Nat) : (setNotice s n).limits = s.limits := rfl
@[simp] theorem setNotice_stance (s : State) (n : Nat) : (setNotice s n).stance = s.stance := rfl
@[simp] theorem setNotice_ctl (s : State) (n : Nat) : (setNotice s n).ctl = s.ctl := rfl
@[simp] theorem setNotice_geo (s : State) (n : Nat) : (setNotice s n).geo = s.geo := rfl
@[simp] theorem setNotice_level (s : State) (n : Nat) : (setNotice s n).level = s.level := rfl
@[simp] theorem setNotice_swap (s : State) (n : Nat) : (setNotice s n).swap = s.swap := rfl
@[simp] theorem setNotice_axes (s : State) (n : Nat) : (setNotice s n).axes = s.axes := rfl
@[simp] theorem setNotice_arb (s : State) (n : Nat) : (setNotice s n).arb = s.arb := rfl
@[simp] theorem setNotice_wind (s : State) (n : Nat) : (setNotice s n).wind = s.wind := rfl
@[simp] theorem setNotice_ilk (s : State) (n : Nat) : (setNotice s n).ilk = s.ilk := rfl
@[simp] theorem setNotice_power (s : State) (n : Nat) : (setNotice s n).power = s.power := rfl

@[simp] theorem withPeakPending_pending (s : State) (b : Bool) : (State.withPeakPending s b).pending = s.pending := rfl
@[simp] theorem withPeakPending_mem (s : State) (b : Bool) : (State.withPeakPending s b).mem = s.mem := rfl
@[simp] theorem withPeakPending_board (s : State) (b : Bool) : (State.withPeakPending s b).board = s.board := rfl
@[simp] theorem withPeakPending_telem (s : State) (b : Bool) : (State.withPeakPending s b).telem = s.telem := rfl
@[simp] theorem withPeakPending_limits (s : State) (b : Bool) : (State.withPeakPending s b).limits = s.limits := rfl
@[simp] theorem withPeakPending_ctl (s : State) (b : Bool) : (State.withPeakPending s b).ctl = s.ctl := rfl
@[simp] theorem withPeakPending_geo (s : State) (b : Bool) : (State.withPeakPending s b).geo = s.geo := rfl
@[simp] theorem withPeakPending_level (s : State) (b : Bool) : (State.withPeakPending s b).level = s.level := rfl
@[simp] theorem withPeakPending_swap (s : State) (b : Bool) : (State.withPeakPending s b).swap = s.swap := rfl
@[simp] theorem withPeakPending_axes (s : State) (b : Bool) : (State.withPeakPending s b).axes = s.axes := rfl
@[simp] theorem withPeakPending_arb (s : State) (b : Bool) : (State.withPeakPending s b).arb = s.arb := rfl
@[simp] theorem withPeakPending_wind (s : State) (b : Bool) : (State.withPeakPending s b).wind = s.wind := rfl
@[simp] theorem withPeakPending_ilk (s : State) (b : Bool) : (State.withPeakPending s b).ilk = s.ilk := rfl
@[simp] theorem withPeakPending_power (s : State) (b : Bool) : (State.withPeakPending s b).power = s.power := rfl

@[simp] theorem withMastGoal_pending (s : State) (h : Int) : (State.withMastGoal s h).pending = s.pending := rfl
@[simp] theorem withMastGoal_mem (s : State) (h : Int) : (State.withMastGoal s h).mem = s.mem := rfl
@[simp] theorem withMastGoal_board (s : State) (h : Int) : (State.withMastGoal s h).board = s.board := rfl
@[simp] theorem withMastGoal_telem (s : State) (h : Int) : (State.withMastGoal s h).telem = s.telem := rfl
@[simp] theorem withMastGoal_limits (s : State) (h : Int) : (State.withMastGoal s h).limits = s.limits := rfl
@[simp] theorem withMastGoal_ctl (s : State) (h : Int) : (State.withMastGoal s h).ctl = s.ctl := rfl
@[simp] theorem withMastGoal_geo (s : State) (h : Int) : (State.withMastGoal s h).geo = s.geo := rfl
@[simp] theorem withMastGoal_level (s : State) (h : Int) : (State.withMastGoal s h).level = s.level := rfl
@[simp] theorem withMastGoal_swap (s : State) (h : Int) : (State.withMastGoal s h).swap = s.swap := rfl
@[simp] theorem withMastGoal_axes (s : State) (h : Int) : (State.withMastGoal s h).axes = s.axes := rfl
@[simp] theorem withMastGoal_arb (s : State) (h : Int) : (State.withMastGoal s h).arb = s.arb := rfl
@[simp] theorem withMastGoal_wind (s : State) (h : Int) : (State.withMastGoal s h).wind = s.wind := rfl
@[simp] theorem withMastGoal_ilk (s : State) (h : Int) : (State.withMastGoal s h).ilk = s.ilk := rfl
@[simp] theorem withMastGoal_power (s : State) (h : Int) : (State.withMastGoal s h).power = s.power := rfl

@[simp] theorem withGoalAtRest_pending (s : State) (g : Option GoalAtRest) : (State.withGoalAtRest s g).pending = s.pending := rfl
@[simp] theorem withGoalAtRest_mem (s : State) (g : Option GoalAtRest) : (State.withGoalAtRest s g).mem = s.mem := rfl
@[simp] theorem withGoalAtRest_board (s : State) (g : Option GoalAtRest) : (State.withGoalAtRest s g).board = s.board := rfl
@[simp] theorem withGoalAtRest_telem (s : State) (g : Option GoalAtRest) : (State.withGoalAtRest s g).telem = s.telem := rfl
@[simp] theorem withGoalAtRest_limits (s : State) (g : Option GoalAtRest) : (State.withGoalAtRest s g).limits = s.limits := rfl
@[simp] theorem withGoalAtRest_stance (s : State) (g : Option GoalAtRest) : (State.withGoalAtRest s g).stance = s.stance := rfl
@[simp] theorem withGoalAtRest_geo (s : State) (g : Option GoalAtRest) : (State.withGoalAtRest s g).geo = s.geo := rfl
@[simp] theorem withGoalAtRest_level (s : State) (g : Option GoalAtRest) : (State.withGoalAtRest s g).level = s.level := rfl
@[simp] theorem withGoalAtRest_swap (s : State) (g : Option GoalAtRest) : (State.withGoalAtRest s g).swap = s.swap := rfl
@[simp] theorem withGoalAtRest_axes (s : State) (g : Option GoalAtRest) : (State.withGoalAtRest s g).axes = s.axes := rfl
@[simp] theorem withGoalAtRest_arb (s : State) (g : Option GoalAtRest) : (State.withGoalAtRest s g).arb = s.arb := rfl
@[simp] theorem withGoalAtRest_wind (s : State) (g : Option GoalAtRest) : (State.withGoalAtRest s g).wind = s.wind := rfl
@[simp] theorem withGoalAtRest_ilk (s : State) (g : Option GoalAtRest) : (State.withGoalAtRest s g).ilk = s.ilk := rfl
@[simp] theorem withGoalAtRest_power (s : State) (g : Option GoalAtRest) : (State.withGoalAtRest s g).power = s.power := rfl

@[simp] theorem withUpwardDue_pending (s : State) (b : Bool) : (State.withUpwardDue s b).pending = s.pending := rfl
@[simp] theorem withUpwardDue_mem (s : State) (b : Bool) : (State.withUpwardDue s b).mem = s.mem := rfl
@[simp] theorem withUpwardDue_board (s : State) (b : Bool) : (State.withUpwardDue s b).board = s.board := rfl
@[simp] theorem withUpwardDue_telem (s : State) (b : Bool) : (State.withUpwardDue s b).telem = s.telem := rfl
@[simp] theorem withUpwardDue_limits (s : State) (b : Bool) : (State.withUpwardDue s b).limits = s.limits := rfl
@[simp] theorem withUpwardDue_stance (s : State) (b : Bool) : (State.withUpwardDue s b).stance = s.stance := rfl
@[simp] theorem withUpwardDue_geo (s : State) (b : Bool) : (State.withUpwardDue s b).geo = s.geo := rfl
@[simp] theorem withUpwardDue_level (s : State) (b : Bool) : (State.withUpwardDue s b).level = s.level := rfl
@[simp] theorem withUpwardDue_swap (s : State) (b : Bool) : (State.withUpwardDue s b).swap = s.swap := rfl
@[simp] theorem withUpwardDue_axes (s : State) (b : Bool) : (State.withUpwardDue s b).axes = s.axes := rfl
@[simp] theorem withUpwardDue_arb (s : State) (b : Bool) : (State.withUpwardDue s b).arb = s.arb := rfl
@[simp] theorem withUpwardDue_wind (s : State) (b : Bool) : (State.withUpwardDue s b).wind = s.wind := rfl
@[simp] theorem withUpwardDue_ilk (s : State) (b : Bool) : (State.withUpwardDue s b).ilk = s.ilk := rfl
@[simp] theorem withUpwardDue_power (s : State) (b : Bool) : (State.withUpwardDue s b).power = s.power := rfl

@[simp] theorem withDishShort_pending (s : State) (x : Option StopShort) : (State.withDishShort s x).pending = s.pending := rfl
@[simp] theorem withDishShort_mem (s : State) (x : Option StopShort) : (State.withDishShort s x).mem = s.mem := rfl
@[simp] theorem withDishShort_board (s : State) (x : Option StopShort) : (State.withDishShort s x).board = s.board := rfl
@[simp] theorem withDishShort_telem (s : State) (x : Option StopShort) : (State.withDishShort s x).telem = s.telem := rfl
@[simp] theorem withDishShort_limits (s : State) (x : Option StopShort) : (State.withDishShort s x).limits = s.limits := rfl
@[simp] theorem withDishShort_stance (s : State) (x : Option StopShort) : (State.withDishShort s x).stance = s.stance := rfl
@[simp] theorem withDishShort_geo (s : State) (x : Option StopShort) : (State.withDishShort s x).geo = s.geo := rfl
@[simp] theorem withDishShort_level (s : State) (x : Option StopShort) : (State.withDishShort s x).level = s.level := rfl
@[simp] theorem withDishShort_swap (s : State) (x : Option StopShort) : (State.withDishShort s x).swap = s.swap := rfl
@[simp] theorem withDishShort_axes (s : State) (x : Option StopShort) : (State.withDishShort s x).axes = s.axes := rfl
@[simp] theorem withDishShort_arb (s : State) (x : Option StopShort) : (State.withDishShort s x).arb = s.arb := rfl
@[simp] theorem withDishShort_wind (s : State) (x : Option StopShort) : (State.withDishShort s x).wind = s.wind := rfl
@[simp] theorem withDishShort_ilk (s : State) (x : Option StopShort) : (State.withDishShort s x).ilk = s.ilk := rfl
@[simp] theorem withDishShort_power (s : State) (x : Option StopShort) : (State.withDishShort s x).power = s.power := rfl

@[simp] theorem setEff_pending (s : State) : (setEff s).pending = s.pending := rfl
@[simp] theorem setEff_mem (s : State) : (setEff s).mem = s.mem := rfl
@[simp] theorem setEff_board (s : State) : (setEff s).board = s.board := rfl
@[simp] theorem setEff_telem (s : State) : (setEff s).telem = s.telem := rfl
@[simp] theorem setEff_limits (s : State) : (setEff s).limits = s.limits := rfl
@[simp] theorem setEff_stance (s : State) : (setEff s).stance = s.stance := rfl
@[simp] theorem setEff_geo (s : State) : (setEff s).geo = s.geo := rfl
@[simp] theorem setEff_level (s : State) : (setEff s).level = s.level := rfl
@[simp] theorem setEff_swap (s : State) : (setEff s).swap = s.swap := rfl
@[simp] theorem setEff_axes (s : State) : (setEff s).axes = s.axes := rfl
@[simp] theorem setEff_arb (s : State) : (setEff s).arb = s.arb := rfl
@[simp] theorem setEff_wind (s : State) : (setEff s).wind = s.wind := rfl
@[simp] theorem setEff_ilk (s : State) : (setEff s).ilk = s.ilk := rfl
@[simp] theorem setEff_power (s : State) : (setEff s).power = s.power := rfl

@[simp] theorem writeDishGoal_pending (s : State) (g : DishGoal) : (writeDishGoal s g).pending = s.pending := rfl
@[simp] theorem writeDishGoal_mem (s : State) (g : DishGoal) : (writeDishGoal s g).mem = s.mem := rfl
@[simp] theorem writeDishGoal_board (s : State) (g : DishGoal) : (writeDishGoal s g).board = s.board := rfl
@[simp] theorem writeDishGoal_telem (s : State) (g : DishGoal) : (writeDishGoal s g).telem = s.telem := rfl
@[simp] theorem writeDishGoal_limits (s : State) (g : DishGoal) : (writeDishGoal s g).limits = s.limits := rfl
@[simp] theorem writeDishGoal_geo (s : State) (g : DishGoal) : (writeDishGoal s g).geo = s.geo := rfl
@[simp] theorem writeDishGoal_level (s : State) (g : DishGoal) : (writeDishGoal s g).level = s.level := rfl
@[simp] theorem writeDishGoal_swap (s : State) (g : DishGoal) : (writeDishGoal s g).swap = s.swap := rfl
@[simp] theorem writeDishGoal_axes (s : State) (g : DishGoal) : (writeDishGoal s g).axes = s.axes := rfl
@[simp] theorem writeDishGoal_arb (s : State) (g : DishGoal) : (writeDishGoal s g).arb = s.arb := rfl
@[simp] theorem writeDishGoal_wind (s : State) (g : DishGoal) : (writeDishGoal s g).wind = s.wind := rfl
@[simp] theorem writeDishGoal_ilk (s : State) (g : DishGoal) : (writeDishGoal s g).ilk = s.ilk := rfl
@[simp] theorem writeDishGoal_power (s : State) (g : DishGoal) : (writeDishGoal s g).power = s.power := rfl

@[simp] theorem withSearch_pending (s : State) (c : Search) : (State.withSearch s c).pending = s.pending := rfl
@[simp] theorem withSearch_mem (s : State) (c : Search) : (State.withSearch s c).mem = s.mem := rfl
@[simp] theorem withSearch_board (s : State) (c : Search) : (State.withSearch s c).board = s.board := rfl
@[simp] theorem withSearch_telem (s : State) (c : Search) : (State.withSearch s c).telem = s.telem := rfl
@[simp] theorem withSearch_limits (s : State) (c : Search) : (State.withSearch s c).limits = s.limits := rfl
@[simp] theorem withSearch_stance (s : State) (c : Search) : (State.withSearch s c).stance = s.stance := rfl
@[simp] theorem withSearch_ctl (s : State) (c : Search) : (State.withSearch s c).ctl = s.ctl := rfl
@[simp] theorem withSearch_geo (s : State) (c : Search) : (State.withSearch s c).geo = s.geo := rfl
@[simp] theorem withSearch_swap (s : State) (c : Search) : (State.withSearch s c).swap = s.swap := rfl
@[simp] theorem withSearch_axes (s : State) (c : Search) : (State.withSearch s c).axes = s.axes := rfl
@[simp] theorem withSearch_arb (s : State) (c : Search) : (State.withSearch s c).arb = s.arb := rfl
@[simp] theorem withSearch_wind (s : State) (c : Search) : (State.withSearch s c).wind = s.wind := rfl
@[simp] theorem withSearch_ilk (s : State) (c : Search) : (State.withSearch s c).ilk = s.ilk := rfl
@[simp] theorem withSearch_power (s : State) (c : Search) : (State.withSearch s c).power = s.power := rfl

@[simp] theorem withSiteTargets_pending (s : State) (t : Targets) (p q : Int) : (State.withSiteTargets s t p q).pending = s.pending := rfl
@[simp] theorem withSiteTargets_mem (s : State) (t : Targets) (p q : Int) : (State.withSiteTargets s t p q).mem = s.mem := rfl
@[simp] theorem withSiteTargets_board (s : State) (t : Targets) (p q : Int) : (State.withSiteTargets s t p q).board = s.board := rfl
@[simp] theorem withSiteTargets_telem (s : State) (t : Targets) (p q : Int) : (State.withSiteTargets s t p q).telem = s.telem := rfl
@[simp] theorem withSiteTargets_limits (s : State) (t : Targets) (p q : Int) : (State.withSiteTargets s t p q).limits = s.limits := rfl
@[simp] theorem withSiteTargets_stance (s : State) (t : Targets) (p q : Int) : (State.withSiteTargets s t p q).stance = s.stance := rfl
@[simp] theorem withSiteTargets_geo (s : State) (t : Targets) (p q : Int) : (State.withSiteTargets s t p q).geo = s.geo := rfl
@[simp] theorem withSiteTargets_level (s : State) (t : Targets) (p q : Int) : (State.withSiteTargets s t p q).level = s.level := rfl
@[simp] theorem withSiteTargets_swap (s : State) (t : Targets) (p q : Int) : (State.withSiteTargets s t p q).swap = s.swap := rfl
@[simp] theorem withSiteTargets_axes (s : State) (t : Targets) (p q : Int) : (State.withSiteTargets s t p q).axes = s.axes := rfl
@[simp] theorem withSiteTargets_arb (s : State) (t : Targets) (p q : Int) : (State.withSiteTargets s t p q).arb = s.arb := rfl
@[simp] theorem withSiteTargets_wind (s : State) (t : Targets) (p q : Int) : (State.withSiteTargets s t p q).wind = s.wind := rfl
@[simp] theorem withSiteTargets_ilk (s : State) (t : Targets) (p q : Int) : (State.withSiteTargets s t p q).ilk = s.ilk := rfl
@[simp] theorem withSiteTargets_power (s : State) (t : Targets) (p q : Int) : (State.withSiteTargets s t p q).power = s.power := rfl

@[simp] theorem withTrim_pending (s : State) (n : Fin 32) (t : Trim) : (State.withTrim s n t).pending = s.pending := rfl
@[simp] theorem withTrim_mem (s : State) (n : Fin 32) (t : Trim) : (State.withTrim s n t).mem = s.mem := rfl
@[simp] theorem withTrim_board (s : State) (n : Fin 32) (t : Trim) : (State.withTrim s n t).board = s.board := rfl
@[simp] theorem withTrim_telem (s : State) (n : Fin 32) (t : Trim) : (State.withTrim s n t).telem = s.telem := rfl
@[simp] theorem withTrim_limits (s : State) (n : Fin 32) (t : Trim) : (State.withTrim s n t).limits = s.limits := rfl
@[simp] theorem withTrim_stance (s : State) (n : Fin 32) (t : Trim) : (State.withTrim s n t).stance = s.stance := rfl
@[simp] theorem withTrim_ctl (s : State) (n : Fin 32) (t : Trim) : (State.withTrim s n t).ctl = s.ctl := rfl
@[simp] theorem withTrim_level (s : State) (n : Fin 32) (t : Trim) : (State.withTrim s n t).level = s.level := rfl
@[simp] theorem withTrim_swap (s : State) (n : Fin 32) (t : Trim) : (State.withTrim s n t).swap = s.swap := rfl
@[simp] theorem withTrim_axes (s : State) (n : Fin 32) (t : Trim) : (State.withTrim s n t).axes = s.axes := rfl
@[simp] theorem withTrim_arb (s : State) (n : Fin 32) (t : Trim) : (State.withTrim s n t).arb = s.arb := rfl
@[simp] theorem withTrim_wind (s : State) (n : Fin 32) (t : Trim) : (State.withTrim s n t).wind = s.wind := rfl
@[simp] theorem withTrim_ilk (s : State) (n : Fin 32) (t : Trim) : (State.withTrim s n t).ilk = s.ilk := rfl
@[simp] theorem withTrim_power (s : State) (n : Fin 32) (t : Trim) : (State.withTrim s n t).power = s.power := rfl

@[simp] theorem withMark_pending (s : State) (b : Bool) : (State.withMark s b).pending = s.pending := rfl
@[simp] theorem withMark_mem (s : State) (b : Bool) : (State.withMark s b).mem = s.mem := rfl
@[simp] theorem withMark_board (s : State) (b : Bool) : (State.withMark s b).board = s.board := rfl
@[simp] theorem withMark_telem (s : State) (b : Bool) : (State.withMark s b).telem = s.telem := rfl
@[simp] theorem withMark_limits (s : State) (b : Bool) : (State.withMark s b).limits = s.limits := rfl
@[simp] theorem withMark_stance (s : State) (b : Bool) : (State.withMark s b).stance = s.stance := rfl
@[simp] theorem withMark_geo (s : State) (b : Bool) : (State.withMark s b).geo = s.geo := rfl
@[simp] theorem withMark_level (s : State) (b : Bool) : (State.withMark s b).level = s.level := rfl
@[simp] theorem withMark_swap (s : State) (b : Bool) : (State.withMark s b).swap = s.swap := rfl
@[simp] theorem withMark_axes (s : State) (b : Bool) : (State.withMark s b).axes = s.axes := rfl
@[simp] theorem withMark_arb (s : State) (b : Bool) : (State.withMark s b).arb = s.arb := rfl
@[simp] theorem withMark_wind (s : State) (b : Bool) : (State.withMark s b).wind = s.wind := rfl
@[simp] theorem withMark_ilk (s : State) (b : Bool) : (State.withMark s b).ilk = s.ilk := rfl
@[simp] theorem withMark_power (s : State) (b : Bool) : (State.withMark s b).power = s.power := rfl

@[simp] theorem withMastState_pending (s : State) (m : MastState) : (State.withMastState s m).pending = s.pending := rfl
@[simp] theorem withMastState_mem (s : State) (m : MastState) : (State.withMastState s m).mem = s.mem := rfl
@[simp] theorem withMastState_board (s : State) (m : MastState) : (State.withMastState s m).board = s.board := rfl
@[simp] theorem withMastState_telem (s : State) (m : MastState) : (State.withMastState s m).telem = s.telem := rfl
@[simp] theorem withMastState_limits (s : State) (m : MastState) : (State.withMastState s m).limits = s.limits := rfl
@[simp] theorem withMastState_stance (s : State) (m : MastState) : (State.withMastState s m).stance = s.stance := rfl
@[simp] theorem withMastState_geo (s : State) (m : MastState) : (State.withMastState s m).geo = s.geo := rfl
@[simp] theorem withMastState_level (s : State) (m : MastState) : (State.withMastState s m).level = s.level := rfl
@[simp] theorem withMastState_swap (s : State) (m : MastState) : (State.withMastState s m).swap = s.swap := rfl
@[simp] theorem withMastState_axes (s : State) (m : MastState) : (State.withMastState s m).axes = s.axes := rfl
@[simp] theorem withMastState_arb (s : State) (m : MastState) : (State.withMastState s m).arb = s.arb := rfl
@[simp] theorem withMastState_wind (s : State) (m : MastState) : (State.withMastState s m).wind = s.wind := rfl
@[simp] theorem withMastState_ilk (s : State) (m : MastState) : (State.withMastState s m).ilk = s.ilk := rfl
@[simp] theorem withMastState_power (s : State) (m : MastState) : (State.withMastState s m).power = s.power := rfl

@[simp] theorem withJudged_pending (s : State) (t : Triggers) : (State.withJudged s t).pending = s.pending := rfl
@[simp] theorem withJudged_mem (s : State) (t : Triggers) : (State.withJudged s t).mem = s.mem := rfl
@[simp] theorem withJudged_board (s : State) (t : Triggers) : (State.withJudged s t).board = s.board := rfl
@[simp] theorem withJudged_telem (s : State) (t : Triggers) : (State.withJudged s t).telem = s.telem := rfl
@[simp] theorem withJudged_limits (s : State) (t : Triggers) : (State.withJudged s t).limits = s.limits := rfl
@[simp] theorem withJudged_stance (s : State) (t : Triggers) : (State.withJudged s t).stance = s.stance := rfl
@[simp] theorem withJudged_ctl (s : State) (t : Triggers) : (State.withJudged s t).ctl = s.ctl := rfl
@[simp] theorem withJudged_geo (s : State) (t : Triggers) : (State.withJudged s t).geo = s.geo := rfl
@[simp] theorem withJudged_level (s : State) (t : Triggers) : (State.withJudged s t).level = s.level := rfl
@[simp] theorem withJudged_swap (s : State) (t : Triggers) : (State.withJudged s t).swap = s.swap := rfl
@[simp] theorem withJudged_axes (s : State) (t : Triggers) : (State.withJudged s t).axes = s.axes := rfl
@[simp] theorem withJudged_arb (s : State) (t : Triggers) : (State.withJudged s t).arb = s.arb := rfl
@[simp] theorem withJudged_wind (s : State) (t : Triggers) : (State.withJudged s t).wind = s.wind := rfl
@[simp] theorem withJudged_power (s : State) (t : Triggers) : (State.withJudged s t).power = s.power := rfl

@[simp] theorem withBand_pending (s : State) (b : Nat) : (State.withBand s b).pending = s.pending := rfl
@[simp] theorem withBand_mem (s : State) (b : Nat) : (State.withBand s b).mem = s.mem := rfl
@[simp] theorem withBand_board (s : State) (b : Nat) : (State.withBand s b).board = s.board := rfl
@[simp] theorem withBand_telem (s : State) (b : Nat) : (State.withBand s b).telem = s.telem := rfl
@[simp] theorem withBand_limits (s : State) (b : Nat) : (State.withBand s b).limits = s.limits := rfl
@[simp] theorem withBand_stance (s : State) (b : Nat) : (State.withBand s b).stance = s.stance := rfl
@[simp] theorem withBand_ctl (s : State) (b : Nat) : (State.withBand s b).ctl = s.ctl := rfl
@[simp] theorem withBand_geo (s : State) (b : Nat) : (State.withBand s b).geo = s.geo := rfl
@[simp] theorem withBand_level (s : State) (b : Nat) : (State.withBand s b).level = s.level := rfl
@[simp] theorem withBand_swap (s : State) (b : Nat) : (State.withBand s b).swap = s.swap := rfl
@[simp] theorem withBand_axes (s : State) (b : Nat) : (State.withBand s b).axes = s.axes := rfl
@[simp] theorem withBand_arb (s : State) (b : Nat) : (State.withBand s b).arb = s.arb := rfl
@[simp] theorem withBand_ilk (s : State) (b : Nat) : (State.withBand s b).ilk = s.ilk := rfl
@[simp] theorem withBand_power (s : State) (b : Nat) : (State.withBand s b).power = s.power := rfl

@[simp] theorem withFigure_pending (s : State) (f : Nat) : (State.withFigure s f).pending = s.pending := rfl
@[simp] theorem withFigure_mem (s : State) (f : Nat) : (State.withFigure s f).mem = s.mem := rfl
@[simp] theorem withFigure_board (s : State) (f : Nat) : (State.withFigure s f).board = s.board := rfl
@[simp] theorem withFigure_telem (s : State) (f : Nat) : (State.withFigure s f).telem = s.telem := rfl
@[simp] theorem withFigure_limits (s : State) (f : Nat) : (State.withFigure s f).limits = s.limits := rfl
@[simp] theorem withFigure_stance (s : State) (f : Nat) : (State.withFigure s f).stance = s.stance := rfl
@[simp] theorem withFigure_ctl (s : State) (f : Nat) : (State.withFigure s f).ctl = s.ctl := rfl
@[simp] theorem withFigure_geo (s : State) (f : Nat) : (State.withFigure s f).geo = s.geo := rfl
@[simp] theorem withFigure_level (s : State) (f : Nat) : (State.withFigure s f).level = s.level := rfl
@[simp] theorem withFigure_swap (s : State) (f : Nat) : (State.withFigure s f).swap = s.swap := rfl
@[simp] theorem withFigure_axes (s : State) (f : Nat) : (State.withFigure s f).axes = s.axes := rfl
@[simp] theorem withFigure_arb (s : State) (f : Nat) : (State.withFigure s f).arb = s.arb := rfl
@[simp] theorem withFigure_ilk (s : State) (f : Nat) : (State.withFigure s f).ilk = s.ilk := rfl
@[simp] theorem withFigure_power (s : State) (f : Nat) : (State.withFigure s f).power = s.power := rfl

@[simp] theorem withAnemoLine_pending (s : State) (b : Bool) : (State.withAnemoLine s b).pending = s.pending := rfl
@[simp] theorem withAnemoLine_mem (s : State) (b : Bool) : (State.withAnemoLine s b).mem = s.mem := rfl
@[simp] theorem withAnemoLine_board (s : State) (b : Bool) : (State.withAnemoLine s b).board = s.board := rfl
@[simp] theorem withAnemoLine_telem (s : State) (b : Bool) : (State.withAnemoLine s b).telem = s.telem := rfl
@[simp] theorem withAnemoLine_limits (s : State) (b : Bool) : (State.withAnemoLine s b).limits = s.limits := rfl
@[simp] theorem withAnemoLine_stance (s : State) (b : Bool) : (State.withAnemoLine s b).stance = s.stance := rfl
@[simp] theorem withAnemoLine_ctl (s : State) (b : Bool) : (State.withAnemoLine s b).ctl = s.ctl := rfl
@[simp] theorem withAnemoLine_geo (s : State) (b : Bool) : (State.withAnemoLine s b).geo = s.geo := rfl
@[simp] theorem withAnemoLine_level (s : State) (b : Bool) : (State.withAnemoLine s b).level = s.level := rfl
@[simp] theorem withAnemoLine_swap (s : State) (b : Bool) : (State.withAnemoLine s b).swap = s.swap := rfl
@[simp] theorem withAnemoLine_axes (s : State) (b : Bool) : (State.withAnemoLine s b).axes = s.axes := rfl
@[simp] theorem withAnemoLine_arb (s : State) (b : Bool) : (State.withAnemoLine s b).arb = s.arb := rfl
@[simp] theorem withAnemoLine_ilk (s : State) (b : Bool) : (State.withAnemoLine s b).ilk = s.ilk := rfl
@[simp] theorem withAnemoLine_power (s : State) (b : Bool) : (State.withAnemoLine s b).power = s.power := rfl

@[simp] theorem withLines_pending (s : State) (l : Lines) : (State.withLines s l).pending = s.pending := rfl
@[simp] theorem withLines_mem (s : State) (l : Lines) : (State.withLines s l).mem = s.mem := rfl
@[simp] theorem withLines_board (s : State) (l : Lines) : (State.withLines s l).board = s.board := rfl
@[simp] theorem withLines_telem (s : State) (l : Lines) : (State.withLines s l).telem = s.telem := rfl
@[simp] theorem withLines_limits (s : State) (l : Lines) : (State.withLines s l).limits = s.limits := rfl
@[simp] theorem withLines_stance (s : State) (l : Lines) : (State.withLines s l).stance = s.stance := rfl
@[simp] theorem withLines_ctl (s : State) (l : Lines) : (State.withLines s l).ctl = s.ctl := rfl
@[simp] theorem withLines_geo (s : State) (l : Lines) : (State.withLines s l).geo = s.geo := rfl
@[simp] theorem withLines_level (s : State) (l : Lines) : (State.withLines s l).level = s.level := rfl
@[simp] theorem withLines_swap (s : State) (l : Lines) : (State.withLines s l).swap = s.swap := rfl
@[simp] theorem withLines_axes (s : State) (l : Lines) : (State.withLines s l).axes = s.axes := rfl
@[simp] theorem withLines_arb (s : State) (l : Lines) : (State.withLines s l).arb = s.arb := rfl
@[simp] theorem withLines_wind (s : State) (l : Lines) : (State.withLines s l).wind = s.wind := rfl
@[simp] theorem withLines_power (s : State) (l : Lines) : (State.withLines s l).power = s.power := rfl

@[simp] theorem placeRequest_pending (s : State) (r : Request) : (placeRequest s r).pending = s.pending := rfl
@[simp] theorem placeRequest_mem (s : State) (r : Request) : (placeRequest s r).mem = s.mem := rfl
@[simp] theorem placeRequest_board (s : State) (r : Request) : (placeRequest s r).board = s.board := rfl
@[simp] theorem placeRequest_telem (s : State) (r : Request) : (placeRequest s r).telem = s.telem := rfl
@[simp] theorem placeRequest_limits (s : State) (r : Request) : (placeRequest s r).limits = s.limits := rfl
@[simp] theorem placeRequest_stance (s : State) (r : Request) : (placeRequest s r).stance = s.stance := rfl
@[simp] theorem placeRequest_ctl (s : State) (r : Request) : (placeRequest s r).ctl = s.ctl := rfl
@[simp] theorem placeRequest_geo (s : State) (r : Request) : (placeRequest s r).geo = s.geo := rfl
@[simp] theorem placeRequest_level (s : State) (r : Request) : (placeRequest s r).level = s.level := rfl
@[simp] theorem placeRequest_swap (s : State) (r : Request) : (placeRequest s r).swap = s.swap := rfl
@[simp] theorem placeRequest_axes (s : State) (r : Request) : (placeRequest s r).axes = s.axes := rfl
@[simp] theorem placeRequest_wind (s : State) (r : Request) : (placeRequest s r).wind = s.wind := rfl
@[simp] theorem placeRequest_ilk (s : State) (r : Request) : (placeRequest s r).ilk = s.ilk := rfl
@[simp] theorem placeRequest_power (s : State) (r : Request) : (placeRequest s r).power = s.power := rfl

@[simp] theorem dropRequest_pending (s : State) (a : Axis) : (dropRequest s a).pending = s.pending := rfl
@[simp] theorem dropRequest_mem (s : State) (a : Axis) : (dropRequest s a).mem = s.mem := rfl
@[simp] theorem dropRequest_board (s : State) (a : Axis) : (dropRequest s a).board = s.board := rfl
@[simp] theorem dropRequest_telem (s : State) (a : Axis) : (dropRequest s a).telem = s.telem := rfl
@[simp] theorem dropRequest_limits (s : State) (a : Axis) : (dropRequest s a).limits = s.limits := rfl
@[simp] theorem dropRequest_stance (s : State) (a : Axis) : (dropRequest s a).stance = s.stance := rfl
@[simp] theorem dropRequest_ctl (s : State) (a : Axis) : (dropRequest s a).ctl = s.ctl := rfl
@[simp] theorem dropRequest_geo (s : State) (a : Axis) : (dropRequest s a).geo = s.geo := rfl
@[simp] theorem dropRequest_level (s : State) (a : Axis) : (dropRequest s a).level = s.level := rfl
@[simp] theorem dropRequest_swap (s : State) (a : Axis) : (dropRequest s a).swap = s.swap := rfl
@[simp] theorem dropRequest_axes (s : State) (a : Axis) : (dropRequest s a).axes = s.axes := rfl
@[simp] theorem dropRequest_wind (s : State) (a : Axis) : (dropRequest s a).wind = s.wind := rfl
@[simp] theorem dropRequest_ilk (s : State) (a : Axis) : (dropRequest s a).ilk = s.ilk := rfl
@[simp] theorem dropRequest_power (s : State) (a : Axis) : (dropRequest s a).power = s.power := rfl

@[simp] theorem dropGrant_pending (s : State) (a : Axis) : (dropGrant s a).pending = s.pending := rfl
@[simp] theorem dropGrant_mem (s : State) (a : Axis) : (dropGrant s a).mem = s.mem := rfl
@[simp] theorem dropGrant_board (s : State) (a : Axis) : (dropGrant s a).board = s.board := rfl
@[simp] theorem dropGrant_telem (s : State) (a : Axis) : (dropGrant s a).telem = s.telem := rfl
@[simp] theorem dropGrant_limits (s : State) (a : Axis) : (dropGrant s a).limits = s.limits := rfl
@[simp] theorem dropGrant_stance (s : State) (a : Axis) : (dropGrant s a).stance = s.stance := rfl
@[simp] theorem dropGrant_ctl (s : State) (a : Axis) : (dropGrant s a).ctl = s.ctl := rfl
@[simp] theorem dropGrant_geo (s : State) (a : Axis) : (dropGrant s a).geo = s.geo := rfl
@[simp] theorem dropGrant_level (s : State) (a : Axis) : (dropGrant s a).level = s.level := rfl
@[simp] theorem dropGrant_swap (s : State) (a : Axis) : (dropGrant s a).swap = s.swap := rfl
@[simp] theorem dropGrant_axes (s : State) (a : Axis) : (dropGrant s a).axes = s.axes := rfl
@[simp] theorem dropGrant_wind (s : State) (a : Axis) : (dropGrant s a).wind = s.wind := rfl
@[simp] theorem dropGrant_ilk (s : State) (a : Axis) : (dropGrant s a).ilk = s.ilk := rfl
@[simp] theorem dropGrant_power (s : State) (a : Axis) : (dropGrant s a).power = s.power := rfl

@[simp] theorem writeResult_pending (s : State) (n : Slot) (c : Code) (w : Warnings) (d : List Byte) : (writeResult s n c w d).pending = s.pending := rfl
@[simp] theorem writeResult_telem (s : State) (n : Slot) (c : Code) (w : Warnings) (d : List Byte) : (writeResult s n c w d).telem = s.telem := rfl
@[simp] theorem writeResult_limits (s : State) (n : Slot) (c : Code) (w : Warnings) (d : List Byte) : (writeResult s n c w d).limits = s.limits := rfl
@[simp] theorem writeResult_stance (s : State) (n : Slot) (c : Code) (w : Warnings) (d : List Byte) : (writeResult s n c w d).stance = s.stance := rfl
@[simp] theorem writeResult_ctl (s : State) (n : Slot) (c : Code) (w : Warnings) (d : List Byte) : (writeResult s n c w d).ctl = s.ctl := rfl
@[simp] theorem writeResult_geo (s : State) (n : Slot) (c : Code) (w : Warnings) (d : List Byte) : (writeResult s n c w d).geo = s.geo := rfl
@[simp] theorem writeResult_level (s : State) (n : Slot) (c : Code) (w : Warnings) (d : List Byte) : (writeResult s n c w d).level = s.level := rfl
@[simp] theorem writeResult_swap (s : State) (n : Slot) (c : Code) (w : Warnings) (d : List Byte) : (writeResult s n c w d).swap = s.swap := rfl
@[simp] theorem writeResult_axes (s : State) (n : Slot) (c : Code) (w : Warnings) (d : List Byte) : (writeResult s n c w d).axes = s.axes := rfl
@[simp] theorem writeResult_arb (s : State) (n : Slot) (c : Code) (w : Warnings) (d : List Byte) : (writeResult s n c w d).arb = s.arb := rfl
@[simp] theorem writeResult_wind (s : State) (n : Slot) (c : Code) (w : Warnings) (d : List Byte) : (writeResult s n c w d).wind = s.wind := rfl
@[simp] theorem writeResult_ilk (s : State) (n : Slot) (c : Code) (w : Warnings) (d : List Byte) : (writeResult s n c w d).ilk = s.ilk := rfl
@[simp] theorem writeResult_power (s : State) (n : Slot) (c : Code) (w : Warnings) (d : List Byte) : (writeResult s n c w d).power = s.power := rfl

@[simp] theorem complete_pending (s : State) (c : OpenCommand) (k : Code) : (complete s c k).pending = s.pending := rfl
@[simp] theorem complete_telem (s : State) (c : OpenCommand) (k : Code) : (complete s c k).telem = s.telem := rfl
@[simp] theorem complete_limits (s : State) (c : OpenCommand) (k : Code) : (complete s c k).limits = s.limits := rfl
@[simp] theorem complete_stance (s : State) (c : OpenCommand) (k : Code) : (complete s c k).stance = s.stance := rfl
@[simp] theorem complete_ctl (s : State) (c : OpenCommand) (k : Code) : (complete s c k).ctl = s.ctl := rfl
@[simp] theorem complete_geo (s : State) (c : OpenCommand) (k : Code) : (complete s c k).geo = s.geo := rfl
@[simp] theorem complete_level (s : State) (c : OpenCommand) (k : Code) : (complete s c k).level = s.level := rfl
@[simp] theorem complete_swap (s : State) (c : OpenCommand) (k : Code) : (complete s c k).swap = s.swap := rfl
@[simp] theorem complete_axes (s : State) (c : OpenCommand) (k : Code) : (complete s c k).axes = s.axes := rfl
@[simp] theorem complete_arb (s : State) (c : OpenCommand) (k : Code) : (complete s c k).arb = s.arb := rfl
@[simp] theorem complete_wind (s : State) (c : OpenCommand) (k : Code) : (complete s c k).wind = s.wind := rfl
@[simp] theorem complete_ilk (s : State) (c : OpenCommand) (k : Code) : (complete s c k).ilk = s.ilk := rfl
@[simp] theorem complete_power (s : State) (c : OpenCommand) (k : Code) : (complete s c k).power = s.power := rfl

@[simp] theorem engageLock_pending (s : State) (b : Bool) : (engageLock s b).pending = s.pending := rfl
@[simp] theorem engageLock_mem (s : State) (b : Bool) : (engageLock s b).mem = s.mem := rfl
@[simp] theorem engageLock_board (s : State) (b : Bool) : (engageLock s b).board = s.board := rfl
@[simp] theorem engageLock_telem (s : State) (b : Bool) : (engageLock s b).telem = s.telem := rfl
@[simp] theorem engageLock_limits (s : State) (b : Bool) : (engageLock s b).limits = s.limits := rfl
@[simp] theorem engageLock_stance (s : State) (b : Bool) : (engageLock s b).stance = s.stance := rfl
@[simp] theorem engageLock_ctl (s : State) (b : Bool) : (engageLock s b).ctl = s.ctl := rfl
@[simp] theorem engageLock_geo (s : State) (b : Bool) : (engageLock s b).geo = s.geo := rfl
@[simp] theorem engageLock_level (s : State) (b : Bool) : (engageLock s b).level = s.level := rfl
@[simp] theorem engageLock_swap (s : State) (b : Bool) : (engageLock s b).swap = s.swap := rfl
@[simp] theorem engageLock_arb (s : State) (b : Bool) : (engageLock s b).arb = s.arb := rfl
@[simp] theorem engageLock_wind (s : State) (b : Bool) : (engageLock s b).wind = s.wind := rfl
@[simp] theorem engageLock_ilk (s : State) (b : Bool) : (engageLock s b).ilk = s.ilk := rfl
@[simp] theorem engageLock_power (s : State) (b : Bool) : (engageLock s b).power = s.power := rfl

@[simp] theorem popIntake_intake (s : State) : (popIntake s).board.intake = s.board.intake.tail := rfl
@[simp] theorem popIntake_openSet (s : State) : (popIntake s).board.openSet = s.board.openSet := rfl
@[simp] theorem popIntake_control (s : State) : (popIntake s).board.control = s.board.control := rfl
@[simp] theorem popIntake_notice (s : State) : (popIntake s).board.notice = s.board.notice := rfl
@[simp] theorem popIntake_headerSeq (s : State) : (popIntake s).board.headerSeq = s.board.headerSeq := rfl
@[simp] theorem openCommand_openSet (s : State) (c : OpenCommand) :
    (openCommand s c).board.openSet = s.board.openSet ++ [c] := rfl
@[simp] theorem withPeakPending_stance (s : State) (b : Bool) :
    (s.withPeakPending b).stance = { s.stance with peakPending := b } := rfl
@[simp] theorem withMastGoal_stance (s : State) (h : Int) :
    (s.withMastGoal h).stance = { s.stance with mastGoal := h } := rfl
@[simp] theorem withGoalAtRest_ctl (s : State) (g : Option GoalAtRest) :
    (s.withGoalAtRest g).ctl = { s.ctl with goalAtRest := g } := rfl
@[simp] theorem withUpwardDue_ctl (s : State) (b : Bool) :
    (s.withUpwardDue b).ctl = { s.ctl with upwardDue := b } := rfl
@[simp] theorem writeDishGoal_stance (s : State) (g : DishGoal) :
    (writeDishGoal s g).stance = { s.stance with dishGoal := g } := rfl
@[simp] theorem writeDishGoal_ctl (s : State) (g : DishGoal) :
    (writeDishGoal s g).ctl = { s.ctl with touchUpMark := false, signalLost := false } := rfl
@[simp] theorem setEff_ctl (s : State) : (setEff s).ctl = { s.ctl with effTarget := effectiveTarget s } := rfl
@[simp] theorem withSearch_search (s : State) (c : Search) : (s.withSearch c).level.search = some c := rfl
@[simp] theorem dropGrant_waits (s : State) (a : Axis) : (dropGrant s a).arb.waits = s.arb.waits := rfl
@[simp] theorem dropRequest_grants (s : State) (a : Axis) : (dropRequest s a).arb.grants = s.arb.grants := rfl
@[simp] theorem engageLock_lock (s : State) (b : Bool) : (engageLock s b).axes.lock = .engaging := rfl
@[simp] theorem engageLock_phase (s : State) (b : Bool) : (engageLock s b).axes.mast.phase = .engaging := rfl

/-! ## Adopted heights (R1) and takes that write the header (R162) -/

theorem adoptedHeight_eq (x : Int) : adoptedHeight x = max 0 (min 15000 x) := by
  show clampInt 0 15000 x = _
  unfold clampInt
  by_cases low : x < 0
  · rw [if_pos low]
    omega
  · rw [if_neg low]
    by_cases high : 15000 < x
    · rw [if_pos high]
      omega
    · rw [if_neg high]
      omega

theorem adoptedHeight_range (x : Int) : 0 ≤ adoptedHeight x ∧ adoptedHeight x ≤ 15000 := by
  rw [adoptedHeight_eq]
  omega

/-- An extension within the travel is adopted as it is. -/
theorem adoptedHeight_self (x : Int) (h : 0 ≤ x) (k : x ≤ 15000) : adoptedHeight x = x := by
  rw [adoptedHeight_eq]
  omega

/-- A take that writes the header in any case is the take with its consequences, and one header write. -/
theorem takeWriting_spec (k : Kind) (accepts : Slot → Bool) (own : State → Slot → State)
    (fields : State → List (Nat × List Byte)) (s : State) : ∃ also,
    takeWriting k accepts own fields s = updateHeaderWith s (settle (take k own s)) also ∧
    (also = [] ∨ ∃ n, takeSteps s k = .passed n ∧ accepts n = true ∧ also = fields (settle (take k own s))) := by
  unfold takeWriting
  split
  · rename_i n h
    cases hn : accepts n
    · exact ⟨[], by simp, .inl rfl⟩
    · exact ⟨_, by simp, .inr ⟨n, h, hn, rfl⟩⟩
  all_goals exact ⟨[], rfl, .inl rfl⟩

/-! ## The search of a command that ends it -/

/-- Stopping a search leaves alone everything but the level, the stance's flag and the open set's search fields. -/
theorem stopSearch_same (s : State) (o : SearchOutcome) (keep : Bool) :
    let u := stopSearch s o keep
    u.pending = s.pending ∧ u.mem = s.mem ∧ u.telem = s.telem ∧ u.limits = s.limits ∧ u.ctl = s.ctl ∧ u.geo = s.geo ∧
      u.swap = s.swap ∧ u.axes = s.axes ∧ u.arb = s.arb ∧ u.wind = s.wind ∧ u.ilk = s.ilk ∧ u.power = s.power ∧
      u.board.intake = s.board.intake ∧ u.board.control = s.board.control ∧ u.board.notice = s.board.notice ∧
      u.board.headerSeq = s.board.headerSeq := by
  unfold stopSearch tellSearch
  cases k : s.level.search with
  | none => simp [dropSearch, k]
  | some c => cases keep <;> by_cases h : c.kind = .full <;> simp [h, updateOpen, dropSearch, k]

/-- No search runs after one is stopped. -/
@[simp] theorem stopSearch_search (s : State) (o : SearchOutcome) (keep : Bool) :
    (stopSearch s o keep).level.search = none := by
  unfold stopSearch dropSearch
  split
  · assumption
  · cases keep <;> simp

/-! ## The grant check (R118) -/

theorem startGranted_arb (s : State) (a : Axis) : (startGranted s a).arb = s.arb := by
  cases a <;> simp [startGranted]
  split <;> rfl

/-- A granted axis starts, and no other axis is touched. -/
theorem startGranted_other (s : State) (a b : Axis) (h : b ≠ a) : (startGranted s a).axis b = s.axis b := by
  cases a
  · simp only [startGranted]
    split
    · exact axis_withAxis_other _ _ _ _ h
    · have := axis_withAxis_other s .mast b
        { s.axes.mast with phase := .releasing, stop := none, arrived := false } h
      cases b
      · exact absurd rfl h
      all_goals exact this
  all_goals exact axis_withAxis_other _ _ _ _ h

end Sys2Proof.Machine
end

