-- ==== Sys2Proof/Laws/Board.lean ====
section
/-! SUPPORT. The Board Manager's shared operations, said once: what writing a result does, what ending the open
commands that meet a condition does, and what the end of a search leaves alone. -/
namespace Sys2Proof.Machine

/-! ## Writing a result -/

/-- The fields of a result. -/
def resultFields (n : Slot) (c : Code) (w : Warnings) (data : List Byte) : List (Nat × List Byte) :=
  [(slotAddr n + 4, leBytes 1 c.toNat), (slotAddr n + 5, [w.toByte]), (slotAddr n + 40, padBytes 24 data),
   (slotAddr n, [0])]

theorem writeResult_mem (s : State) (n : Slot) (c : Code) (w : Warnings) (data : List Byte) :
    (writeResult s n c w data).mem = writeFields s.mem (resultFields n c w data) := rfl

theorem writeResult_openSet (s : State) (n : Slot) (c : Code) (w : Warnings) (data : List Byte) :
    (writeResult s n c w data).board.openSet = s.board.openSet := rfl

theorem writeResult_notice (s : State) (n : Slot) (c : Code) (w : Warnings) (data : List Byte) :
    (writeResult s n c w data).board.notice = s.board.notice ||| BitVec.ofNat 16 (2 ^ n.val) := rfl

theorem writeResult_wf (s : State) (n : Slot) (c : Code) (w : Warnings) (data : List Byte)
    (h : Memory.wf s.mem = true) : Memory.wf (writeResult s n c w data).mem = true := writeFields_wf _ _ h

theorem slotBit_self (n : Slot) : (BitVec.ofNat 16 (2 ^ n.val)).getLsbD n.val = true := by
  revert n
  decide

/-- A result changes no byte but those of a result in its slot. -/
theorem writeResult_other (s : State) (n : Slot) (c : Code) (w : Warnings) (data : List Byte) (a : Nat)
    (h : ¬ resultByte n a) : read8 (writeResult s n c w data).mem a = read8 s.mem a := by
  rw [writeResult_mem]
  apply read8_writeFields_other
  intro f hf
  simp only [resultByte, not_or, not_and, not_lt] at h
  obtain ⟨h0, h4, h5, h6⟩ := h
  simp only [resultFields, List.mem_cons, List.not_mem_nil, or_false] at hf
  rcases hf with rfl | rfl | rfl | rfl <;> simp <;> omega

theorem code_lt (c : Code) : c.toNat < 256 := by cases c <;> decide

/-- A result answers its slot. -/
theorem writeResult_answered (s : State) (n : Slot) (c : Code) (w : Warnings) (data : List Byte)
    (h : Memory.wf s.mem = true) : Answered (writeResult s n c w data) n c.toNat := by
  refine ⟨?_, ?_, ?_⟩
  · have hw : Memory.wf (writeFields s.mem [(slotAddr n + 4, leBytes 1 c.toNat), (slotAddr n + 5, [w.toByte]),
        (slotAddr n + 40, padBytes 24 data)]) = true := writeFields_wf _ _ h
    have := read8_write8_same _ (slotAddr n) 0 hw
    simp only [slotOwner, readU8, writeResult_mem, resultFields]
    simp only [writeFields, writeBytes] at this ⊢
    rw [this]
    rfl
  · have hw := write8_wf s.mem (slotAddr n + 4) (BitVec.ofNat 8 c.toNat) h
    have h1 : read8 (writeFields (write8 s.mem (slotAddr n + 4) (BitVec.ofNat 8 c.toNat))
        [(slotAddr n + 5, [w.toByte]), (slotAddr n + 40, padBytes 24 data), (slotAddr n, [0])]) (slotAddr n + 4) =
        BitVec.ofNat 8 c.toNat := by
      rw [read8_writeFields_other, read8_write8_same _ _ _ h]
      intro f hf
      simp only [List.mem_cons, List.not_mem_nil, or_false] at hf
      rcases hf with rfl | rfl | rfl <;> simp
    simp only [readU8, writeResult_mem, resultFields]
    have e : writeFields s.mem [(slotAddr n + 4, leBytes 1 c.toNat), (slotAddr n + 5, [w.toByte]),
        (slotAddr n + 40, padBytes 24 data), (slotAddr n, [0])] =
        writeFields (write8 s.mem (slotAddr n + 4) (BitVec.ofNat 8 c.toNat))
          [(slotAddr n + 5, [w.toByte]), (slotAddr n + 40, padBytes 24 data), (slotAddr n, [0])] := rfl
    rw [e, h1]
    simpa using Nat.mod_eq_of_lt (code_lt c)
  · rw [writeResult_notice, BitVec.getLsbD_or, slotBit_self, Bool.or_true]

/-- The results of two slots share no byte. -/
theorem resultByte_slots (m n : Slot) (a : Nat) (hm : resultByte m a) (hn : resultByte n a) : m = n := by
  apply Fin.ext
  simp only [resultByte, slotAddr, Config.slotBase] at hm hn
  omega

/-- A result in another slot leaves an answer standing. -/
theorem answered_writeResult (s : State) (m n : Slot) (c : Code) (w : Warnings) (data : List Byte) (k : Nat)
    (hne : m ≠ n) (h : Answered s n k) : Answered (writeResult s m c w data) n k := by
  obtain ⟨h0, h1, h2⟩ := h
  have ho : ∀ a, resultByte n a → read8 (writeResult s m c w data).mem a = read8 s.mem a :=
    fun a ha => writeResult_other _ _ _ _ _ _ (fun hm => hne (resultByte_slots m n a hm ha))
  refine ⟨?_, ?_, ?_⟩
  · simpa [slotOwner, readU8, ho _ (Or.inl rfl)] using h0
  · simpa [readU8, ho _ (Or.inr (Or.inl rfl))] using h1
  · rw [writeResult_notice, BitVec.getLsbD_or, h2, Bool.true_or]

/-! ## Ending open commands -/

theorem mem_allSlots (n : Slot) : n ∈ allSlots := by revert n; decide

theorem mem_openWhere (s : State) (p : OpenCommand → Bool) (c : OpenCommand) :
    c ∈ openWhere s p ↔ c ∈ s.board.openSet ∧ p c = true := by
  simp only [openWhere, List.mem_flatMap, List.mem_filter, Bool.and_eq_true, beq_iff_eq]
  constructor
  · rintro ⟨n, -, h, -, hp⟩
    exact ⟨h, hp⟩
  · rintro ⟨h, hp⟩
    exact ⟨c.slot, mem_allSlots _, h, rfl, hp⟩

theorem complete_openSet (s : State) (c : OpenCommand) (code : Code) :
    (complete s c code).board.openSet = s.board.openSet.filter (fun d => d.slot != c.slot) := rfl

/-- Everything that completing a list of open commands leaves alone. -/
theorem foldComplete_same (l : List OpenCommand) (s : State) (code : Code) :
    let u := l.foldl (fun t c => complete t c code) s
    u.pending = s.pending ∧ u.telem = s.telem ∧ u.limits = s.limits ∧ u.stance = s.stance ∧ u.ctl = s.ctl ∧
      u.geo = s.geo ∧ u.level = s.level ∧ u.swap = s.swap ∧ u.axes = s.axes ∧ u.arb = s.arb ∧ u.wind = s.wind ∧
      u.ilk = s.ilk ∧ u.power = s.power ∧ u.board.intake = s.board.intake ∧ u.board.control = s.board.control ∧
      u.board.headerSeq = s.board.headerSeq := by
  induction l generalizing s with
  | nil => simp
  | cons c l ih => exact ih (complete s c code)

theorem foldComplete_openSet (l : List OpenCommand) (s : State) (code : Code) :
    (l.foldl (fun t c => complete t c code) s).board.openSet =
      s.board.openSet.filter (fun d => !(l.any (fun c => c.slot == d.slot))) := by
  induction l generalizing s with
  | nil => simp
  | cons c l ih =>
    rw [List.foldl_cons, ih, complete_openSet, List.filter_filter]
    congr 1
    funext d
    simp only [List.any_cons, Bool.not_or]
    rw [Bool.and_comm]
    congr 1
    rw [bne, Bool.beq_comm (a := d.slot)]

theorem foldComplete_other (l : List OpenCommand) (s : State) (code : Code) (a : Nat)
    (h : ∀ c ∈ l, ¬ resultByte c.slot a) :
    read8 (l.foldl (fun t c => complete t c code) s).mem a = read8 s.mem a := by
  induction l generalizing s with
  | nil => rfl
  | cons c l ih =>
    rw [List.foldl_cons, ih _ (fun d hd => h d (by simp [hd]))]
    exact writeResult_other _ _ _ _ _ _ (h c (by simp))

theorem foldComplete_wf (l : List OpenCommand) (s : State) (code : Code) (h : Memory.wf s.mem = true) :
    Memory.wf (l.foldl (fun t c => complete t c code) s).mem = true := by
  induction l generalizing s with
  | nil => exact h
  | cons c l ih => exact ih _ (writeResult_wf _ _ _ _ _ h)

theorem foldComplete_keeps (l : List OpenCommand) (s : State) (code : Code) (n : Slot) (h : Memory.wf s.mem = true)
    (ha : Answered s n code.toNat) : Answered (l.foldl (fun t c => complete t c code) s) n code.toNat := by
  induction l generalizing s with
  | nil => exact ha
  | cons c l ih =>
    refine ih _ (writeResult_wf _ _ _ _ _ h) ?_
    by_cases hc : c.slot = n
    · exact hc ▸ writeResult_answered _ _ _ _ _ h
    · exact answered_writeResult _ _ _ _ _ _ _ hc ha

theorem foldComplete_answered (l : List OpenCommand) (s : State) (code : Code) (h : Memory.wf s.mem = true) :
    ∀ c ∈ l, Answered (l.foldl (fun t c => complete t c code) s) c.slot code.toNat := by
  induction l generalizing s with
  | nil => intro c hc; cases hc
  | cons d l ih =>
    intro c hc
    have hw : Memory.wf (complete s d code).mem = true := writeResult_wf _ _ _ _ _ h
    rcases List.mem_cons.mp hc with rfl | hc
    · exact foldComplete_keeps l _ code _ hw (writeResult_answered _ _ _ _ _ h)
    · exact ih _ hw c hc

/-- What ending the open commands that meet a condition leaves alone. -/
theorem endWhere_same (s : State) (p : OpenCommand → Bool) (code : Code) :
    let u := endWhere s p code
    u.pending = s.pending ∧ u.telem = s.telem ∧ u.limits = s.limits ∧ u.stance = s.stance ∧ u.ctl = s.ctl ∧
      u.geo = s.geo ∧ u.level = s.level ∧ u.swap = s.swap ∧ u.axes = s.axes ∧ u.arb = s.arb ∧ u.wind = s.wind ∧
      u.ilk = s.ilk ∧ u.power = s.power ∧ u.board.intake = s.board.intake ∧ u.board.control = s.board.control ∧
      u.board.headerSeq = s.board.headerSeq := foldComplete_same _ s code

/-- The open set after ending commands: those that do not meet the condition, in their order. -/
theorem endWhere_openSet (s : State) (p : OpenCommand → Bool) (code : Code)
    (h : (s.board.openSet.map (·.slot)).Nodup) :
    (endWhere s p code).board.openSet = s.board.openSet.filter (fun c => !p c) := by
  rw [endWhere, foldComplete_openSet]
  apply List.filter_congr
  intro d hd
  congr 1
  rw [Bool.eq_iff_iff, List.any_eq_true]
  constructor
  · rintro ⟨c, hc, he⟩
    rw [mem_openWhere] at hc
    have : c = d := List.inj_on_of_nodup_map h hc.1 hd (by simpa using he)
    exact this ▸ hc.2
  · intro hp
    exact ⟨d, (mem_openWhere s p d).mpr ⟨hd, hp⟩, by simp⟩

/-- The commands ended are answered, and nothing else is stored. -/
theorem endWhere_ended (s : State) (p : OpenCommand → Bool) (code : Code) (h : Memory.wf s.mem = true) :
    Ended s (endWhere s p code) p code := by
  refine ⟨fun c hc hp => foldComplete_answered _ s code h c ((mem_openWhere s p c).mpr ⟨hc, hp⟩), fun a ha => ?_⟩
  exact foldComplete_other _ s code a (fun c hc => ha c ((mem_openWhere s p c).mp hc).1 ((mem_openWhere s p c).mp hc).2)

theorem endWhere_wf (s : State) (p : OpenCommand → Bool) (code : Code) (h : Memory.wf s.mem = true) :
    Memory.wf (endWhere s p code).mem = true := foldComplete_wf _ s code h

/-! ## The common steps of a take -/

/-- A take that reaches its owning block. -/
theorem takeSteps_passed (s : State) (k : Kind) (n : Slot) (h : Taken s k n) : takeSteps s k = .passed n := by
  obtain ⟨hr, hs, hi, ho, hk, hc, hg⟩ := h
  cases hl : s.board.intake with
  | nil => rw [hl] at hi; cases hi
  | cons m l =>
    rw [hl] at hi
    obtain rfl : m = n := by simpa using hi
    simp [takeSteps, takesAllowed, hr, hs, hl, ho, hk, hc, hg]

theorem take_passed (s : State) (k : Kind) (own : State → Slot → State) (n : Slot) (h : Taken s k n) :
    take k own s = own (popIntake s) n := by
  simp [take, takeSteps_passed s k n h]

/-! ## The end of a search (R74, R76) -/

/-- What the end of a search, with the commands whose search it was, leaves alone. -/
theorem endSearch_same (s : State) (o : SearchOutcome) (code : Code) :
    let u := endSearch s o code
    u.pending = s.pending ∧ u.telem = s.telem ∧ u.limits = s.limits ∧ u.ctl = s.ctl ∧ u.geo = s.geo ∧ u.swap = s.swap ∧
      u.axes = s.axes ∧ u.arb = s.arb ∧ u.wind = s.wind ∧ u.ilk = s.ilk ∧ u.power = s.power := by
  obtain ⟨p, -, t, l, c, g, w, x, b, d, i, z, -⟩ := stopSearch_same s o false
  unfold endSearch
  cases s.level.search with
  | none => simp
  | some r =>
    by_cases h : r.kind = .full
    · obtain ⟨p', t', l', -, c', g', -, w', x', b', d', i', z', -⟩ := endWhere_same (stopSearch s o false) ownsSearch code
      simp [*]
    · simp [*]

/-- The end of a search writes peak pending alone of the stance (R13). -/
theorem endSearch_stance (s : State) (o : SearchOutcome) (code : Code) (h : s.level.search.isSome = true) :
    (endSearch s o code).stance = { s.stance with peakPending := false } := by
  unfold endSearch stopSearch tellSearch
  cases k : s.level.search with
  | none => simp [k] at h
  | some c =>
    by_cases e : c.kind = .full <;>
      simp [e, updateOpen, dropSearch, k, State.withPeakPending, (endWhere_same _ _ _).2.2.2.1]

/-- Without a running search nothing is abandoned. -/
theorem abandonForHeight_idle (s : State) (h : s.level.search = none) : abandonForHeight s = s := by
  simp [abandonForHeight, h]

/-- The effective target rests on the mode, the mast goal, the limits, the wind and the axes alone (R8). -/
theorem effectiveTarget_congr {s u : State} (m : u.ctl.mode = s.ctl.mode) (g : u.stance.mastGoal = s.stance.mastGoal)
    (l : u.limits = s.limits) (w : u.wind = s.wind) (x : u.axes = s.axes) : effectiveTarget u = effectiveTarget s := by
  unfold effectiveTarget heldAtNest nestFloor lesserClaim effCeiling drivingMode inWindow extension
  rw [m, g, l, w, x]

/-- The abandoning of a search changes nothing that the effective target rests on (R8, R76). -/
theorem abandonForHeight_effectiveTarget (s : State) : effectiveTarget (abandonForHeight s) = effectiveTarget s := by
  unfold abandonForHeight
  split
  · rename_i h
    obtain ⟨-, -, l, c, -, -, x, -, w, -⟩ := endSearch_same s .abandoned .ok
    refine effectiveTarget_congr ?_ ?_ l w x
    · simp [State.withMark, c]
    · simp [State.withMark, endSearch_stance s .abandoned .ok h]
  · rfl

end Sys2Proof.Machine
end

