-- ==== Sys2Proof/Laws/Kept.lean ====
section
/-! SUPPORT. What the parts common to all events leave alone. `State.kept` gathers it: the queue, telemetry, limits,
wind, power, the fix and its generation, the lines and the attitude, the intake list and CONTROL, the switches, and what
the encoders show. One lemma for each shared operation says that it keeps all of that, and the last lemmas say the same
of the whole of `settle` and of `endEvent`. -/
namespace Sys2Proof.Machine

/-- What an encoder has shown: the position, its valid flags, and the last valid position. -/
def AxisState.sensed (x : AxisState) : Int × Bool × Bool × Int := (x.position, x.encValid, x.everValid, x.lastValid)

structure Kept where
  pending : List Instr
  telem : Telemetry
  limits : Limits
  wind : Wind
  power : Power
  fix : Option Fix
  fixGen : Nat
  lines : Lines
  pitch : Int
  roll : Int
  inclValid : Bool
  intake : List Slot
  control : Word16
  tripped : Switches
  contacts : Switches
  mast : Int × Bool × Bool × Int
  pan : Int × Bool × Bool × Int
  tilt : Int × Bool × Bool × Int
  pol : Int × Bool × Bool × Int

def State.kept (s : State) : Kept where
  pending := s.pending
  telem := s.telem
  limits := s.limits
  wind := s.wind
  power := s.power
  fix := s.geo.fix
  fixGen := s.geo.fixGen
  lines := s.ilk.lines
  pitch := s.ilk.pitch
  roll := s.ilk.roll
  inclValid := s.ilk.inclValid
  intake := s.board.intake
  control := s.board.control
  tripped := s.axes.tripped
  contacts := s.axes.contacts
  mast := s.axes.mast.sensed
  pan := s.axes.pan.sensed
  tilt := s.axes.tilt.sensed
  pol := s.axes.pol.sensed

def Kept.axis (k : Kept) : Axis → Int × Bool × Bool × Int
  | .mast => k.mast
  | .pan => k.pan
  | .tilt => k.tilt
  | .pol => k.pol

@[simp] theorem sensed_axis (s : State) (a : Axis) : (s.axis a).sensed = s.kept.axis a := by cases a <;> rfl
@[simp] theorem sensed_mast (s : State) : s.axes.mast.sensed = s.kept.mast := rfl
@[simp] theorem sensed_pan (s : State) : s.axes.pan.sensed = s.kept.pan := rfl
@[simp] theorem sensed_tilt (s : State) : s.axes.tilt.sensed = s.kept.tilt := rfl
@[simp] theorem sensed_pol (s : State) : s.axes.pol.sensed = s.kept.pol := rfl
@[simp] theorem kept_axis_mast (k : Kept) : k.axis .mast = k.mast := rfl

@[simp] theorem sensed_mk (p t l : Int) (v e a f k : Bool) (ph : Phase) (d : Option Nat) (st : Option StopKind)
    (n : Option (Int × Priority)) : AxisState.sensed ⟨p, t, v, e, l, ph, d, a, st, f, k, n⟩ = (p, v, e, l) := rfl

@[simp] theorem sensed_eta (x : AxisState) : (x.position, x.encValid, x.everValid, x.lastValid) = x.sensed := rfl

@[simp] theorem sensed_withDeadline (x : AxisState) (a : Axis) : (x.withDeadline a).sensed = x.sensed := rfl
@[simp] theorem sensed_drive (x : AxisState) (a : Axis) : (x.drive a).sensed = x.sensed := rfl

/-! ## Updates -/

@[simp] theorem kept_withMem (s : State) (x : Memory) : (s.withMem x).kept = s.kept := rfl
@[simp] theorem kept_withStance (s : State) (x : Stance) : (s.withStance x).kept = s.kept := rfl
@[simp] theorem kept_withCtl (s : State) (x : Control) : (s.withCtl x).kept = s.kept := rfl
@[simp] theorem kept_withLevel (s : State) (x : Level) : (s.withLevel x).kept = s.kept := rfl
@[simp] theorem kept_withSwap (s : State) (x : Swap) : (s.withSwap x).kept = s.kept := rfl
@[simp] theorem kept_withArb (s : State) (x : Arbiter) : (s.withArb x).kept = s.kept := rfl
@[simp] theorem kept_withLock (s : State) (x : Lock) : (s.withLock x).kept = s.kept := rfl
@[simp] theorem kept_withMode (s : State) (x : Mode) : (s.withMode x).kept = s.kept := rfl
@[simp] theorem kept_withDish (s : State) (x : DishState) : (s.withDish x).kept = s.kept := by
  unfold State.withDish; split <;> rfl
@[simp] theorem kept_withFaults (s : State) (x : List FaultId) : (s.withFaults x).kept = s.kept := rfl
@[simp] theorem kept_withEntry (s : State) (n : Fin 32) (x : Entry) : (s.withEntry n x).kept = s.kept := rfl
@[simp] theorem kept_setNotice (s : State) (n : Nat) : (setNotice s n).kept = s.kept := rfl
@[simp] theorem kept_openCommand (s : State) (c : OpenCommand) : (openCommand s c).kept = s.kept := rfl
@[simp] theorem kept_closeSlot (s : State) (n : Slot) : (closeSlot s n).kept = s.kept := rfl
@[simp] theorem kept_updateOpen (s : State) (f : OpenCommand → OpenCommand) : (updateOpen s f).kept = s.kept := rfl

@[simp] theorem kept_withAxis (s : State) (a : Axis) (v : AxisState) (h : v.sensed = s.kept.axis a) :
    (s.withAxis a v).kept = s.kept := by
  have e : ∀ m p t q : Int × Bool × Bool × Int,
      m = s.kept.mast → p = s.kept.pan → t = s.kept.tilt → q = s.kept.pol →
      { s.kept with mast := m, pan := p, tilt := t, pol := q } = s.kept := by
    rintro _ _ _ _ rfl rfl rfl rfl
    rfl
  cases a
  · exact e v.sensed _ _ _ h rfl rfl rfl
  · exact e _ v.sensed _ _ rfl h rfl rfl
  · exact e _ _ v.sensed _ rfl rfl h rfl
  · exact e _ _ _ v.sensed rfl rfl rfl h

/-- An axis keeps what its encoder has shown when the update leaves it alone. -/
theorem kept_withAxis_of (s t : State) (a : Axis) (v : AxisState) (hs : t.kept = s.kept)
    (h : v.sensed = s.kept.axis a) : (t.withAxis a v).kept = s.kept := by
  rw [← hs] at h ⊢
  exact kept_withAxis t a v h

theorem kept_foldl {α : Type} (f : State → α → State) (hf : ∀ s x, (f s x).kept = s.kept) (l : List α) (s : State) :
    (l.foldl f s).kept = s.kept := by
  induction l generalizing s with
  | nil => rfl
  | cons x l ih => simp [ih, hf]


/-! ## AxisDrive -/

@[simp] theorem kept_placeRequest (s : State) (r : Request) :
    (placeRequest s r).kept = s.kept := by
  unfold placeRequest
  simp only []
  simp

@[simp] theorem kept_dropRequest (s : State) (a : Axis) :
    (dropRequest s a).kept = s.kept := by
  unfold dropRequest
  simp only []
  simp

@[simp] theorem kept_dropGrant (s : State) (a : Axis) :
    (dropGrant s a).kept = s.kept := by
  unfold dropGrant
  simp only []
  simp

@[simp] theorem kept_startGranted (s : State) (a : Axis) :
    (startGranted s a).kept = s.kept := by
  cases a
  · unfold startGranted
    simp only []
    split
    · exact kept_withAxis _ _ _ rfl
    · rw [kept_withLock]
      exact kept_withAxis _ _ _ rfl
  · exact kept_withAxis _ _ _ rfl
  · exact kept_withAxis _ _ _ rfl
  · exact kept_withAxis _ _ _ rfl

@[simp] theorem kept_grantHead (s : State) (r : Request) (rest : List Request) :
    (grantHead s r rest).kept = s.kept := by
  unfold grantHead
  simp

@[simp] theorem kept_grantLoop (l : List Request) (s : State) : (grantLoop l s).kept = s.kept := by
  induction l generalizing s with
  | nil => rfl
  | cons r l ih => unfold grantLoop; split <;> simp [ih]

@[simp] theorem kept_grantCheck (s : State) :
    (grantCheck s).kept = s.kept := by
  unfold grantCheck
  simp

@[simp] theorem kept_releaseGrant (s : State) (a : Axis) :
    (releaseGrant s a).kept = s.kept := by
  unfold releaseGrant
  simp

@[simp] theorem kept_giveAtRest (s : State) (a : Axis) (target : Int) (p : Priority) :
    (giveAtRest s a target p).1.kept = s.kept := by
  unfold giveAtRest
  simp only []
  (repeat' split) <;> simp

@[simp] theorem kept_axisEnd (s : State) (a : Axis) :
    (axisEnd s a).kept = s.kept := by
  unfold axisEnd
  simp only []
  (repeat' split) <;> simp

@[simp] theorem kept_engageLock (s : State) (skidding : Bool) :
    (engageLock s skidding).kept = s.kept := by
  unfold engageLock
  rw [kept_withLock]
  exact kept_withAxis _ _ _ rfl

@[simp] theorem kept_withdraw (s : State) (a : Axis) :
    (withdraw s a).kept = s.kept := by
  unfold withdraw
  simp only []
  (repeat' split) <;> simp

@[simp] theorem kept_immediateStop (s : State) (a : Axis) (fault : Bool) :
    (immediateStop s a fault).kept = s.kept := by
  unfold immediateStop
  simp only []
  (repeat' split) <;> simp

@[simp] theorem kept_controlledStop (s : State) (a : Axis) :
    (controlledStop s a).kept = s.kept := by
  unfold controlledStop
  simp only []
  (repeat' split) <;> simp

@[simp] theorem kept_controlledStops (s : State) (l : List Axis) :
    (controlledStops s l).kept = s.kept := by
  have h : ∀ l : List Axis, ∀ t : State, (l.foldl (fun t a => dropRequest (t.withAxis a { t.axis a with
      phase := .atRest, target := (t.axis a).position, next := none }) a) t).kept = t.kept :=
    fun l t => kept_foldl _ (fun u a => by simp) l t
  have g : ∀ l : List Axis, (l.foldl controlledStop s).kept = s.kept :=
    fun l => kept_foldl _ (fun u a => by simp) l s
  unfold controlledStops
  simp only []
  split
  · rw [kept_grantCheck, kept_engageLock]
    refine (kept_withAxis _ _ _ rfl).trans ?_
    rw [h, g]
  · rw [kept_grantCheck, h, g]

@[simp] theorem kept_holdAxes (s : State) :
    (holdAxes s).kept = s.kept := by
  exact (kept_foldl _ (fun u a => by simp) allAxes (s.withArb ⟨[], []⟩)).trans rfl

@[simp] theorem kept_reverse (s : State) (target : Int) (p : Priority) :
    (reverse s target p).kept = s.kept := by
  unfold reverse
  simp
  exact kept_withAxis _ _ _ rfl

@[simp] theorem kept_giveWaiting (s : State) (a : Axis) (target : Int) (p : Priority) :
    (giveWaiting s a target p).kept = s.kept := by
  unfold giveWaiting
  simp only []
  (repeat' split) <;> simp

@[simp] theorem kept_giveDriving (s : State) (a : Axis) (target : Int) (p : Priority) :
    (giveDriving s a target p).kept = s.kept := by
  unfold giveDriving
  simp only []
  (repeat' split) <;> simp

@[simp] theorem kept_axisGive (s : State) (a : Axis) (target0 : Int) (p : Priority) :
    (axisGive s a target0 p).1.kept = s.kept := by
  unfold axisGive
  simp only []
  (repeat' split) <;> simp

@[simp] theorem kept_lockReleased (s : State) :
    (lockReleased s).kept = s.kept := by
  unfold lockReleased
  simp only []
  split
  · simp
  · split
    · rw [kept_engageLock]
      exact kept_withAxis _ _ _ rfl
    · split
      · exact kept_withAxis _ _ _ rfl
      · rw [kept_reverse]
        exact kept_withAxis _ _ _ rfl

@[simp] theorem kept_standstillAxis (s : State) (a : Axis) :
    (standstillAxis s a).kept = s.kept := by
  have h : (s.withAxis .mast { s.axis .mast with skidding := false }).kept = s.kept := kept_withAxis _ _ _ rfl
  unfold standstillAxis
  simp only []
  (repeat' split) <;> simp [h]

@[simp] theorem kept_lockEngaged (s : State) :
    (lockEngaged s).kept = s.kept := by
  unfold lockEngaged
  simp only []
  (repeat' split) <;> simp

/-! ## Records -/

@[simp] theorem kept_writeResult (s : State) (n : Slot) (c : Code) (w : Warnings) (data : List Byte) :
    (writeResult s n c w data).kept = s.kept := by
  unfold writeResult
  simp

@[simp] theorem kept_refuse (s : State) (n : Slot) (c : Code) :
    (refuse s n c).kept = s.kept := by
  unfold refuse
  simp

@[simp] theorem kept_complete (s : State) (c : OpenCommand) (code : Code) :
    (complete s c code).kept = s.kept := by
  unfold complete
  simp

@[simp] theorem kept_completeSwap (s : State) (n : Slot) (code : Code) (w : Warnings) (data : List Byte) :
    (completeSwap s n code w data).kept = s.kept := by
  unfold completeSwap
  simp

@[simp] theorem kept_endWhere (s : State) (p : OpenCommand → Bool) (code : Code) :
    (endWhere s p code).kept = s.kept := by
  exact kept_foldl _ (fun u c => by simp) _ s

@[simp] theorem kept_writeHeaderFields (s : State) (fs : List (Nat × List Byte)) :
    (writeHeaderFields s fs).kept = s.kept := by
  rfl

@[simp] theorem kept_updateHeaderWith (before s : State) (also : List (Nat × List Byte)) :
    (updateHeaderWith before s also).kept = s.kept := by
  unfold updateHeaderWith
  (repeat' split) <;> simp

@[simp] theorem kept_updateHeader (before s : State) :
    (updateHeader before s).kept = s.kept := by
  exact kept_updateHeaderWith before s []

/-! ## FaultSet -/

@[simp] theorem kept_alarmPeriodStart (s : State) :
    (alarmPeriodStart s).kept = s.kept := by
  rfl

@[simp] theorem kept_alarmStop (s : State) :
    (alarmStop s).kept = s.kept := by
  rfl

@[simp] theorem kept_swapEarlyEnd (s : State) (code : Code) :
    (swapEarlyEnd s code).kept = s.kept := by
  unfold swapEarlyEnd
  simp only []
  (repeat' split) <;> simp

@[simp] theorem kept_makeRoom (s : State) :
    (makeRoom s).kept = s.kept := by
  unfold makeRoom
  simp only []
  (repeat' split) <;> simp

@[simp] theorem kept_putFault (s : State) (f : FaultId) :
    (putFault s f).kept = s.kept := by
  have h : ∀ (t : State) (fs : List FaultId) (r : FirstFault),
      (t.withIlk { t.ilk with faults := fs, first := r }).kept = t.kept := fun _ _ _ => rfl
  unfold putFault
  simp only []
  (repeat' split) <;> simp [h]

@[simp] theorem kept_addFault (s : State) (f : FaultId) :
    (addFault s f).kept = s.kept := by
  unfold addFault
  (repeat' split) <;> simp

@[simp] theorem kept_reportFault (s : State) (f : FaultId) :
    (reportFault s f).kept = s.kept := by
  unfold reportFault
  (repeat' split) <;> simp

/-! ## Reactions -/

@[simp] theorem kept_withPeakPending (s : State) (b : Bool) :
    (State.withPeakPending s b).kept = s.kept := by
  unfold State.withPeakPending
  simp only []
  simp

@[simp] theorem kept_tellSearch (s : State) (o : SearchOutcome) : (tellSearch s o).kept = s.kept := by
  unfold tellSearch
  (repeat' split) <;> simp

@[simp] theorem kept_dropSearch (s : State) (keep : Bool) : (dropSearch s keep).kept = s.kept := by
  unfold dropSearch
  simp only []
  (repeat' split) <;> simp

@[simp] theorem kept_stopSearch (s : State) (o : SearchOutcome) (keep : Bool) :
    (stopSearch s o keep).kept = s.kept := by
  simp [stopSearch]

@[simp] theorem kept_endSearch (s : State) (o : SearchOutcome) (code : Code) :
    (endSearch s o code).kept = s.kept := by
  unfold endSearch
  simp only []
  (repeat' split) <;> simp

@[simp] theorem kept_writeDishGoal (s : State) (g : DishGoal) :
    (writeDishGoal s g).kept = s.kept := by
  unfold writeDishGoal
  simp only []
  simp

@[simp] theorem kept_withDishShort (s : State) (x : Option StopShort) :
    (State.withDishShort s x).kept = s.kept := by
  unfold State.withDishShort
  simp only []
  simp

@[simp] theorem kept_dishStands (s : State) :
    (dishStands s).kept = s.kept := by
  unfold dishStands
  (repeat' split) <;> simp

@[simp] theorem kept_dishToNone (s : State) :
    (dishToNone s).kept = s.kept := by
  unfold dishToNone
  simp

@[simp] theorem kept_withMastGoal (s : State) (h : Int) :
    (State.withMastGoal s h).kept = s.kept := by
  unfold State.withMastGoal
  simp only []
  simp

@[simp] theorem kept_withGoalAtRest (s : State) (g : Option GoalAtRest) :
    (State.withGoalAtRest s g).kept = s.kept := by
  unfold State.withGoalAtRest
  simp only []
  simp

@[simp] theorem kept_setEff (s : State) :
    (setEff s).kept = s.kept := by
  unfold setEff
  simp only []
  simp

@[simp] theorem kept_haltedGoal (s : State) :
    (haltedGoal s).kept = s.kept := by
  unfold haltedGoal
  simp only []
  (repeat' split) <;> simp

@[simp] theorem kept_enterHalted (s : State) :
    (enterHalted s).kept = s.kept := by
  unfold enterHalted
  simp only []
  (repeat' split) <;> simp

@[simp] theorem kept_mastFaultReact (s : State) :
    (mastFaultReact s).kept = s.kept := by
  unfold mastFaultReact
  simp only []
  (repeat' split) <;> simp

@[simp] theorem kept_dishFaultReact (s : State) :
    (dishFaultReact s).kept = s.kept := by
  unfold dishFaultReact
  simp only []
  (repeat' split) <;> simp

@[simp] theorem kept_axisReact (s : State) (a : Axis) :
    (axisReact s a).kept = s.kept := by
  unfold axisReact
  (repeat' split) <;> simp

@[simp] theorem kept_axisFault (s : State) (a : Axis) (f : FaultId) :
    (axisFault s a f).kept = s.kept := by
  unfold axisFault
  simp

@[simp] theorem kept_orLimit (r : State × Bool) (a : Axis) :
    (orLimit r a).kept = r.1.kept := by
  unfold orLimit
  (repeat' split) <;> simp

@[simp] theorem kept_giveTarget (s : State) (a : Axis) (t : Int) :
    (giveTarget s a t).kept = s.kept := by
  simp [giveTarget]

@[simp] theorem kept_giveDishAxis (s : State) (a : Axis) (t : Int) :
    (giveDishAxis s a t).kept = s.kept := by
  unfold giveDishAxis
  (repeat' split) <;> simp

@[simp] theorem kept_giveDish (s : State) (t : Targets) :
    (giveDish s t).kept = s.kept := by
  unfold giveDish
  simp

@[simp] theorem kept_giveMast (s : State) (t : Int) :
    (giveMast s t).kept = s.kept := by
  unfold giveMast
  simp only []
  simp

/-! ## SearchEngine -/

@[simp] theorem kept_withSearch (s : State) (c : Search) :
    (State.withSearch s c).kept = s.kept := by
  unfold State.withSearch
  simp only []
  simp

@[simp] theorem kept_withSiteTargets (s : State) (t : Targets) (trimPan trimTilt : Int) :
    (State.withSiteTargets s t trimPan trimTilt).kept = s.kept := by
  unfold State.withSiteTargets
  simp only []
  simp

@[simp] theorem kept_nestWait (s : State) :
    (nestWait s).kept = s.kept := by
  unfold nestWait
  simp

@[simp] theorem kept_slewTo (s : State) (t : Targets) :
    (slewTo s t).kept = s.kept := by
  unfold slewTo
  (repeat' split) <;> simp

@[simp] theorem kept_returnToSite (s : State) :
    (returnToSite s).kept = s.kept := by
  unfold returnToSite
  (repeat' split) <;> simp

@[simp] theorem kept_searchSensor (s : State) :
    (searchSensor s).kept = s.kept := by
  unfold searchSensor
  (repeat' split) <;> simp

@[simp] theorem kept_withTrim (s : State) (site : Fin 32) (t : Trim) :
    (State.withTrim s site t).kept = s.kept := by
  unfold State.withTrim
  simp only []
  simp

@[simp] theorem kept_searchLock (s : State) (c : Search) (lc : Int) :
    (searchLock s c lc).kept = s.kept := by
  unfold searchLock
  simp only []
  (repeat' split) <;> simp

@[simp] theorem kept_searchNoSignal (s : State) (c : Search) :
    (searchNoSignal s c).kept = s.kept := by
  unfold searchNoSignal
  simp only []
  simp

@[simp] theorem kept_touchUpNoSignal (s : State) (c : Search) :
    (touchUpNoSignal s c).kept = s.kept := by
  unfold touchUpNoSignal
  simp only []
  simp

@[simp] theorem kept_searchFinish (s : State) (c : Search) :
    (searchFinish s c).kept = s.kept := by
  unfold searchFinish
  simp only []
  (repeat' split) <;> simp

@[simp] theorem kept_askTargets (s : State) (c : Search) (t : Targets) :
    (askTargets s c t).kept = s.kept := by
  unfold askTargets
  simp only []
  (repeat' split) <;> simp

@[simp] theorem kept_askPoint (s : State) (c : Search) (ax : ProbeAxis) (plus : Bool) :
    (askPoint s c ax plus).kept = s.kept := by
  unfold askPoint
  simp

@[simp] theorem kept_compareAxis (s : State) (c : Search) (ax : ProbeAxis) :
    (compareAxis s c ax).kept = s.kept := by
  unfold compareAxis
  simp only []
  simp

@[simp] theorem kept_tryMinus (s : State) (c : Search) (ax : ProbeAxis) :
    (tryMinus s c ax).kept = s.kept := by
  unfold tryMinus
  (repeat' split) <;> simp

@[simp] theorem kept_tryPlus (s : State) (c0 : Search) (ax : ProbeAxis) :
    (tryPlus s c0 ax).kept = s.kept := by
  unfold tryPlus
  simp only []
  (repeat' split) <;> simp

@[simp] theorem kept_startRound (s : State) (c : Search) :
    (startRound s c).kept = s.kept := by
  unfold startRound
  simp

@[simp] theorem kept_roundEnd (s : State) (c : Search) :
    (roundEnd s c).kept = s.kept := by
  unfold roundEnd
  (repeat' split) <;> simp

@[simp] theorem kept_afterBack (s : State) (c : Search) (ax : ProbeAxis) :
    (afterBack s c ax).kept = s.kept := by
  unfold afterBack
  (repeat' split) <;> simp

@[simp] theorem kept_searchGo (n : Nat) (s : State) : (searchGo n s).kept = s.kept := by
  induction n generalizing s with
  | zero => rfl
  | succ n ih => unfold searchGo; (repeat' split) <;> simp [ih]

@[simp] theorem kept_searchPass (s : State) :
    (searchPass s).kept = s.kept := by
  unfold searchPass
  simp

@[simp] theorem kept_measured (s : State) (c : Search) (m : Int) :
    (measured s c m).kept = s.kept := by
  unfold measured
  simp only []
  (repeat' split) <;> simp

@[simp] theorem kept_searchSample (s : State) (level : Int) :
    (searchSample s level).kept = s.kept := by
  unfold searchSample
  simp only []
  (repeat' split) <;> simp

theorem kept_freshSolution (s t : State) (site : Fin 32) (h : freshSolution s site = some t) : t.kept = s.kept := by
  unfold freshSolution at h
  simp only [] at h
  (repeat' split at h) <;> simp_all
  exact h ▸ kept_withEntry _ _ _

@[simp] theorem kept_beginSearch (s : State) (c : Search) :
    (beginSearch s c).kept = s.kept := by
  unfold beginSearch
  simp

@[simp] theorem kept_startSearch (s : State) (kind : SearchKind) :
    (startSearch s kind).kept = s.kept := by
  unfold startSearch
  simp only []
  split
  · rfl
  · split
    · simp
    · next h =>
      have := kept_freshSolution _ _ _ (Option.ite_none_right_eq_some.mp h).2
      split <;> simp [this]

/-! ## Solutions -/

@[simp] theorem kept_obtainSolution (s : State) (site : Fin 32) :
    (obtainSolution s site).kept = s.kept := by
  unfold obtainSolution
  (repeat' split) <;> simp

@[simp] theorem kept_deriveSite (s : State) :
    (deriveSite s).kept = s.kept := by
  unfold deriveSite
  simp only []
  (repeat' split) <;> simp

@[simp] theorem kept_withMark (s : State) (b : Bool) :
    (State.withMark s b).kept = s.kept := by
  unfold State.withMark
  simp only []
  simp

@[simp] theorem kept_retargetDish (s : State) (old t : Targets) :
    (retargetDish s old t).kept = s.kept := by
  unfold retargetDish
  simp only []
  (repeat' split) <;> simp

@[simp] theorem kept_reslew (s : State) (old : Targets) :
    (reslew s old).kept = s.kept := by
  unfold reslew
  (repeat' split) <;> simp

@[simp] theorem kept_notRecomputed (s : State) (site : Fin 32) (force : Bool) :
    (notRecomputed s site force).kept = s.kept := by
  unfold notRecomputed
  (repeat' split) <;> simp

@[simp] theorem kept_recomputeLive (s : State) (force : Bool) :
    (recomputeLive s force).1.kept = s.kept := by
  unfold recomputeLive
  simp only []
  (repeat' split) <;> simp

@[simp] theorem kept_recomputeSite (s : State) :
    (recomputeSite s).kept = s.kept := by
  unfold recomputeSite
  (repeat' split) <;> simp

/-! ## Effective -/

@[simp] theorem kept_issueDish (s : State) :
    (issueDish s).kept = s.kept := by
  unfold issueDish
  simp only []
  (repeat' split) <;> simp

@[simp] theorem kept_holdDish (s : State) :
    (holdDish s).kept = s.kept := by
  unfold holdDish
  (repeat' split) <;> simp

@[simp] theorem kept_pursueDish (s : State) :
    (pursueDish s).kept = s.kept := by
  unfold pursueDish
  (repeat' split) <;> simp

@[simp] theorem kept_setDishGoal (s : State) (g : DishGoal) :
    (setDishGoal s g).kept = s.kept := by
  unfold setDishGoal
  (repeat' split) <;> simp

@[simp] theorem kept_reissueDish (s : State) :
    (reissueDish s).kept = s.kept := by
  unfold reissueDish
  simp only []
  (repeat' split) <;> simp

@[simp] theorem kept_withUpwardDue (s : State) (b : Bool) :
    (State.withUpwardDue s b).kept = s.kept := by
  unfold State.withUpwardDue
  simp

@[simp] theorem kept_issueMast (s : State) (t : Int) :
    (issueMast s t).kept = s.kept := by
  unfold issueMast
  (repeat' split) <;> simp

@[simp] theorem kept_driveResting (s : State) :
    (driveResting s).kept = s.kept := by
  unfold driveResting
  (repeat' split) <;> simp

@[simp] theorem kept_driveMast (s : State) (acts : Bool) :
    (driveMast s acts).kept = s.kept := by
  unfold driveMast
  (repeat' split) <;> simp

@[simp] theorem kept_abandonForHeight (s : State) :
    (abandonForHeight s).kept = s.kept := by
  unfold abandonForHeight
  (repeat' split) <;> simp

@[simp] theorem kept_heightSlew (before s : State) :
    (heightSlew before s).kept = s.kept := by
  unfold heightSlew
  (repeat' split) <;> simp

@[simp] theorem kept_recompute (s : State) (acts : Bool) :
    (recompute s acts).kept = s.kept := by
  unfold recompute
  (repeat' split) <;> simp

@[simp] theorem kept_recomputeEff (s : State) :
    (recomputeEff s).kept = s.kept := kept_recompute s false

@[simp] theorem kept_recomputeIssuing (s : State) :
    (recomputeIssuing s).kept = s.kept := kept_recompute s true

@[simp] theorem kept_takeRecorded (before s : State) (a : Axis) :
    (takeRecorded before s a).kept = s.kept := by
  unfold takeRecorded
  simp only []
  (repeat' split) <;> simp

@[simp] theorem kept_downCrossing (s : State) :
    (downCrossing s).kept = s.kept := by
  unfold downCrossing
  simp only []
  (repeat' split) <;> simp

@[simp] theorem kept_upCrossing (s : State) :
    (upCrossing s).kept = s.kept := by
  unfold upCrossing
  (repeat' split) <;> simp

@[simp] theorem kept_nestCrossings (old : Int) (s : State) :
    (nestCrossings old s).kept = s.kept := by
  unfold nestCrossings
  (repeat' split) <;> simp

/-! ## ForcedStow -/

@[simp] theorem kept_forcedStowStart (s : State) :
    (forcedStowStart s).kept = s.kept := by
  unfold forcedStowStart
  simp only []
  (repeat' split) <;> simp

@[simp] theorem kept_takeTrigger (s : State) (f : Option FaultId) :
    (takeTrigger s f).kept = s.kept := by
  unfold takeTrigger
  simp only []
  (repeat' split) <;> simp

@[simp] theorem kept_takeTriggers (s : State) (t : Triggers) :
    (takeTriggers s t).kept = s.kept := by
  unfold takeTriggers
  simp only []
  (repeat' split) <;> simp

@[simp] theorem kept_withJudged (s : State) (t : Triggers) :
    (State.withJudged s t).kept = s.kept := by
  rfl

@[simp] theorem kept_judgeTriggers (s : State) :
    (judgeTriggers s).kept = s.kept := by
  unfold judgeTriggers
  (repeat' split) <;> simp

@[simp] theorem kept_takeAll (s : State) :
    (takeAll s).kept = s.kept := by
  unfold takeAll
  simp

@[simp] theorem kept_forcedStowEnd (s : State) :
    (forcedStowEnd s).kept = s.kept := by
  unfold forcedStowEnd
  (repeat' split) <;> simp

/-! ## Exchange -/

@[simp] theorem kept_quiesceStart (s : State) :
    (quiesceStart s).kept = s.kept := by
  unfold quiesceStart
  simp only []
  (repeat' split) <;> simp

@[simp] theorem kept_writeOut (s : State) :
    (writeOut s).kept = s.kept := by
  unfold writeOut
  simp

@[simp] theorem kept_adoptTrims (s : State) (p : Package) :
    (adoptTrims s p).kept = s.kept := by
  unfold adoptTrims
  simp only []
  (repeat' split) <;> simp

@[simp] theorem kept_serveSite (s : State) (p : Package) :
    (serveSite s p).1.kept = s.kept := by
  unfold serveSite
  simp only []
  (repeat' split) <;> simp

@[simp] theorem kept_loadStance (s : State) (p : Package) :
    (loadStance s p).kept = s.kept := by
  unfold loadStance
  simp only []
  simp

@[simp] theorem kept_driveStance (s : State) :
    (driveStance s).kept = s.kept := by
  unfold driveStance
  simp only []
  (repeat' split) <;> simp

@[simp] theorem kept_loadPackage (s : State) :
    (loadPackage s).kept = s.kept := by
  unfold loadPackage
  simp only []
  simp

@[simp] theorem kept_quiesceEnd (s : State) :
    (quiesceEnd s).kept = s.kept := by
  unfold quiesceEnd
  (repeat' split) <;> simp

@[simp] theorem kept_resumeStance (s : State) :
    (resumeStance s).kept = s.kept := by
  unfold resumeStance
  simp only []
  (repeat' split) <;> simp

/-! ## Settle -/

@[simp] theorem kept_unaim (s : State) (why : GoalAtRest) :
    (unaim s why).kept = s.kept := by
  unfold unaim
  cases why <;> simp

@[simp] theorem kept_fixGoal (s : State) :
    (fixGoal s).kept = s.kept := by
  unfold fixGoal
  simp only []
  (repeat' split) <;> simp

@[simp] theorem kept_withMastState (s : State) (m : MastState) :
    (State.withMastState s m).kept = s.kept := by
  unfold State.withMastState
  simp only []
  simp

@[simp] theorem kept_mastRest (s : State) :
    (mastRest s).kept = s.kept := by
  unfold mastRest
  (repeat' split) <;> simp

@[simp] theorem kept_stowStatusPass (s : State) :
    (stowStatusPass s).kept = s.kept := by
  unfold stowStatusPass
  simp only []
  (repeat' split) <;> simp

@[simp] theorem kept_arriveSite (s : State) :
    (arriveSite s).kept = s.kept := by
  unfold arriveSite
  simp only []
  (repeat' split) <;> simp

@[simp] theorem kept_arriveDish (s : State) :
    (arriveDish s).kept = s.kept := by
  unfold arriveDish
  (repeat' split) <;> simp

@[simp] theorem kept_shortRest (s : State) (k : StopShort) :
    (shortRest s k).kept = s.kept := by
  unfold shortRest
  simp only []
  (repeat' split) <;> simp

@[simp] theorem kept_dishRest (s : State) :
    (dishRest s).kept = s.kept := by
  unfold dishRest
  (repeat' split) <;> simp

@[simp] theorem kept_completeHeights (s : State) :
    (completeHeights s).kept = s.kept := by
  exact kept_foldl _ (fun u c => by simp) _ s

@[simp] theorem kept_completeOpen (s : State) :
    (completeOpen s).kept = s.kept := by
  unfold completeOpen
  simp only []
  (repeat' split) <;> simp

@[simp] theorem kept_settleOnce (s : State) :
    (settleOnce s).kept = s.kept := by
  unfold settleOnce
  simp only []
  simp

@[simp] theorem kept_settle (s : State) :
    (settle s).kept = s.kept := by
  unfold settle
  (repeat' split) <;> simp

@[simp] theorem kept_endEvent (before s : State) :
    (endEvent before s).kept = s.kept := by
  unfold endEvent
  simp

end Sys2Proof.Machine
end

