-- ==== Sys2Proof/WellFormed.lean ====
section
/-! DEFINITION. Which commands can occur: checks on the operands that their types leave open. The meanings do not
rely on these checks but for one: a 16-bit host access at an odd offset stops the model (log 7). -/
namespace Sys2Proof

/-- A 16-bit host access is aligned: every multi-byte field is aligned to its size (R154). -/
def BusData.alignedAt (offset : BitVec 15) : BusData → Bool
  | .byte _ => true
  | .word _ => offset.toNat % 2 == 0

/-- The offsets of OTHER_REGISTER_WRITE: STATUS (0x8000, 0x8001), or above 0x8007 (R154, R160). -/
def otherRegisterOffset (offset : Nat) : Bool :=
  offset == 0x8000 || offset == 0x8001 || 0x8007 < offset

/-- What an encoder can show in the 16-bit fields of the telemetry page (10.2): a mast extension is unsigned,
a dish angle signed. -/
def encoderRange (a : Axis) (v : Int) : Bool :=
  match a with
  | .mast => 0 ≤ v && v ≤ 65535
  | _ => -32768 ≤ v && v ≤ 32767

/-- A pitch or roll fits the 16-bit fields of the telemetry page (10.2). -/
def Tilts.inRange (r : Tilts) : Bool :=
  -32768 ≤ r.pitch && r.pitch ≤ 32767 && -32768 ≤ r.roll && r.roll ≤ 32767

def WakeReadings.inRange (r : WakeReadings) : Bool :=
  r.mast.all (encoderRange .mast) && r.pan.all (encoderRange .pan) && r.tilt.all (encoderRange .tilt) &&
    r.pol.all (encoderRange .pol) && r.incl.inRange

/-- A command whose operands can occur. -/
def Instr.wellFormed : Instr → Bool
  | .hostMemoryWrite offset d => d.alignedAt offset
  | .otherRegisterWrite offset _ => otherRegisterOffset offset
  | .encoderReading a v => encoderRange a v
  | .encoderValidReturn a v => encoderRange a v
  | .inclinometerReading r => r.inRange
  | .wakeWarmUpEnd r => r.inRange
  | .raise => true
  | .lower => true
  | .stow => true
  | .aim => true
  | .peak => true
  | .point => true
  | .halt => true
  | .recoverHold => true
  | .swap => true
  | .setFix => true
  | .setLimits => true
  | .clearFault => true
  | .standby => true
  | .notifyWrite _ => true
  | .noticeWrite _ => true
  | .controlWrite _ => true
  | .parkChange _ => true
  | .overheadChange _ => true
  | .stowLineChange _ => true
  | .holdLineAssert => true
  | .holdLineRelease => true
  | .anemoOkLow => true
  | .anemoOkHigh => true
  | .windSample _ => true
  | .holdTimerExpiry => true
  | .primingEnd _ => true
  | .levelSample _ => true
  | .settleTimeExpiry => true
  | .watchCheck => true
  | .encoderInvalid _ => true
  | .limitSwitchTrip _ => true
  | .limitSwitchOpen _ => true
  | .standstill _ => true
  | .lockReleaseEnd => true
  | .lockEngageEnd => true
  | .deadlineExpiry _ => true
  | .controlledStopTimeout _ => true
  | .immediateStopTimeout _ => true
  | .alarmOnExpiry => true
  | .alarmPeriodExpiry => true
  | .telemetryPeriodExpiry => true
  | .telemetryPageWriteEnd => true
  | .uptimeTick => true
  | .reset _ => true
  | .settleEnd _ _ => true
  | .warmUpEnd => true
  | .ready _ => true

end Sys2Proof
end

