-- ==== Sys2Proof/Laws/PerInstr.lean ====
section
/-! SUPPORT. Statements for all commands, made command by command: a command whose operands its types pin down is well
formed, whatever they are. -/
namespace Sys2Proof.Laws.OperandFree

/-- The commands whose operands are checked (WellFormed.lean). -/
def checked : Instr → Bool
  | .raise => false
  | .lower => false
  | .stow => false
  | .aim => false
  | .peak => false
  | .point => false
  | .halt => false
  | .recoverHold => false
  | .swap => false
  | .setFix => false
  | .setLimits => false
  | .clearFault => false
  | .standby => false
  | .notifyWrite _ => false
  | .noticeWrite _ => false
  | .controlWrite _ => false
  | .otherRegisterWrite _ _ => true
  | .hostMemoryWrite _ _ => true
  | .parkChange _ => false
  | .overheadChange _ => false
  | .stowLineChange _ => false
  | .holdLineAssert => false
  | .holdLineRelease => false
  | .anemoOkLow => false
  | .anemoOkHigh => false
  | .windSample _ => false
  | .holdTimerExpiry => false
  | .primingEnd _ => false
  | .levelSample _ => false
  | .settleTimeExpiry => false
  | .watchCheck => false
  | .inclinometerReading _ => true
  | .encoderReading _ _ => true
  | .encoderInvalid _ => false
  | .encoderValidReturn _ _ => true
  | .limitSwitchTrip _ => false
  | .limitSwitchOpen _ => false
  | .standstill _ => false
  | .lockReleaseEnd => false
  | .lockEngageEnd => false
  | .deadlineExpiry _ => false
  | .controlledStopTimeout _ => false
  | .immediateStopTimeout _ => false
  | .alarmOnExpiry => false
  | .alarmPeriodExpiry => false
  | .telemetryPeriodExpiry => false
  | .telemetryPageWriteEnd => false
  | .uptimeTick => false
  | .reset _ => false
  | .settleEnd _ _ => false
  | .warmUpEnd => false
  | .ready _ => false
  | .wakeWarmUpEnd _ => true

/-- A command with no checked operand is well formed. -/
def Statement (i : Instr) : Prop := checked i = false → i.wellFormed = true

theorem raise : Statement .raise := by
  intro h
  rfl

theorem lower : Statement .lower := by
  intro h
  rfl

theorem stow : Statement .stow := by
  intro h
  rfl

theorem aim : Statement .aim := by
  intro h
  rfl

theorem peak : Statement .peak := by
  intro h
  rfl

theorem point : Statement .point := by
  intro h
  rfl

theorem halt : Statement .halt := by
  intro h
  rfl

theorem recoverHold : Statement .recoverHold := by
  intro h
  rfl

theorem swap : Statement .swap := by
  intro h
  rfl

theorem setFix : Statement .setFix := by
  intro h
  rfl

theorem setLimits : Statement .setLimits := by
  intro h
  rfl

theorem clearFault : Statement .clearFault := by
  intro h
  rfl

theorem standby : Statement .standby := by
  intro h
  rfl

theorem notifyWrite (w : PortWrite) : Statement (.notifyWrite w) := by
  intro h
  rfl

theorem noticeWrite (w : PortWrite) : Statement (.noticeWrite w) := by
  intro h
  rfl

theorem controlWrite (w : PortWrite) : Statement (.controlWrite w) := by
  intro h
  rfl

theorem otherRegisterWrite (offset : Nat) (w : PortWrite) : Statement (.otherRegisterWrite offset w) := by
  intro h
  cases h

theorem hostMemoryWrite (offset : BitVec 15) (d : BusData) : Statement (.hostMemoryWrite offset d) := by
  intro h
  cases h

theorem parkChange (active : Bool) : Statement (.parkChange active) := by
  intro h
  rfl

theorem overheadChange (active : Bool) : Statement (.overheadChange active) := by
  intro h
  rfl

theorem stowLineChange (active : Bool) : Statement (.stowLineChange active) := by
  intro h
  rfl

theorem holdLineAssert : Statement .holdLineAssert := by
  intro h
  rfl

theorem holdLineRelease : Statement .holdLineRelease := by
  intro h
  rfl

theorem anemoOkLow : Statement .anemoOkLow := by
  intro h
  rfl

theorem anemoOkHigh : Statement .anemoOkHigh := by
  intro h
  rfl

theorem windSample (pulses : Nat) : Statement (.windSample pulses) := by
  intro h
  rfl

theorem holdTimerExpiry : Statement .holdTimerExpiry := by
  intro h
  rfl

theorem primingEnd (pulses : Nat) : Statement (.primingEnd pulses) := by
  intro h
  rfl

theorem levelSample (code : BitVec 12) : Statement (.levelSample code) := by
  intro h
  rfl

theorem settleTimeExpiry : Statement .settleTimeExpiry := by
  intro h
  rfl

theorem watchCheck : Statement .watchCheck := by
  intro h
  rfl

theorem inclinometerReading (r : Tilts) : Statement (.inclinometerReading r) := by
  intro h
  cases h

theorem encoderReading (a : Axis) (v : Int) : Statement (.encoderReading a v) := by
  intro h
  cases h

theorem encoderInvalid (a : Axis) : Statement (.encoderInvalid a) := by
  intro h
  rfl

theorem encoderValidReturn (a : Axis) (v : Int) : Statement (.encoderValidReturn a v) := by
  intro h
  cases h

theorem limitSwitchTrip (sw : Switch) : Statement (.limitSwitchTrip sw) := by
  intro h
  rfl

theorem limitSwitchOpen (sw : Switch) : Statement (.limitSwitchOpen sw) := by
  intro h
  rfl

theorem standstill (a : Axis) : Statement (.standstill a) := by
  intro h
  rfl

theorem lockReleaseEnd : Statement .lockReleaseEnd := by
  intro h
  rfl

theorem lockEngageEnd : Statement .lockEngageEnd := by
  intro h
  rfl

theorem deadlineExpiry (a : Axis) : Statement (.deadlineExpiry a) := by
  intro h
  rfl

theorem controlledStopTimeout (a : Axis) : Statement (.controlledStopTimeout a) := by
  intro h
  rfl

theorem immediateStopTimeout (a : Axis) : Statement (.immediateStopTimeout a) := by
  intro h
  rfl

theorem alarmOnExpiry : Statement .alarmOnExpiry := by
  intro h
  rfl

theorem alarmPeriodExpiry : Statement .alarmPeriodExpiry := by
  intro h
  rfl

theorem telemetryPeriodExpiry : Statement .telemetryPeriodExpiry := by
  intro h
  rfl

theorem telemetryPageWriteEnd : Statement .telemetryPageWriteEnd := by
  intro h
  rfl

theorem uptimeTick : Statement .uptimeTick := by
  intro h
  rfl

theorem reset (cause : ResetCause) : Statement (.reset cause) := by
  intro h
  rfl

theorem settleEnd (lines : Lines) (strap : Bool) : Statement (.settleEnd lines strap) := by
  intro h
  rfl

theorem warmUpEnd : Statement .warmUpEnd := by
  intro h
  rfl

theorem ready (pulses : Nat) : Statement (.ready pulses) := by
  intro h
  rfl

theorem wakeWarmUpEnd (r : WakeReadings) : Statement (.wakeWarmUpEnd r) := by
  intro h
  cases h

end Sys2Proof.Laws.OperandFree
end

