-- ==== Sys2Proof/Tests/Slice0.lean ====
section
/-! SUPPORT. Tests: the checks of WellFormed, the worked figures of the manual, and for every obligation with hypotheses
a state and operands that meet them, each clause at a boundary of its range. -/
namespace Sys2Proof.Tests
set_option Elab.async false -- one test after another: their kernel evaluations would each hold a thread
open Sys2Proof.Machine

/-! ## WellFormed: one ill-formed command for each check -/

theorem test_wf_odd_word : (Instr.hostMemoryWrite 0x101#15 (.word 1)).wellFormed = false := by decide
theorem test_wf_even_word : (Instr.hostMemoryWrite 0x100#15 (.word 1)).wellFormed = true := by decide
theorem test_wf_other_register : (Instr.otherRegisterWrite 0x8002 (.word 1)).wellFormed = false := by decide
theorem test_wf_status : (Instr.otherRegisterWrite 0x8001 (.word 1)).wellFormed = true := by decide
theorem test_wf_mast_reading : (Instr.encoderReading .mast (-1)).wellFormed = false := by decide
theorem test_wf_dish_return : (Instr.encoderValidReturn .pan 32768).wellFormed = false := by decide
theorem test_wf_tilts : (Instr.inclinometerReading ⟨true, 32768, 0⟩).wellFormed = false := by decide
theorem test_wf_wake : (Instr.wakeWarmUpEnd ⟨some 65536, none, none, none, ⟨true, 0, 0⟩⟩).wellFormed = false := by decide

/-! ## Figures of the manual -/

/-- The fix and the site of the worked case of 2.9, the site with the lock floor of chapter 12. -/
def fix7 : Fix := ⟨7, 1000, 2000, 1200, 4500⟩
def site2 : SiteRecord := ⟨1, 1, 13000, 7000, 2150, 0, -700, true⟩

/-- 2.9, Worked case: targets and reported values. -/
theorem test_solve : solve site2 fix7 120 (-80) 3400 12000 = ⟨2238, -111, 28, 6738, 31, 13000, false⟩ := by
  decide +kernel

/-- 12.2, step 4: the solution at 10,000 mm. -/
theorem test_solve_lower : (solve site2 fix7 120 (-80) 3400 10000).tilt = -110 := by decide +kernel

/-- The table of cable-wrap choices of chapter 2. -/
theorem test_wrap : wrapPan (-15000) 20000 = 21000 ∧ wrapPan (-15000) 3000 = -15000 ∧ wrapPan 18000 0 = 18000 ∧
    wrapPan 9500 (-26000) = -26500 ∧ wrapPan 8999 10000 = 8999 := by decide

/-- The table of deadlines of chapter 6. -/
theorem test_deadlines : deadlineTenths 12000 150 = 1230 ∧ deadlineTenths 12000 200 = 930 ∧ deadlineTenths 2238 600 = 86 ∧
    deadlineTenths 8889 300 = 475 ∧ deadlineTenths 28 900 = 31 ∧ deadlineTenths 40 600 = 31 ∧
    deadlineTenths 40 300 = 32 := by decide

/-- R126: bands at the default thresholds. -/
theorem test_bands : [99, 100, 149, 150, 199, 200].map (bandOf Limits.defaults) = [0, 1, 1, 2, 2, 3] := by decide

/-- R151: alarm timing of the example of chapter 9. -/
theorem test_alarm_clamp :
    (formLimits false { Limits.defaults with alarmPeriod := 300, alarmOn := 400 }).alarmOn = 150 ∧
    (formLimits false { Limits.defaults with alarmPeriod := 2000, alarmOn := 2500 }).alarmOn = 1950 := by decide

/-- The worked example of chapter 3, its fix (1,003, 2,003) at 4,520 read from its differences: two blocks are kept. -/
theorem test_trims_kept :
    let f : Fix := { fix7 with east := 1003, north := 2003, heading := 4520 }
    trimKept ⟨true, 60, -25, -512, 7, 1000, 2000, 4500⟩ f = true ∧
    trimKept ⟨true, -140, 10, -600, 7, 1002, 2001, 4470⟩ f = true ∧
    trimKept ⟨true, 30, 0, -450, 7, 998, 2003, 35950⟩ f = false := by decide

theorem test_no_words : decodeTableWord 16 0 = none := by decide

/-! ## States -/

def axisAt (p : Int) : AxisState :=
  { AxisState.reset with position := p, target := p, encValid := true, everValid := true, lastValid := p }

/-- A module that is READY in NORMAL, all sensors valid, PARK active, everything at rest. -/
def atRest (h : Int) (d : Targets) (m : MastState) (x : DishState) : State :=
  { State.afterReset .external [] [] true Switches.clear with
    ctl := { Control.reset with mode := .normal, mastState := m, dishState := x, effTarget := h }
    stance := { Stance.reset with mastGoal := h }
    level := { Level.reset with running := true }
    axes := { Axes.reset Switches.clear with
      mast := axisAt h, pan := axisAt d.pan, tilt := axisAt d.tilt, pol := axisAt d.pol }
    wind := { Wind.reset true with running := true, residency := some ⟨0, 600, false⟩ }
    ilk := { Interlock.reset with lines := ⟨true, false, false, false⟩, inclValid := true }
    power := { Power.reset .external with phase := .done, ready := true } }

def stowed : State := atRest 0 ⟨0, -9000, 0⟩ .nested .stowed
def aloft : State := atRest 6000 ⟨100, 200, 300⟩ .held .parked

/-- Below the nest height with the dish outside its window. -/
def low : State := atRest 1499 ⟨100, 200, 300⟩ .held .parked

/-- A slot with the host or the part, and its argument bytes. -/
def slotFields (n : Slot) (owner kind : Nat) (args : List Byte) : List (Nat × List Byte) :=
  [(slotAddr n, leBytes 1 owner ++ leBytes 1 kind), (argAddr n 0, args)]

/-- Slot 0 holds a command and waits in the intake list. -/
def slotted (s : State) (owner kind : Nat) (args : List Byte) : State :=
  { s with mem := writeFields s.mem (slotFields 0 owner kind args), board := { s.board with intake := [0] } }

def holding (s : State) (kind : Nat) (args : List Byte) : State := slotted s 1 kind args

def inMode (s : State) (m : Mode) : State := s.withMode m

/-- The dish FAILED. -/
def dishLost (s : State) : State := s.withCtl { s.ctl with dishState := .failed }

/-- Site 2 in common memory, its in_use byte given, and the fix of the worked case. -/
def sited (s : State) (inUse : Nat) : State :=
  { s with
    mem := writeFields s.mem [(siteAddr 2, leBytes 1 inUse ++ leBytes 1 1), (siteAddr 2 + 4, le32 13000 ++ le32 7000 ++
      le32 2150 ++ le16 0 ++ le16 (-700))]
    geo := { s.geo with fix := some fix7, fixGen := 1 } }

/-- A command of a kind is open in a slot. -/
def opened (s : State) (n : Slot) (k : Kind) : State :=
  { s with board := { s.board with openSet := s.board.openSet ++ [OpenCommand.new n k Warnings.empty] } }

/-- `aloft` with its mast, its lock and the grants given. -/
def withMast (x : AxisState) (l : Lock) (g : List Grant) : State :=
  { aloft with axes := { aloft.axes with mast := x, lock := l }, arb := ⟨g, []⟩ }

/-- At the third sample time of start-up. -/
def primed (s : State) : State :=
  { s with
    ctl := Control.reset, stance := Stance.reset, wind := { Wind.reset true with running := true, priming := true }
    level := Level.reset, power := { Power.reset .external with phase := .priming, resetSet := [1, 2] } }

/-- In STANDBY, asleep. -/
def asleep : State :=
  { stowed with
    ctl := { stowed.ctl with mode := .standby }, wind := Wind.reset true, level := Level.reset
    power := { stowed.power with standby := .asleep, ready := false } }

/-- The wake warm-up. -/
def waking : State := asleep.withPower { asleep.power with standby := .waking }

/-- Pan waits for its grant behind a full budget. -/
def waiting : State :=
  { aloft with
    axes := { aloft.axes with pan := { axisAt 100 with phase := .waiting, target := 900 } }
    arb := ⟨[⟨.mast, 25⟩], [⟨.pan, 8, .ordinary⟩]⟩ }

def nextOf (o : Host.Outcome State Fault Refusal) : Option State :=
  match o with
  | .next t => some t
  | _ => none

/-! ## Single steps -/

/-- R15: a RAISE above the travel is clamped, and the mast rises. -/
theorem test_raise : (nextOf (exec .raise (holding stowed 1 (le16 20000)))).map
    (fun t => (t.stance.mastGoal, t.ctl.mastState, currentInUse t)) = some (15000, .rising, 25) := by decide +kernel

/-- 12.1: the AIM of site 2 from the nest. -/
theorem test_aim : (nextOf (exec .aim (holding ((sited stowed 1).withStance { Stance.reset with mastGoal := 12000 }) 4
    [2, 3]))).map (fun t => (t.ctl.dishState, (t.entry 2).sol.bearing, t.stance.peakPending)) =
    some (.nestWait, 6738, true) := by decide +kernel

/-- R149: a fault whose cause is gone leaves the set. -/
theorem test_clear_fault : (nextOf (exec .clearFault (holding (aloft.withFaults [.overhead, .sensor .incl]) 11 []))).map
    (·.ilk.faults) = some [] := by decide +kernel

/-- R144: OVERHEAD stays in the set while the line is active. -/
theorem test_overhead_stays : (nextOf (exec .clearFault (holding ((aloft.withFaults [.overhead]).withIlk
    { aloft.ilk with faults := [.overhead], lines := ⟨true, true, false, false⟩ }) 11 []))).map (·.ilk.faults) =
    some [.overhead] := by decide +kernel

/-- R61: 3,300 is the highest valid code, and 1,703 lies between two steps of 4. -/
theorem test_level_codes : (nextOf (exec (.levelSample 3300#12) aloft)).map (·.level.held) = some (-200) ∧
    (nextOf (exec (.levelSample 1703#12) aloft)).map (·.level.held) = some (-600) := by decide +kernel

/-- R143: the brake released with the mast up. -/
theorem test_van_moved : (nextOf (exec (.parkChange false) aloft)).map
    (fun t => (t.ctl.mode, t.ilk.faults, t.ilk.alarmOn, t.stance.mastGoal)) =
    some (.forcedStow, [.vanMoved], true, 0) := by decide +kernel

/-- R9, R10: a forced stow that finds the mast in a stop keeps the target for its end; below the nest by then, the mast
rises again for no such target outside NORMAL. -/
theorem test_recorded_not_taken_up :
    let x : AxisState := { axisAt 1470 with
      phase := .engaging, stop := some .controlled, target := 1500, next := some (1500, .forcedStow) }
    let s := (inMode (withMast x .engaging [⟨.mast, 2⟩]) .forcedStow).withStance Stance.reset
    (nextOf (exec .lockEngageEnd (s.withCtl { s.ctl with mastState := .descending, effTarget := 1500 }))).map
      (fun t => (t.axes.mast.phase, t.ctl.mastState, t.ctl.effTarget)) = some (.atRest, .held, 1470) := by decide +kernel

/-- R25, step 6: the last valid extension of WARM_UP stays the goal of the entry into HALTED. -/
theorem test_halted_goal :
    let s := aloft.withAxis .mast { axisAt 0 with encValid := false, lastValid := 6000, phase := .faulted }
    (enterHalted s).stance.mastGoal = 6000 := by decide +kernel

/-- R25: a rise that R10 held back before the mast FAILED does not begin at the return from HALTED. -/
theorem test_return_rests :
    let s := holding ((aloft.withUpwardDue true).withFaults [.stall .mast]) 11 []
    let s := enterHalted (s.withAxis .mast { s.axes.mast with phase := .faulted })
    let s := (s.withCtl { s.ctl with mastState := .failed }).withAxis .mast { s.axes.mast with position := 5900 }
    (nextOf (exec .clearFault s)).map (fun t => (t.ctl.mode, t.axes.mast.phase)) = some (.normal, .atRest) := by
  decide +kernel

/-- R1, R89: an overshoot above 15,000 mm is adopted as 15,000, the goal that a package can hold. -/
theorem test_halt_overshoot :
    (nextOf (exec .halt (holding (atRest 15005 Targets.zero .held .parked) 7 []))).map
      (fun t => (t.stance.mastGoal, t.axes.mast.phase)) = some (15000, .atRest) := by decide +kernel

/-- R32: a SET_FIX in the same datum writes the header's datum over a byte of the host. -/
theorem test_fix_header :
    let s := holding (sited stowed 1) 9 (le8 7 ++ le8 0 ++ le16 4500 ++ le32 1000 ++ le32 2000 ++ le32 1200)
    (nextOf (exec .setFix (s.withMem (writeBytes s.mem 18 [0x55#8])))).map
      (fun t => (readU16 t.mem 16, readU8 t.mem 18)) = some (2, 7) := by decide +kernel

/-- R169: READY in NORMAL with an empty reset set writes its two header bytes all the same. -/
theorem test_ready_header :
    let s := { primed stowed with mem := [(8, 1#8)], power := { (primed stowed).power with resetSet := [] } }
    (nextOf (exec (.ready 0) s)).map (fun t => (readU8 t.mem 8, t.board.headerSeq)) = some (0, 2#16) := by decide +kernel

/-- R164: a record equal to the one in force leaves the residency period as it was. -/
theorem test_equal_limits :
    let s := stowed.withWind { stowed.wind with residency := some ⟨77, 60, false⟩ }
    (nextOf (exec .setLimits (holding s 10 (limitsBytes Limits.defaults)))).map (·.wind.residency) =
      some (some ⟨77, 60, false⟩) := by decide +kernel

/-- R135: a record that changes another field alone restarts the residency period of a figure in the applied band. -/
theorem test_other_limit :
    let s := stowed.withWind { stowed.wind with residency := some ⟨77, 600, false⟩ }
    (nextOf (exec .setLimits (holding s 10 (limitsBytes { Limits.defaults with probeLimit := 30 })))).map
      (·.wind.residency) = some (some ⟨0, 600, true⟩) := by decide +kernel

/-- At rest at 1,490 mm for a goal of 1,500 with the dish aimed. -/
def belowGoal : State :=
  let s := atRest 1490 ⟨100, 200, 300⟩ .held .nestWait
  (s.withStance { s.stance with mastGoal := 1500, dishGoal := .point ⟨100, 200, 300⟩ }).withCtl
    { s.ctl with effTarget := 1500 }

/-- R129: a ceiling that rises above the goal and the extension moves nothing. -/
theorem test_ceiling_above_goal :
    let s := belowGoal.withWind { belowGoal.wind with band := 1, residency := some ⟨600, 600, false⟩ }
    let s := { s with limits := { s.limits with c1 := 1510 } }
    (nextOf (exec (.windSample 0) s)).map (fun t => (effCeiling s, effCeiling t, t.axes.mast.phase, t.axes.mast.target)) =
      some (1510, 15000, .atRest, 1490) := by decide +kernel

/-- R10: a rise that OVERHEAD held back begins when it goes inactive. -/
theorem test_held_back :
    let s := (belowGoal.withCtl { belowGoal.ctl with upwardDue := true }).withIlk
      { belowGoal.ilk with lines := ⟨true, true, false, false⟩ }
    (nextOf (exec (.overheadChange false) s)).map (fun t => (t.axes.mast.target, t.ctl.upwardDue)) =
      some (1521, false) := by decide +kernel

/-- R166: the reading that leaves every sensor valid ends WARM_UP, and a loss after it is a fault. -/
theorem test_warm_up_reading :
    let s := primed stowed
    let s := (s.withPower { s.power with phase := .warmUp }).withAxis .pan { axisAt 0 with encValid := false }
    let t := nextOf (exec (.encoderReading .pan 0) s)
    t.map (fun t => (t.power.phase, t.wind.priming, t.ilk.faults)) = some (.priming, true, []) ∧
    ((t.bind fun t => nextOf (exec (.encoderInvalid .pan) t)).map (·.ilk.faults)) =
      some [.sensor (.axis .pan)] := by decide +kernel

/-- R44, R7: below the nest height a SLEWING dish waits with its new targets for the upward crossing. -/
theorem test_reslew_low :
    let s := (sited (atRest 1499 ⟨2238, -111, 28⟩ .rising .slewing) 1).withStance
      { Stance.reset with mastGoal := 12000, site := some 2, dishGoal := .site }
    (reslew s Targets.zero).ctl.dishState = .nestWait := by decide

/-- R87: the quiesce abandons a search with peak pending set, and the dish that searched is PARKED. -/
theorem test_quiesce_search :
    let s := (sited (atRest 12000 ⟨2238, -111, 28⟩ .held .peaking) 1).withLevel
      { Level.reset with search := some (newSearch stowed 2 .touchUp) }
    ((quiesceStart s).stance.peakPending, (quiesceStart s).ctl.dishState, (quiesceStart s).level.search) =
      (true, .parked, none) := by decide +kernel

/-- R165: a command queued behind another runs after it. -/
theorem test_queue : (nextOf (step (stowed.withPending [.uptimeTick, .stow]))).map (fun t => (t.power.uptime, t.pending)) =
    some (1, [.stow]) := by decide +kernel

/-! ## Witnesses: takes and stance commands -/

theorem witness_StepRunsFront : (stowed.withPending [.uptimeTick, .stow]).pending = .uptimeTick :: [.stow] := by decide

theorem witness_ModeGateTable :
    let f := inMode (holding stowed 1 []) .forcedStow
    (running f = true ∧ f.swap.phase = .idle ∧ f.board.intake.head? = some 0 ∧ slotOwner f.mem 0 = 1 ∧
      Kind.ofCode (slotKind f.mem 0) = some .raise ∧ recordOk f.mem 0 .raise = true) ∧
    State.reset.ctl.mode = .starting ∧
    Taken (holding aloft 12 []) .standby 0 ∧ Memory.wf (holding aloft 12 []).mem = true ∧
    (holding aloft 12 []).ctl.mastState ≠ .nested := by decide +kernel

/-- Owner HOST; kinds 0 and 14; an owner that is neither; the gate's refusals of both codes. -/
theorem witness_TakeCommonChecks :
    let base := fun s : State => running s = true ∧ s.swap.phase = .idle ∧ s.board.intake.head? = some 0 ∧
      Memory.wf s.mem = true
    let h := slotted stowed 0 1 []
    let z := holding stowed 0 []
    let k := holding stowed 14 []
    let r := slotted stowed 2 1 []
    let g := holding stowed 13 []
    let f := inMode (holding stowed 1 []) .forcedStow
    (base h ∧ slotOwner h.mem 0 = 0) ∧
    (base z ∧ slotOwner z.mem 0 ≠ 0 ∧ Kind.ofCode (slotKind z.mem 0) = none) ∧
    (base k ∧ slotOwner k.mem 0 ≠ 0 ∧ Kind.ofCode (slotKind k.mem 0) = none) ∧
    (base r ∧ slotOwner r.mem 0 ≠ 0 ∧ Kind.ofCode (slotKind r.mem 0) = some .raise ∧ recordOk r.mem 0 .raise = false) ∧
    (base g ∧ slotOwner g.mem 0 ≠ 0 ∧ Kind.ofCode (slotKind g.mem 0) = some .recoverHold ∧
      recordOk g.mem 0 .recoverHold = true ∧ gate g.ctl.mode .recoverHold = some .badState) ∧
    (base f ∧ slotOwner f.mem 0 ≠ 0 ∧ Kind.ofCode (slotKind f.mem 0) = some .raise ∧
      recordOk f.mem 0 .raise = true ∧ gate f.ctl.mode .raise = some .interlock) := by decide +kernel

/-- At the nest height; below it from the stow; clamped, with a RAISE and a LOWER open. -/
theorem witness_RaiseAccepted :
    let a := holding aloft 1 (le16 1500)
    let b := holding stowed 1 (le16 1499)
    let c := opened (opened (holding aloft 1 (le16 15001)) 3 .raise) 4 .lower
    (Taken a .raise 0 ∧ Sound a ∧ RaiseClear a ∧ (1500 : Int) = readU16 a.mem (argAddr 0 0)) ∧
    (Taken b .raise 0 ∧ Sound b ∧ RaiseClear b ∧ (1499 : Int) = readU16 b.mem (argAddr 0 0) ∧ ¬ LowBarred b) ∧
    (Taken c .raise 0 ∧ Sound c ∧ RaiseClear c ∧ (15001 : Int) = readU16 c.mem (argAddr 0 0)) := by
  refine ⟨?_, ?_, ?_⟩ <;> decide +kernel

theorem witness_LowerAccepted :
    let a := opened (holding aloft 2 (le16 1500)) 3 .raise
    let b := opened (holding aloft 2 (le16 1499)) 3 .aim
    let c := opened (inMode (holding aloft 2 (le16 7000)) .forcedStow) 3 .lower
    (Taken a .lower 0 ∧ Sound a ∧ (1500 : Int) = readU16 a.mem (argAddr 0 0) ∧ (1500 : Int) = min 1500 (extension a) ∧
      a.ctl.mode ≠ .forcedStow) ∧
    (Taken b .lower 0 ∧ Sound b ∧ (1499 : Int) = readU16 b.mem (argAddr 0 0) ∧ (1499 : Int) = min 1499 (extension b) ∧
      b.ctl.mode ≠ .forcedStow ∧ b.ctl.dishState ≠ .failed) ∧
    (Taken c .lower 0 ∧ Sound c ∧ (7000 : Int) = readU16 c.mem (argAddr 0 0) ∧ (6000 : Int) = min 7000 (extension c) ∧
      c.ctl.mode = .forcedStow) := by
  refine ⟨?_, ?_, ?_⟩ <;> decide +kernel

theorem witness_StowAccepted :
    let a := opened (inMode (holding aloft 3 []) .recovery) 3 .point
    let b := opened (inMode (holding aloft 3 []) .forcedStow) 3 .lower
    (Taken a .stow 0 ∧ Sound a ∧ a.ctl.mode ≠ .forcedStow ∧ a.ctl.dishState ≠ .failed) ∧
    (Taken b .stow 0 ∧ Sound b ∧ b.ctl.mode = .forcedStow) := by decide +kernel

/-- A mast goal at the nest height, and a site 50 m away. -/
def nearSite (dE : Int) : State :=
  let s := sited (atRest 1500 ⟨100, 200, 300⟩ .held .parked) 1
  s.withGeo { s.geo with fix := some { fix7 with east := 13000 - dE, north := 7000 } }

/-- A solution to be computed, and one to be reused. -/
theorem witness_AimAccepted :
    let f : Fix := { fix7 with east := 12950, north := 7000 }
    let ok := fun s : State => Taken s .aim 0 ∧ Sound s ∧ tableSound s ∧ s.ctl.dishState ≠ .failed ∧
      1500 ≤ s.stance.mastGoal ∧ readU8 s.mem (argAddr 0 0) = (2 : Fin 32).val ∧ (readSite s.mem 2).acceptable = true ∧
      s.geo.fix = some f ∧ 50 ≤ rangeOf (readSite s.mem 2) f
    let a := opened (holding (nearSite 50) 4 [2, 3]) 3 .point
    let b := a.withEntry 2 { Entry.zero with state := .computed, fixGen := 1, height := 1500, revision := 1 }
    (ok a ∧ (a.entry 2).state ≠ .computed) ∧
    (ok b ∧ (b.entry 2).revision = (readSite b.mem 2).revision ∧ (b.entry 2).state = .computed ∧
      (b.entry 2).fixGen = b.geo.fixGen ∧ (b.entry 2).height = b.ctl.effTarget) := by
  refine ⟨?_, ?_⟩ <;> decide +kernel

theorem witness_AimChecks :
    let base := fun s : State => Taken s .aim 0 ∧ Memory.wf s.mem = true ∧ s.ctl.dishState ≠ .failed ∧
      1500 ≤ s.stance.mastGoal
    let a := holding (nearSite 50) 4 [32, 0]
    let b := holding (sited aloft 2) 4 [2, 0]
    let c := (holding (sited aloft 1) 4 [2, 0]).withGeo Geometry.reset
    let d := holding (nearSite 49) 4 [2, 0]
    (base a ∧ 32 = readU8 a.mem (argAddr 0 0)) ∧
    (base b ∧ 2 = readU8 b.mem (argAddr 0 0) ∧ (readSite b.mem 2).inUse ≠ 0 ∧ (readSite b.mem 2).acceptable = false) ∧
    (base c ∧ 2 = readU8 c.mem (argAddr 0 0) ∧ (readSite c.mem 2).acceptable = true ∧ c.geo.fix = none) ∧
    (base d ∧ 2 = readU8 d.mem (argAddr 0 0) ∧ (readSite d.mem 2).acceptable = true ∧
      d.geo.fix = some { fix7 with east := 12951, north := 7000 } ∧
      rangeOf (readSite d.mem 2) { fix7 with east := 12951, north := 7000 } < 50) := by decide +kernel

/-- On site 2 with the dish goal SITE. -/
def onSite (d : DishState) : State :=
  let s := sited (atRest 12000 ⟨2238, -111, 28⟩ .held d) 1
  s.withStance { s.stance with site := some 2, dishGoal := .site, watch := true }

def held (s : State) : State := s.withIlk { s.ilk with lines := ⟨true, false, false, true⟩ }

theorem witness_PeakAccepted :
    let a := opened (holding (onSite .onSolution) 5 []) 3 .peak
    let b := held (holding (onSite .locked) 5 [])
    (Taken a .peak 0 ∧ Sound a ∧ a.ctl.dishState = .onSolution ∧ a.ilk.lines.hold = false) ∧
    (Taken b .peak 0 ∧ Sound b ∧ b.ctl.dishState = .locked ∧ b.ilk.lines.hold = true) := by decide +kernel

/-- A search at the nest height and 1 mm below it, over an EMPTY entry; one with a lost level; one of a withdrawn site. -/
theorem witness_PeakAccepted_search :
    let base := fun s : State => s.stance.site = some 2 ∧ Sound s ∧ tableSound s
    let at_ := fun h : Int => (onSite .onSolution).withAxis .mast (axisAt h)
    let usable := fun s : State => (readSite s.mem 2).acceptable = true ∧ s.geo.fix = some fix7 ∧
      (s.entry 2).state = .empty ∧ 50 ≤ rangeOf (readSite s.mem 2) fix7
    let lost := (at_ 1500).withLevel { aloft.level with invalidRun := 3 }
    let gone := (sited aloft 2).withStance (onSite .onSolution).stance
    (base (at_ 1500) ∧ usable (at_ 1500) ∧ (at_ 1500).level.invalidRun < 3 ∧ ¬ extension (at_ 1500) < 1500) ∧
    (base (at_ 1499) ∧ usable (at_ 1499) ∧ extension (at_ 1499) < 1500) ∧
    (base lost ∧ usable lost ∧ 3 ≤ lost.level.invalidRun) ∧
    (base gone ∧ ¬ (readSite gone.mem 2).acceptable = true) := by
  refine ⟨?_, ?_, ?_, ?_⟩ <;> decide +kernel

theorem witness_PointAccepted :
    let a := opened (holding (atRest 1500 ⟨0, 0, 0⟩ .held .parked) 6 (le16 (-27001) ++ le16 3000 ++ le16 9001)) 3 .aim
    Taken a .point 0 ∧ Sound a ∧ a.ctl.dishState ≠ .failed ∧ 1500 ≤ a.stance.mastGoal ∧
    (⟨-27001, 3000, 9001⟩ : Targets) =
      ⟨readS16 a.mem (argAddr 0 0), readS16 a.mem (argAddr 0 2), readS16 a.mem (argAddr 0 4)⟩ ∧
    (⟨-27000, 3000, 9000⟩ : Targets) =
      ⟨max (-27000) (min 27000 (-27001)), max (-9000) (min 3000 3000), max (-9000) (min 9000 9001)⟩ := by decide +kernel

/-- The mast on its way up to 12,000. -/
def rising (h : Int) : State :=
  let s := atRest h ⟨0, -9000, 0⟩ .rising .stowed
  { s with
    axes := { s.axes with
      mast := { axisAt h with target := 12000, phase := .driving, deadline := some 1230 }, lock := .released }
    stance := { s.stance with mastGoal := 12000 }
    arb := ⟨[⟨.mast, 25⟩], []⟩ }

/-- R4, R103: a rise retargeted to 10 mm below the extension is DESCENDING and has arrived. -/
theorem test_retarget_below :
    let s := recomputeEff ((rising 6000).withMastGoal 5990)
    (s.ctl.mastState, s.axes.mast.target, s.axes.mast.arrived) = (.descending, 5990, true) := by decide +kernel

/-- R10: with OVERHEAD active a lowering mast is not retargeted to 10 mm above its extension, and the target stays due. -/
theorem test_upward_retarget_held :
    let s := (rising 6000).withIlk { (rising 6000).ilk with lines := ⟨true, true, false, false⟩ }
    let s := s.withAxis .mast { s.axes.mast with target := 3000 }
    let t := recomputeEff ((s.withCtl { s.ctl with mastState := .descending, effTarget := 3000 }).withMastGoal 6010)
    (t.axes.mast.target, t.axes.mast.arrived, t.ctl.mastState, t.ctl.upwardDue) = (3000, false, .descending, true) := by
  decide +kernel

/-- R145, R10: the stow line ends a rise that reads 10 mm below 0 mm: the mast is given its stow target and has arrived. -/
theorem test_forced_stow_below_zero :
    let t := nextOf (exec (.stowLineChange true) (rising (-10)))
    t.map (fun t => (t.ctl.mode, t.axes.mast.target, t.axes.mast.arrived)) = some (.forcedStow, 0, true) := by
  decide +kernel

theorem witness_HaltAccepted :
    let a := opened (holding (rising 6000) 7 []) 3 .raise
    let b := inMode (holding aloft 7 []) .halted
    let c := holding waiting 7 []
    (Taken a .halt 0 ∧ Sound a ∧ a.ctl.mode ≠ .halted ∧ a.axes.mast.phase = .driving ∧ requestsSound a) ∧
    (Taken b .halt 0 ∧ Sound b ∧ b.ctl.mode = .halted) ∧
    (Taken c .halt 0 ∧ Sound c ∧ c.ctl.mode ≠ .halted ∧ c.axes.mast.inMove = false ∧ requestsSound c ∧
      (c.axis .pan).phase = .waiting) := by
  refine ⟨?_, ?_, ?_⟩ <;> decide +kernel

theorem witness_RecoverHoldAccepted :
    let a := inMode (holding (atRest 1500 ⟨100, 200, 300⟩ .held .parked) 13 []) .recovery
    let b := inMode (holding (atRest 1499 ⟨100, -8900, 200⟩ .held .stowed) 13 []) .recovery
    (Taken a .recoverHold 0 ∧ 1500 ≤ extension a) ∧ (Taken b .recoverHold 0 ∧ inWindow b = true) := by decide +kernel

theorem witness_StanceRefusals :
    let r := (holding aloft 1 (le16 1500)).withIlk { aloft.ilk with pitch := 501 }
    let l := holding low 1 (le16 1499)
    let d := dishLost (holding aloft 2 (le16 1499))
    let w := dishLost (holding aloft 3 [])
    let m := holding low 4 [2, 0]
    let p := holding aloft 5 []
    let q := holding low 6 []
    let h := inMode (holding low 13 []) .recovery
    (Memory.wf r.mem = true ∧ Taken r .raise 0 ∧ ¬ RaiseClear r) ∧
    (Memory.wf l.mem = true ∧ Taken l .raise 0 ∧ RaiseClear l ∧ readU16 l.mem (argAddr 0 0) < 1500 ∧ LowBarred l) ∧
    (Memory.wf d.mem = true ∧ Taken d .lower 0 ∧ d.ctl.mode ≠ .forcedStow ∧
      min (readU16 d.mem (argAddr 0 0) : Int) (extension d) < 1500 ∧ d.ctl.dishState = .failed ∧ inWindow d = false) ∧
    (Memory.wf w.mem = true ∧ Taken w .stow 0 ∧ w.ctl.mode ≠ .forcedStow ∧ w.ctl.dishState = .failed) ∧
    (Memory.wf m.mem = true ∧ Taken m .aim 0 ∧ m.stance.mastGoal < 1500) ∧
    (Memory.wf p.mem = true ∧ Taken p .peak 0 ∧ p.ctl.dishState ≠ .onSolution ∧ p.ctl.dishState ≠ .locked ∧
      p.ctl.dishState ≠ .peaking) ∧
    (Memory.wf q.mem = true ∧ Taken q .point 0 ∧ q.stance.mastGoal < 1500) ∧
    (Memory.wf h.mem = true ∧ Taken h .recoverHold 0 ∧ extension h < 1500 ∧ inWindow h = false) := by
  refine ⟨?_, ?_, ?_, ?_, ?_, ?_, ?_, ?_⟩ <;> decide +kernel

/-! ## Witnesses: exchange -/

/-- Package 3 as prepared: its state byte, dish goal and mast goal given, site 2. -/
def packed (s : State) (state goal : Nat) (height : Int) : State :=
  { s with mem := writeFields s.mem [(packageAddr 3, [BitVec.ofNat 8 state, 2, BitVec.ofNat 8 goal]),
      (packageAddr 3 + 8, le16 height)] }

theorem witness_SwapChecks :
    let base := fun (s : State) (n : Nat) => Taken s .swap 0 ∧ Memory.wf s.mem = true ∧ n = readU8 s.mem (argAddr 0 0)
    let busy := fun s : State => (∃ c ∈ s.board.openSet, c.kind = .stow) ∨ s.ctl.dishState = .failed
    let blocked := fun s : State => extension s + 20 < ((readPackage s.mem 3).mastGoal : Int) ∧ ¬ RaiseClear s
    let a := holding aloft 8 [4]
    let b := holding aloft 8 [3]
    let c := opened (holding (packed aloft 1 1 0) 8 [3]) 2 .stow
    let d := holding (packed aloft 3 1 0) 8 [3]
    let e := holding (packed aloft 1 2 1500) 8 [3]
    let f := held (holding (packed aloft 1 1 6021) 8 [3])
    let f := f.withIlk { f.ilk with lines := ⟨false, false, false, false⟩ }
    let g := holding (packed (sited aloft 1) 2 2 15000) 8 [3]
    (base a 4) ∧ (base b 3 ∧ (readPackage b.mem 3).state = 0) ∧
    (base c 3 ∧ (readPackage c.mem 3).state ≠ 0 ∧ busy c) ∧
    (base d 3 ∧ (readPackage d.mem 3).state ≠ 0 ∧ ¬ busy d ∧ (readPackage d.mem 3).valid = false) ∧
    (base e 3 ∧ ¬ busy e ∧ (readPackage e.mem 3).valid = true ∧ (readPackage e.mem 3).dishGoal = 2 ∧
      aimCheck e (readPackage e.mem 3).site = some .badSite) ∧
    (base f 3 ∧ ¬ busy f ∧ (readPackage f.mem 3).valid = true ∧ (readPackage f.mem 3).dishGoal ≠ 2 ∧ blocked f) ∧
    (base g 3 ∧ ¬ busy g ∧ (readPackage g.mem 3).valid = true ∧ (readPackage g.mem 3).dishGoal = 2 ∧
      aimCheck g (readPackage g.mem 3).site = none ∧ ¬ blocked g) := by
  refine ⟨?_, ?_, ?_, ?_, ?_, ?_, ?_⟩ <;> decide +kernel

/-- `aloft` with its mast turning round: it waits with its lock RELEASED. -/
def turning : State :=
  { withMast { axisAt 6000 with phase := .waiting, target := 9000 } .released [⟨.tilt, 8⟩, ⟨.pan, 8⟩] with
    arb := ⟨[⟨.tilt, 8⟩, ⟨.pan, 8⟩], [⟨.mast, 25, .ordinary⟩]⟩ }

/-- The mast in a phase, with a stop asked for or none. -/
def phased (p : Phase) (l : Lock) (k : Option StopKind) : State :=
  withMast { axisAt 6000 with phase := p, target := 9000, stop := k } l [⟨.mast, 25⟩]

/-- The start of a quiesce: a search, a drive, a request, a lock release, a mast that turns round. -/
theorem witness_SwapChecks_quiesce :
    let q := (onSite .peaking).withLevel { aloft.level with search := some (newSearch stowed 2 .full) }
    (requestsSound q ∧ q.level.search.isSome = true ∧ dishAtRest q = true ∧ q.ctl.dishState ≠ .failed) ∧
    (requestsSound (rising 6000) ∧ ((rising 6000).axis .mast).phase = .driving) ∧
    (requestsSound waiting ∧ (waiting.axis .pan).phase = .waiting ∧ dishAtRest waiting = false ∧
      waiting.ctl.dishState ≠ .failed ∧ dishAtRest (quiesceStart waiting) = true) ∧
    (requestsSound (phased .releasing .releasing none) ∧ (phased .releasing .releasing none).axes.mast.phase = .releasing) ∧
    (requestsSound turning ∧ turning.axes.mast.phase = .waiting ∧ turning.axes.lock = .released) := by
  refine ⟨?_, ?_, ?_, ?_, ?_⟩ <;> decide +kernel

/-- A valid block at the ends of the ranges of R49, and one that is not valid at the ends of its fields. -/
theorem witness_PackageRoundTrip :
    let st : Stance := ⟨none, 1500, .point ⟨-27000, 3000, 9000⟩, true, false, false⟩
    let t : Trim := ⟨true, -300, 300, -200, 255, -2000000, 2000000, 35999⟩
    Memory.wf ([] : Memory) = true ∧ 0 ≤ st.mastGoal ∧ st.mastGoal ≤ 15000 ∧
    (st.dishGoal.aimed = true → 1500 ≤ st.mastGoal) ∧ (st.dishGoal = .site → st.site ≠ none) ∧
    (st.peakPending = true → st.dishGoal = .site) ∧
    (∀ x, st.dishGoal = .point x → -27000 ≤ x.pan ∧ x.pan ≤ 27000 ∧ -9000 ≤ x.tilt ∧ x.tilt ≤ 3000 ∧
      -9000 ≤ x.pol ∧ x.pol ≤ 9000) ∧
    (t.valid = true ∧ -300 ≤ t.pan ∧ t.pan ≤ 300 ∧ -300 ≤ t.tilt ∧ t.tilt ≤ 300 ∧ -1000 ≤ t.peak ∧ t.peak ≤ -200 ∧
      t.datum < 256 ∧ -2000000 ≤ t.east ∧ t.east ≤ 2000000 ∧ -2000000 ≤ t.north ∧ t.north ≤ 2000000 ∧
      0 ≤ t.heading ∧ t.heading ≤ 35999 ∧ 65535 < 65536) ∧
    ∀ z ∈ [Trim.zero, ⟨false, 32767, -32768, -32768, 255, 2147483647, -2147483648, 65535⟩],
      z.valid = false ∧ -32768 ≤ z.pan ∧ z.pan ≤ 32767 ∧ -32768 ≤ z.tilt ∧ z.tilt ≤ 32767 ∧ -32768 ≤ z.peak ∧
      z.peak ≤ 32767 ∧ z.datum < 256 ∧ -2147483648 ≤ z.east ∧ z.east ≤ 2147483647 ∧ -2147483648 ≤ z.north ∧
      z.north ≤ 2147483647 ∧ 0 ≤ z.heading ∧ z.heading ≤ 65535 := by
  refine ⟨by decide, by decide, by decide, by decide, by decide, by decide, ?_, by decide, by decide⟩
  intro x h
  cases h
  decide

/-- Trims learned 24 square metres and 99 cdeg away are adopted, at 25 they are not. -/
theorem witness_AdoptionRule :
    let s := sited aloft 1
    let p : Package := { Package.zero with
      site := 2, trimValid := 1, datum := 7, east := 1002, north := 2004, heading := 4599 }
    let q : Package := { p with east := 1003 }
    let d := fun (a b : Int) => (a - b) * (a - b)
    tableSound s ∧ p.site = (2 : Fin 32).val ∧ s.geo.fix = some fix7 ∧
    (p.trimValid = 1 ∧ p.datum = fix7.datum ∧ d fix7.east p.east + d fix7.north p.north < 25 ∧
      min (p.heading - fix7.heading : Int).natAbs (36000 - (p.heading - fix7.heading : Int).natAbs) < 100) ∧
    q.site = (2 : Fin 32).val ∧ ¬ d fix7.east q.east + d fix7.north q.north < 25 := by decide +kernel

/-! ## Witnesses: module commands -/

/-- The arguments of a SET_FIX with a datum and a heading at (1,000, 2,000). -/
def fixArgs (datum heading : Int) : List Byte :=
  le8 datum ++ le8 0 ++ le16 heading ++ le32 1000 ++ le32 2000 ++ le32 1200

theorem witness_SetFixTaken :
    let a := holding stowed 9 (fixArgs 7 36000)
    let b := holding stowed 9 (fixArgs 7 35999)
    let c := holding (onSite .parked) 9 (fixArgs 7 4500)
    let c := c.withEntry 2 { Entry.zero with revision := 1 }
    (Taken c .setFix 0 ∧ Sound c ∧ tableSound c ∧ c.geo.fix = some fix7 ∧ fix7 = readFix c.mem 0 ∧
      c.stance.dishGoal = .site ∧ c.stance.site = some 2 ∧ (readSite c.mem 2).acceptable = true ∧
      (readSite c.mem 2).revision = (c.entry 2).revision ∧ 50 ≤ rangeOf (readSite c.mem 2) fix7) ∧
    (Taken a .setFix 0 ∧ Memory.wf a.mem = true ∧ ({ fix7 with heading := 36000 } : Fix) = readFix a.mem 0) ∧
    (Taken b .setFix 0 ∧ Sound b ∧ tableSound b ∧ b.geo.fix = none ∧
      ({ fix7 with heading := 35999 } : Fix) = readFix b.mem 0) := by
  refine ⟨?_, ?_, ?_⟩ <;> decide +kernel

theorem witness_TableAfterFix :
    let a := holding (onSite .parked) 9 (fixArgs 7 4500)
    let b := holding (onSite .parked) 9 (fixArgs 8 4500)
    let s := a.withEntry 2 { Entry.zero with revision := 1 }
    let e := fix7
    let f : Fix := { fix7 with datum := 8 }
    (Taken a .setFix 0 ∧ tableSound a ∧ e = readFix a.mem 0 ∧ e.acceptable = true ∧
      a.geo.fix = some fix7 ∧ fix7.datum = e.datum) ∧
    (s.stance.dishGoal = .site ∧ s.stance.site = some 2 ∧ (readSite s.mem 2).acceptable = true ∧
      (readSite s.mem 2).revision = (s.entry 2).revision ∧ 50 ≤ rangeOf (readSite s.mem 2) e) ∧
    (Taken b .setFix 0 ∧ tableSound b ∧ f = readFix b.mem 0 ∧ f.acceptable = true ∧
      b.geo.fix = some fix7 ∧ fix7.datum ≠ f.datum) := by decide +kernel

theorem witness_SetLimitsTaken :
    let l := { Limits.defaults with initialStep := 20, minStep := 20, t1 := 149, t2 := 150, t3 := 151, c2 := 10000 }
    let k := { l with initialStep := 19 }
    let a := holding stowed 10 (limitsBytes k)
    let b := holding stowed 10 (limitsBytes l)
    (Taken a .setLimits 0 ∧ Memory.wf a.mem = true ∧ k = readLimits a.mem (argAddr 0 0) ∧ ¬ k.minStep ≤ k.initialStep) ∧
    (Taken b .setLimits 0 ∧ Sound b ∧ l = readLimits b.mem (argAddr 0 0) ∧
      l = formLimits b.wind.fleetLock l ∧ l.minStep ≤ l.initialStep ∧ l.t1 < l.t2 ∧ l.t2 < l.t3 ∧ l.c1 ≤ l.c0 ∧
      l.c2 ≤ l.c1) := by decide +kernel

theorem witness_SetLimitsTaken_judged :
    let l := { Limits.defaults with t1 := 99 }
    let b := holding (aloft.withWind { aloft.wind with figure := 99 }) 10 (limitsBytes l)
    let d := b.withWind { b.wind with anem := .refill, carry := .bandTwo, band := 3 }
    ∀ s ∈ [b, d], Taken s .setLimits 0 ∧ Memory.wf s.mem = true ∧ l = readLimits s.mem (argAddr 0 0) ∧
      l = formLimits s.wind.fleetLock l ∧ l ≠ s.limits ∧ s.wind.priming = false := by decide +kernel

theorem witness_SetLimitsTaken_equal :
    let a := holding stowed 10 (limitsBytes Limits.defaults)
    Taken a .setLimits 0 ∧ Memory.wf a.mem = true ∧ Limits.defaults = readLimits a.mem (argAddr 0 0) ∧
    Limits.defaults = formLimits a.wind.fleetLock Limits.defaults ∧ Limits.defaults = a.limits ∧
    (formLimits true { Limits.defaults with t1 := 101 }).t1 = 100 := by decide +kernel

theorem witness_ClearFaultTaken :
    let a := (holding aloft 11 []).withFaults [.stall .pan, .sensor .anemo]
    let a := a.withAxis .pan { axisAt 100 with phase := .faulted }
    let b := inMode ((holding aloft 11 []).withFaults [.stall .mast]) .halted
    (Taken a .clearFault 0 ∧ Sound a ∧ a.ilk.faults.length ≤ 16 ∧ a.ctl.mode = .normal ∧ (a.axis .pan).phase = .faulted ∧
      axisHasFault (a.ilk.faults.filter (fun f => !removable a f)) .pan = false) ∧
    (Taken b .clearFault 0 ∧ Sound b ∧ b.ctl.mode = .halted ∧
      anyAxisFault (b.ilk.faults.filter (fun f => !removable b f)) = false) := by decide +kernel

theorem witness_ClearFaultTaken_dish :
    let a := (dishLost (holding aloft 11 [])).withFaults [.stall .pan]
    Taken a .clearFault 0 ∧ Sound a ∧ a.ctl.mode = .normal ∧ a.ctl.dishState = .failed ∧
    ∀ x, x ≠ .mast → axisHasFault (a.ilk.faults.filter (fun f => !removable a f)) x = false ∧
      (a.axis x).faultStop = false := by
  refine ⟨by decide +kernel, by decide +kernel, by decide, by decide, ?_⟩
  intro x
  cases x <;> decide +kernel

/-- HALTED with the mast FAULTED and its goal waiting for it, and a FAILED dish. -/
theorem witness_ClearFaultTaken_halted :
    let h := (inMode (dishLost (holding aloft 11 [])) .halted).withFaults [.stall .mast, .sensor (.axis .pan)]
    let h := (h.withAxis .mast { axisAt 6000 with phase := .faulted }).withAxis .pan { axisAt 100 with phase := .faulted }
    let h := h.withCtl { h.ctl with mastState := .failed, goalOnReturn := true }
    (Taken h .clearFault 0 ∧ Sound h ∧ h.ilk.faults.length ≤ 16 ∧ h.ctl.mode = .halted) ∧
    h.ilk.faults.filter (fun f => !removable h f) = [] ∧ h.ctl.mastState = .failed ∧
    h.axes.mast.phase = .faulted ∧ h.ctl.dishState = .failed ∧ dishAtRest h = true ∧ (h.axis .pan).faultStop = false ∧
    (h.axis .tilt).faultStop = false ∧ (h.axis .pol).faultStop = false := by decide +kernel

/-- In FORCED_STOW a dish that returns and one that does not; in HALTED a mast that returns and a pan that does not. -/
theorem witness_ClearFaultTaken_stays :
    let left := fun s : State => s.ilk.faults.filter (fun f => !removable s f)
    let f := (inMode (dishLost (holding aloft 11 [])) .forcedStow).withFaults [.stall .pan]
    let f := (f.withAxis .pan { axisAt 100 with phase := .faulted }).withStance { f.stance with dishGoal := .stow }
    let g := (f.withFaults [.sensor (.axis .pan)]).withAxis .pan { axisAt 100 with phase := .faulted, encValid := false }
    let h := (inMode (dishLost (holding aloft 11 [])) .halted).withFaults [.stall .mast, .sensor (.axis .pan)]
    let h := (h.withAxis .mast { axisAt 6000 with phase := .faulted }).withAxis .pan
      { axisAt 100 with phase := .faulted, encValid := false }
    let h := h.withCtl { h.ctl with mastState := .failed }
    (Taken f .clearFault 0 ∧ Sound f ∧ f.ctl.mode = .forcedStow ∧ f.ctl.dishState = .failed ∧
      f.stance.dishGoal = .stow ∧ canIssue f = true ∧ dishAtRest f = true ∧ f.axes.tripped = Switches.clear ∧
      requestsSound f ∧ left f = [] ∧ (f.axis .pan).faultStop = false ∧ (f.axis .tilt).faultStop = false ∧
      (f.axis .pol).faultStop = false ∧ near .tilt (stowTarget .tilt) (f.axis .tilt).position = false) ∧
    (Taken g .clearFault 0 ∧ Sound g ∧ g.ctl.mode = .forcedStow ∧ axisHasFault (left g) .pan = true) ∧
    (Taken h .clearFault 0 ∧ Sound h ∧ h.ctl.mode = .halted ∧ anyAxisFault (left h) = true ∧
      axisHasFault (left h) .mast = false ∧ h.ctl.mastState = .failed ∧ h.axes.mast.phase = .faulted ∧
      h.axes.tripped = Switches.clear) := by
  refine ⟨?_, ?_, ?_⟩ <;> decide +kernel

theorem witness_StandbyAccepted :
    let a := holding stowed 12 []
    Taken a .standby 0 ∧ Memory.wf a.mem = true ∧ a.board.intake = [0] ∧ a.ctl.mastState = .nested ∧
    a.ctl.dishState = .stowed ∧ a.board.openSet = [] := by decide +kernel

/-! ## Witnesses: the bus port -/

theorem witness_NotifyWrite :
    (stowed.power.standby ≠ .asleep) ∧
    (asleep.power.standby = .asleep ∧ portValue (.lowByte 0x80) &&& 0x00FF#16 ≠ 0#16) ∧
    (asleep.power.standby = .asleep ∧ portValue (.highByte 0x80) &&& 0x00FF#16 = 0#16) := by decide

theorem witness_NoticeAndControlWrites :
    let on := stowed.withBoard { stowed.board with control := 0x10#16 }
    ((portValue (.word 0xFFFF) &&& 0x001F#16).getLsbD 4 = true ∧ on.board.control.getLsbD 4 = true) ∧
    ((portValue (.highByte 0xFF) &&& 0x001F#16).getLsbD 4 = false) ∧
    ((portValue (.lowByte 0x10) &&& 0x001F#16).getLsbD 4 = true ∧ stowed.board.control.getLsbD 4 = false ∧
      telemetryRuns stowed = true) ∧ telemetryRuns asleep = false := by decide

theorem witness_HostWrites : Memory.wf stowed.mem = true ∧ (0x7FFE#15).toNat % 2 = 0 ∧ (0x7FFF#15).toNat % 2 = 1 := by
  decide

theorem witness_StatusFields : (stowed.withBoard { stowed.board with intake := allSlots }).board.intake.length ≤ 8 := by
  decide

theorem witness_SiteTableReadOnly :
    exec .anemoOkHigh stowed = .next stowed ∧ 0x400 ≤ 0xBFF ∧ 0xBFF < 0xC00 := by
  refine ⟨rfl, ?_⟩
  decide

/-! ## Witnesses: lines and forced stow -/

theorem witness_LineChangesTaken : running stowed = true ∧ stowed.power.phase ≠ .settle := by decide

/-- Each line at both levels, and the release of HOLD_LINE where targets may be issued and in HALTED. -/
theorem witness_LineChangesTaken_acts :
    let lines := fun l : Lines => aloft.withIlk { aloft.ilk with lines := l }
    let free := fun s : State => recomputeIssuing (s.withIlk { s.ilk with lines := { s.ilk.lines with hold := false } })
    let halted := inMode (held aloft) .halted
    (∀ s ∈ [lines ⟨false, true, true, true⟩, lines ⟨true, false, false, false⟩, held aloft, halted],
      running s = true ∧ s.power.phase ≠ .settle) ∧
    aloft.ctl.mastState ≠ .rising ∧ (held aloft).ilk.lines.hold = true ∧ canIssue (free (held aloft)) = true ∧
    halted.ilk.lines.hold = true ∧ canIssue (free halted) = false := by decide +kernel

/-- A dish at rest on its solution, LOCKED after a fifth check, with a search pending, and one that has left it. -/
theorem witness_LineChangesTaken_again :
    let s := (onSite .locked).withEntry 2 { Entry.zero with
      state := .computed, sol := ⟨2238, -111, 28, 6738, 31, 13000, false⟩ }
    let e := liveEntry s
    let t := deriveTargets e.sol 0 0 s.axes.pan.position
    canIssue s = true ∧ e.trim.valid = false ∧ e.state ≠ .empty ∧ s.stance.dishGoal = .site ∧ s.ctl.dishState = .locked ∧
    s.ctl.touchUpMark = false ∧ dishAtRest s = true ∧ dishNear s t = true ∧ s.stance.peakPending = false ∧
    (s.withLevel { s.level with watch := some 5 }).level.watch = some 5 ∧ (s.withPeakPending true).stance.peakPending = true ∧
    canIssue (aloft) = true ∧ aloft.stance.dishGoal ≠ .site := by decide +kernel

theorem witness_StandbyWakes :
    let l : Lines := { asleep.ilk.lines with park := false }
    let o : Lines := { asleep.ilk.lines with overhead := true }
    let h : Lines := { asleep.ilk.lines with hold := true }
    (asleep.ctl.mode = .standby ∧ asleep.power.standby = .asleep ∧ asleep.power.phase ≠ .settle) ∧
    (l ≠ asleep.ilk.lines ∧ l = { asleep.ilk.lines with park := l.park }) ∧
    (h ≠ asleep.ilk.lines) ∧ (o ≠ asleep.ilk.lines ∧ o = { asleep.ilk.lines with overhead := o.overhead }) := by decide

/-- In its quiesce, from the package given. -/
def quiescing (s : State) : State :=
  let t := packed (sited s 1) 1 2 6000
  opened { t with swap := ⟨.quiesce, 3, 5, readPackage t.mem 3⟩ } 5 .swap

theorem witness_OverheadStopsRise :
    let up := fun s : State => opened (s.withMastState .rising) 3 .raise
    let first : State := { turning with axes := { turning.axes with lock := .engaged } }
    ∀ s ∈ [up (rising 6000), up (quiescing (rising 6000)), up turning, up first, up (phased .releasing .releasing none),
        up (phased .engaging .engaging none)],
      Memory.wf s.mem = true ∧ s.ctl.mode = .normal ∧ s.ctl.mastState = .rising ∧ s.power.phase ≠ .settle ∧
      s.ilk.lines.overhead = false ∧ s.ilk.faults.length < 16 ∧ requestsSound s := by decide

theorem witness_HoldStops :
    let s := opened (rising 6000) 3 .peak
    let q := quiescing s
    let d := aloft.withAxis .pan { axisAt 100 with phase := .driving, target := 900 }
    let p := { (s.withPeakPending true) with board := { s.board with
      openSet := s.board.openSet ++ [{ OpenCommand.new 4 .aim Warnings.empty with peakAfter := true }] } }
    (∀ u ∈ [s, q, d, p], Sound u ∧ running u = true ∧ u.power.phase ≠ .settle ∧ u.ilk.lines.hold = false) ∧
    s.swap.phase = .idle ∧ q.swap.phase = .quiesce ∧ s.axes.mast.phase = .driving ∧ (d.axis .pan).phase = .driving ∧
    p.stance.peakPending = true ∧ p.board.openSet.any (fun c => c.kind == .aim && c.peakAfter) = true := by
  decide

theorem witness_ForcedStowStarts :
    let s := opened (opened (onSite .onSolution) 3 .aim) 4 .stow
    Sound s ∧ s.ctl.mode = .normal ∧ s.swap.phase = .idle ∧ s.axes.tripped = Switches.clear ∧
    s.ilk.faults.length < 16 ∧ FaultId.vanMoved ∉ s.ilk.faults := by decide +kernel

/-- Each trigger about to be taken: 701 cdeg, and the figure of 200 pulses, the first of band 3. -/
theorem witness_ForcedStowStarts_triggers :
    let r : Tilts := ⟨true, -701, 0⟩
    (aloft.ctl.mode = .normal ∧ aloft.power.phase = .done ∧ aloft.power.standby = .awake ∧ aloft.ilk.faults.length < 8 ∧
      running aloft = true ∧ aloft.ctl.mastState = .held) ∧
    (aloft.ilk.lines.park = true ∧ aloft.ilk.judged.vanMoved = false) ∧
    (aloft.ilk.lines.stow = false ∧ aloft.ilk.judged.stowLine = false) ∧
    (r.valid = true ∧ 700 < r.pitch.natAbs ∧ 1500 < extension aloft ∧ aloft.ilk.judged.attitude = false) ∧
    (aloft.wind.running = true ∧ aloft.wind.priming = false ∧ aloft.ilk.judged.windStow = false ∧
      effCeiling aloft ≠ 0 ∧ effCeiling (windSample aloft 200) = 0) := by
  refine ⟨?_, ?_, ?_, ?_, ?_⟩ <;> decide +kernel

/-! ## Witnesses: wind -/

def windAs (a : Anemometer) (carry : Carried) (ok : Bool) (refill : Nat) : State :=
  stowed.withWind { stowed.wind with anem := a, carry := carry, anemoOk := ok, refill := refill, window := [10, 20, 30] }

theorem witness_WindSampleFigure :
    (∀ s ∈ [windAs .sampling .heldFigure true 0, windAs .sampling .heldFigure false 0,
        windAs .hold .heldFigure false 0, windAs .degraded .heldFigure false 0, windAs .refill .heldFigure true 2,
        windAs .refill .bandTwo true 1, windAs .refill .heldFigure false 2],
      s.wind.running = true ∧ s.wind.priming = false ∧ s.wind.window.length ≤ 3 ∧ s.wind.lowInSecond = false) := by
  decide

/-- The figure of 150 pulses in band 2; the last second of a residency period, and the one before it. -/
theorem witness_BandJudged :
    let fig := fun s p => (nextOf (exec (.windSample p) s)).map (fun t => (t.wind.figure, t.wind.band))
    let at_ := fun band elapsed => stowed.withWind { stowed.wind with
      band := band, residency := some ⟨elapsed, 600, false⟩ }
    (∀ s ∈ [at_ 0 0, at_ 1 599, at_ 1 598], s.wind.running = true ∧ s.wind.priming = false ∧
      s.wind.residency.isSome = true) ∧
    fig (at_ 0 0) 150 = some (150, 2) ∧ fig (at_ 0 0) 99 = some (99, 0) ∧ fig (at_ 1 599) 99 = some (99, 0) ∧
    fig (at_ 1 598) 99 = some (99, 1) := by decide +kernel

theorem witness_AnemometerEvents :
    (∀ s ∈ [windAs .sampling .heldFigure true 0, windAs .refill .heldFigure true 0, windAs .refill .bandTwo true 0,
        windAs .hold .heldFigure false 0, windAs .degraded .heldFigure false 0],
      s.wind.running = true ∧ s.wind.priming = false ∧ s.ilk.faults.length < 16) := by decide

theorem witness_PrimingEnds :
    let s := asleep.withWind { asleep.wind with running := true, priming := true, window := [5, 7, 3] }
    let l := asleep.withWind { asleep.wind with running := true, priming := true, primingLost := true, anemoOk := false }
    (s.wind.priming = true ∧ s.ctl.mode ≠ .starting ∧ s.wind.primingLost = false ∧ s.wind.window.length ≤ 3) ∧
    (l.wind.priming = true ∧ l.ctl.mode ≠ .starting ∧ l.wind.primingLost = true ∧ l.wind.anemoOk = false) := by decide

/-! ## Witnesses: level, watch, attitude -/

theorem witness_LevelSampleTaken :
    let s := aloft.withLevel { aloft.level with invalidRun := 2 }
    s.level.running = true ∧ s.level.history.length = 20 ∧ s.ilk.faults.length < 12 ∧
    100 ≤ (100#12).toNat ∧ (3300#12).toNat ≤ 3300 ∧ ¬ (100 ≤ (99#12).toNat) ∧ ¬ ((3301#12).toNat ≤ 3300) ∧
    s.level.invalidRun = 2 := by decide

def searching : Search where
  kind := .full
  site := 2
  centrePan := 0
  centreTilt := 0
  startPan := 0
  startTilt := 0
  lc := some (-640)
  step := 40
  probes := 2
  edge := false
  limit := false
  lockFloor := -700
  params := ⟨40, 5, 2, 40, 200⟩
  stage := .probe .pan false
  wait := .settling
  asked := ⟨2198, -111, 28⟩
  plusLevel := some (-625)
  minusLevel := some (-660)
  moved := false

/-- A search at one of its stages, with what it waits for. -/
def searchAt (k : SearchKind) (g : SearchStage) (w : SearchWait) : State :=
  ((onSite .peaking).withEntry 2 { Entry.zero with
    state := .computed, sol := ⟨2238, -111, 28, 6738, 31, 13000, false⟩ }).withLevel { aloft.level with
    search := some { searching with kind := k, stage := g, wait := w, asked := ⟨2238, -111, 28⟩ } }

/-- R76, R9, R123: a gust takes the mast of a searching dish from 12,000 mm down to 5,000. With no budget free the requests
stand in the order mast, pan, tilt, pol, and the dish is SLEWING to the site targets in force. -/
theorem test_gust_mast_first :
    let s := ((onSite .peaking).withLevel { aloft.level with search := some searching }).withSiteTargets ⟨500, 600, 700⟩ 0 0
    let s := s.withArb ⟨[⟨.mast, 40⟩], []⟩
    let s := { s with limits := { s.limits with c1 := 5000 }, wind := { s.wind with figure := 120, window := [120, 120, 120] } }
    (nextOf (exec (.windSample 12) s)).map (fun t =>
      (t.arb.waits.map (·.axis), t.ctl.dishState, t.ctl.touchUpMark, t.axes.pan.target, t.axes.mast.target)) =
      some ([.mast, .pan, .tilt, .pol], .slewing, true, 500, 5000) := by decide +kernel

/-- The third and the fourth sample of a measurement, at the centre and at both probe points, at and before the probe
limit: four samples of -640, -640, -640 and -639 have the floor -640. -/
theorem witness_LevelSampleTaken_search :
    let taken : List Int := [-640, -640, -640]
    let code := 1544#12
    (∀ g ∈ [SearchStage.reference, .probe .pan true, .probe .tilt false],
      let s := searchAt .full g (.sampling taken)
      s.level.running = true ∧ s.level.history.length = 20 ∧ s.level.search.map (·.stage) = some g ∧
        s.level.search.map (·.wait) = some (.sampling taken)) ∧
    (taken.length = 3 ∧ 100 ≤ code.toNat ∧ code.toNat ≤ 3300 ∧ ((code.toNat - 100) / 4 : Nat) - 1000 = (-639 : Int) ∧
      4 * (-640) ≤ taken.sum + -639 ∧ taken.sum + -639 < 4 * (-640) + 4) ∧
    (¬ 40 ≤ searching.probes + 1 ∧ (40 : Nat) ≤ 39 + 1 ∧ searching.params.probeLimit = 40) ∧
    (nextOf (exec (.levelSample code) (searchAt .full (.probe .pan true) (.sampling taken)))).map
      (fun t => t.level.search.map (fun c => (c.stage, c.plusLevel))) =
      some (some (.probe .pan false, some (-640))) := by
  refine ⟨?_, ?_, ?_, ?_⟩ <;> decide +kernel

/-- At the fifth low check, and one level above the threshold of the watch. -/
theorem witness_SettleTimeAndWatch :
    let s := (onSite .peaking).withLevel { aloft.level with search := some searching }
    let w := (onSite .locked).withLevel { aloft.level with watch := some 4 }
    (s.level.search = some searching ∧ searching.wait = .settling) ∧ w.level.search = none ∧ w.level.watch = some 4 ∧
    w.level.history.sum / 20 < (liveEntry w).trim.peak - w.limits.watchDrop ∧ canIssue w = true := by decide +kernel

theorem witness_InclinometerTaken :
    (aloft.power.phase ≠ .settle ∧ aloft.ctl.mode ≠ .standby ∧ aloft.ilk.faults.length < 16 ∧
      aloft.power.phase ≠ .warmUp ∧ aloft.power.standby ≠ .waking) ∧
    (waking.power.phase ≠ .settle ∧ waking.power.standby = .waking ∧ waking.ilk.faults.length < 16) := by decide

/-- Every encoder valid in WARM_UP, with a valid and an invalid reading of the inclinometer. -/
theorem witness_InclinometerTaken_ends :
    let s := (primed stowed).withPower { (primed stowed).power with phase := .warmUp }
    s.power.phase = .warmUp ∧ s.ctl.mode = .starting ∧ s.ilk.faults.length < 16 ∧ s.wind.anemoOk = true ∧
    ∀ a, (s.axis a).encValid = true := by
  refine ⟨by decide, by decide, by decide, by decide, ?_⟩
  intro a
  cases a <;> decide

/-! ## Witnesses: axes -/

theorem witness_EncoderReadings :
    let w := { State.afterReset .external [] [] true Switches.clear with
      power := { Power.reset .external with phase := .warmUp } }
    (aloft.power.phase ≠ .settle ∧ aloft.ctl.mode ≠ .standby) ∧
    (waking.power.phase ≠ .settle ∧ waking.power.standby = .waking) ∧
    (w.power.phase ≠ .settle ∧ w.ctl.mode ≠ .standby ∧ w.ctl.mode = .starting ∧ w.power.phase = .warmUp ∧
      (w.axis .mast).everValid = false) := by decide

/-- The last sensor of WARM_UP. -/
theorem witness_EncoderReadings_ends :
    let s := (primed stowed).withPower { (primed stowed).power with phase := .warmUp }
    let s := s.withAxis .pan { axisAt 0 with encValid := false, everValid := false }
    running s = false ∧ s.power.phase = .warmUp ∧ s.ilk.inclValid = true ∧ ∀ b, b ≠ .pan → (s.axis b).encValid = true := by
  refine ⟨by decide, by decide, by decide, ?_⟩
  intro b
  cases b <;> decide

/-- A rise that meets its target at 20 mm and passes it; both crossings at 1,500, of a dish that waits, of a search that
waits, of a dish that strays, and of one that does not. -/
theorem witness_EncoderReadings_mast :
    let x := (rising 11979).axes.mast
    let n := (low.withDish .nestWait)
    let q := (searchAt .full .reference .moving).withAxis .mast (axisAt 1499)
    let d := (atRest 1500 ⟨100, 200, 300⟩ .held .slewing).withAxis .pan { axisAt 100 with phase := .driving, target := 900 }
    let w := d.withAxis .tilt { axisAt 200 with phase := .driving, target := -9000 }
    (∀ s ∈ [rising 11979, n, q, d, w, held n, low], running s = true ∧ s.power.phase = .done) ∧
    (x.phase = .driving ∧ x.arrived = false ∧ (x.target - 11980).natAbs ≤ 20 ∧ 11979 < x.target ∧ x.target < 12021) ∧
    (extension n = 1499 ∧ canIssue n = true ∧ n.ctl.dishState = .nestWait ∧ canIssue (held n) = false) ∧
    (extension q = 1499 ∧ canIssue q = true ∧ q.ctl.dishState ≠ .nestWait ∧ q.ctl.dishShort = none ∧
      q.level.search.map (·.wait) = some .moving) ∧
    (low.ctl.dishState ≠ .nestWait ∧ low.ctl.dishShort = none ∧ low.level.search = none) ∧
    (extension d = 1500 ∧ requestsSound d ∧ (d.axis .pan).inMove = true ∧ (d.axis .pan).target ≠ stowTarget .pan) ∧
    (requestsSound w ∧ (w.axis .tilt).inMove = true ∧ (w.axis .tilt).target = stowTarget .tilt) := by
  refine ⟨?_, ?_, ?_, ?_, ?_, ?_, ?_⟩ <;> decide +kernel

/-- The mast in every phase of a fault stop but rest and drive, a mast that turns round among them. -/
theorem witness_OwnFaultStops_mast :
    ∀ s ∈ [phased .releasing .releasing none, phased .engaging .engaging none,
        phased .stopping .released (some .controlled), turning],
      s.power.phase ≠ .settle ∧ s.power.phase ≠ .warmUp ∧ s.ctl.mode ≠ .standby ∧ s.power.standby ≠ .waking ∧
      (s.axis .mast).encValid = true ∧ s.ilk.faults.length < 16 ∧ requestsSound s := by decide

/-- A loss that is none, one in a warm-up, and one at rest, waiting, driving; each way of a switch. -/
theorem witness_OwnFaultStops :
    let lost := fun s : State => s.power.phase ≠ .settle ∧ s.power.phase ≠ .warmUp ∧ s.ctl.mode ≠ .standby ∧
      s.power.standby ≠ .waking ∧ s.ilk.faults.length < 16 ∧ requestsSound s
    let up := rising 6000
    let t := aloft.withAxes { aloft.axes with contacts := aloft.axes.contacts.put .tiltUp true }
    let full := aloft.withFaults ([.windStow, .stall .mast, .stall .pan, .stall .tilt, .stall .pol, .limit .mast,
      .limit .pan, .limit .tilt, .sensor (.axis .mast), .sensor (.axis .pan), .sensor (.axis .tilt),
      .sensor (.axis .pol), .sensor .incl, .sensor .level, .sensor .anemo, .overhead])
    (asleep.ctl.mode = .standby ∧ asleep.power.standby ≠ .waking) ∧
    (waking.power.phase ≠ .settle ∧ waking.power.standby = .waking ∧ (waking.axis .pan).encValid = true) ∧
    (lost aloft ∧ (aloft.axis .pan).encValid = true ∧ (aloft.axis .pan).phase = .atRest) ∧
    (lost waiting ∧ (waiting.axis .pan).encValid = true ∧ (waiting.axis .pan).phase = .waiting) ∧
    (lost up ∧ (up.axis .mast).encValid = true ∧ (up.axis .mast).phase = .driving) ∧
    (t.axes.contacts.get .tiltUp = true) ∧
    (aloft.axes.contacts.get .tiltUp = false ∧ tripStops aloft .tiltUp = false) ∧
    (up.axes.contacts.get .mastTop = false ∧ tripStops up .mastTop = true ∧ up.ilk.faults.length < 16 ∧
      requestsSound up ∧ (up.axis .mast).arrived = false ∧ towardSwitch up .mastTop = true) ∧
    (FaultId.vanMoved ∉ aloft.ilk.faults ∧ aloft.ilk.faults.length < 16) ∧
    (FaultId.vanMoved ∉ full.ilk.faults ∧ full.ilk.faults.length = 16 ∧ full.ilk.faults.Nodup ∧
      full.ilk.faults = [] ++ .windStow :: full.ilk.faults.tail ∧ removable full .windStow = true) := by
  refine ⟨?_, ?_, ?_, ?_, ?_, ?_, ?_, ?_, ?_, ?_⟩ <;> decide +kernel

theorem witness_StandstillAndLock :
    let d := aloft.withAxis .pan { axisAt 100 with phase := .driving, target := 103 }
    let p := aloft.withAxis .pan { axisAt 100 with phase := .stopping, target := 900, stop := some .controlled }
    let q := aloft.withAxis .pan { p.axis .pan with next := some (103, .ordinary) }
    let m := withMast { axisAt 6000 with phase := .driving, target := 6020, arrived := true } .released [⟨.mast, 25⟩]
    let r := withMast { axisAt 6000 with phase := .releasing, target := 6021 } .releasing [⟨.mast, 25⟩]
    let e := withMast { axisAt 6000 with phase := .engaging } .engaging [⟨.mast, 2⟩]
    let base := fun (s : State) (a : Axis) => ∀ q ∈ s.arb.waits, q.axis ≠ a
    (base d .pan ∧ (d.axis .pan).next = none ∧ (d.axis .pan).phase = .driving ∧
      near .pan (d.axis .pan).target (d.axis .pan).position = true ∧ (d.axis .pan).stop = none ∧
      (d.axis .pan).faultStop = false) ∧
    (base p .pan ∧ (p.axis .pan).phase = .stopping ∧ (p.axis .pan).stop.isSome = true ∧ (p.axis .pan).next = none) ∧
    (base q .pan ∧ (q.axis .pan).phase = .stopping ∧ (q.axis .pan).stop.isSome = true ∧
      (q.axis .pan).next = some (103, .ordinary) ∧ (q.axis .pan).faultStop = false) ∧
    (base m .mast ∧ m.axes.mast.phase = .driving ∧ m.axes.mast.arrived = true) ∧
    (base r .mast ∧ r.axes.lock = .releasing ∧ r.axes.mast.phase = .releasing ∧ r.axes.mast.stop = none ∧
      near .mast r.axes.mast.target r.axes.mast.position = false ∧ grantedDraw r .mast = some 25 ∧
      r.axes.mast.position < r.axes.mast.target) ∧
    (base e .mast ∧ e.axes.lock = .engaging ∧ e.axes.mast.phase = .engaging ∧ e.axes.mast.skidding = false ∧
      e.axes.mast.next = none) := by decide

/-- A target at each end of the travel; at rest, driving, turning round. -/
theorem witness_StandstillAndLock_gives :
    (travelLow .mast ≤ 15000 ∧ (15000 : Int) ≤ travelHigh .mast ∧ travelLow .tilt ≤ -9000) ∧
    ((aloft.axis .mast).phase = .atRest ∧ near .mast 6021 (aloft.axis .mast).position = false ∧
      near .mast 6020 (aloft.axis .mast).position = true ∧ towardTripped aloft .mast 6021 = false) ∧
    (((rising 6000).axis .mast).phase = .driving ∧ ((rising 6000).axis .mast).arrived = false ∧
      grantedDraw (rising 6000) .mast = some (drawOf .mast true) ∧
      grantedDraw (rising 6000) .mast ≠ some (drawOf .mast false) ∧ towardTripped (rising 6000) .mast 0 = false) := by decide

/-- A target for a WAITING axis: within tolerance, of another draw, of the same draw at both priorities, and toward a
tripped switch. -/
theorem witness_StandstillAndLock_waits :
    let old := fun (s : State) (a : Axis) => s.arb.waits.find? (fun q => q.axis == a)
    let m := turning.axes.mast
    let z := waiting.withAxes { waiting.axes with tripped := { Switches.clear with panPlus := true } }
    (m.phase = .waiting ∧ m.faultStop = false ∧ near .mast 6020 m.position = true ∧ turning.axes.lock = .released) ∧
    ((waiting.axis .pan).phase = .waiting ∧ (waiting.axis .pan).faultStop = false ∧ near .pan 103 100 = true) ∧
    (near .mast 5979 m.position = false ∧ towardTripped turning .mast 5979 = false ∧
      old turning .mast = some ⟨.mast, 25, .ordinary⟩ ∧ drawOf .mast false ≠ 25) ∧
    (near .pan 104 100 = false ∧ towardTripped waiting .pan 104 = false ∧ old waiting .pan = some ⟨.pan, 8, .ordinary⟩ ∧
      drawOf .pan true = 8) ∧
    (towardTripped z .pan 104 = true ∧ (z.axis .pan).phase = .waiting) := by decide

theorem witness_StallsReported :
    let c := withMast { axisAt 6000 with phase := .stopping, stop := some .controlled } .released [⟨.mast, 25⟩]
    let i := withMast { axisAt 6000 with phase := .engaging, stop := some .immediate, skidding := true } .engaging []
    (requestsSound (rising 6000) ∧ requestsSound c ∧ requestsSound i) ∧
    ((rising 6000).ilk.faults.length < 16 ∧ ((rising 6000).axis .mast).deadline.isSome = true) ∧
    (c.ilk.faults.length < 16 ∧ (c.axis .mast).phase = .stopping ∧ (c.axis .mast).stop = some .controlled) ∧
    (i.ilk.faults.length < 16 ∧ (i.axis .mast).stop = some .immediate ∧ (i.axis .mast).skidding = true) := by decide

/-- A dish fault as the stance shows it: while aiming with a search, with a low mast and its LOWER open, and in
FORCED_STOW; and a mast fault outside HALTED and in it. -/
theorem witness_StallsReported_shown :
    let a := opened (opened ((onSite .peaking).withLevel { aloft.level with search := some searching }) 3 .peak) 4 .stow
    let l := opened ((opened low 3 .lower).withMastGoal 1000) 4 .raise
    let f := inMode (opened waiting 3 .stow) .forcedStow
    let drive := fun s : State =>
      s.withAxis .tilt { s.axes.tilt with phase := .driving, target := 3000, deadline := some 40 }
    (∀ s ∈ [drive a, drive l, drive f], s.ilk.faults.length < 16 ∧ ((s.axis .tilt).deadline).isSome = true ∧
      s.swap.phase = .idle ∧ Sound s ∧ requestsSound s) ∧
    (a.ctl.mode = .normal ∧ a.level.search = some searching ∧ searching.kind = .full) ∧
    (l.ctl.mode = .normal ∧ l.stance.mastGoal < 1500 ∧ inWindow l = false) ∧ f.ctl.mode = .forcedStow ∧
    (running (rising 6000) = true ∧ (rising 6000).ctl.mode ≠ .halted ∧ Sound (rising 6000)) := by
  refine ⟨?_, ?_, ?_, ?_, ?_⟩ <;> decide +kernel

/-! ## Witnesses: timers, start-up, standby -/

/-- Telemetry enabled, the last page written with the count given. -/
def paged (gen : Word16) (writing : Bool) : State :=
  { stowed with
    board := { stowed.board with control := 0x10#16 }, telem := ⟨gen, writing, some 200⟩ }

theorem witness_TelemetryTimers :
    let a := paged 2#16 false
    let b := paged 0xFFFF#16 true
    (Memory.wf a.mem = true ∧ countsSound a ∧ a.telem.timer.isSome = true ∧ a.board.control.getLsbD 4 = true ∧
      a.ctl.mode ≠ .standby ∧ a.power.phase ≠ .settle ∧ a.telem.writing = false) ∧
    (Memory.wf b.mem = true ∧ countsSound b ∧ b.telem.writing = true) := by decide

theorem witness_AlarmAndUptime :
    let s := stowed.withIlk { stowed.ilk with alarmRunning := true }
    s.ilk.alarmRunning = true ∧ Memory.wf s.mem = true ∧ s.power.phase ≠ .settle := by decide

theorem witness_ResetLeaves :
    ¬ (stowed.power.phase = .settle ∧ stowed.power.cause = .powerOn) ∧
    (State.reset.power.phase = .settle ∧ State.reset.power.cause = .powerOn) := by decide

theorem witness_SettleEnds :
    let b := State.afterReset .brownOut [] [(slotAddr 7, 1#8)] true Switches.clear
    let e := b.withBoard { b.board with control := 0x10#16 }
    stowed.power.phase ≠ .settle ∧
    (Memory.wf State.reset.mem = true ∧ State.reset.power.phase = .settle ∧ State.reset.board.control.getLsbD 4 = false ∧
      State.reset.power.cause = .powerOn) ∧
    (Memory.wf b.mem = true ∧ b.power.phase = .settle ∧ b.board.control.getLsbD 4 = false ∧
      b.power.slotsReturned = [] ∧ b.power.cause ≠ .powerOn ∧ slotOwner b.mem 7 = 1) ∧
    (Memory.wf e.mem = true ∧ e.power.phase = .settle ∧ e.board.control.getLsbD 4 = true) := by decide +kernel

/-- The pan encoder not valid at the end of WARM_UP. -/
theorem witness_WarmUpEnds :
    let s := { aloft with power := { Power.reset .external with phase := .warmUp } }
    let s := s.withAxis .pan AxisState.reset
    s.power.phase = .warmUp ∧ s.ilk.faults = [] ∧ (s.axis .mast).encValid = true ∧ (s.axis .pan).encValid = false := by
  decide

theorem witness_ReadySignalled :
    (primed stowed).power.phase = .priming ∧ (asleep.withPower { asleep.power with standby := .waking }).power.standby =
      .waking := by decide

theorem witness_ReadySound :
    let ok := fun s : State => Memory.wf s.mem = true ∧ s.power.resetSet.Nodup ∧ s.power.phase = .priming ∧
      s.stance = Stance.reset ∧ s.ctl.mode = .starting ∧ s.swap.phase = .idle ∧ s.level.search = none ∧
      s.axes.mast.encValid = true ∧ s.axes.mast.phase = .atRest ∧ anyAxisFault s.ilk.faults = false ∧
      s.ilk.lines.park = true ∧ s.ilk.lines.stow = false ∧ s.ilk.pitch.natAbs ≤ 700 ∧ s.ilk.roll.natAbs ≤ 700 ∧
      effCeiling (endPriming s 199) ≠ 0
    (ok (primed (atRest 20 ⟨100, -8900, 200⟩ .nested .stowed)) ∧
      extension (primed (atRest 20 ⟨100, -8900, 200⟩ .nested .stowed)) ≤ 20 ∧
      inWindow (primed (atRest 20 ⟨100, -8900, 200⟩ .nested .stowed)) = true) ∧
    (ok (primed aloft) ∧ ¬ (extension (primed aloft) ≤ 20)) := by decide +kernel

theorem witness_WakeWarmUpSound :
    let s := asleep.withPower { asleep.power with standby := .waking }
    s.ctl.mode = .standby ∧ s.power.standby = .waking ∧ s.power.phase = .done ∧ s.level.search = none ∧
    s.axes.tripped = Switches.clear ∧ anyAxisFault s.ilk.faults = false ∧ s.ilk.lines.park = true ∧
    s.ilk.lines.stow = false ∧ effCeiling s ≠ 0 := by decide

/-! ## Witnesses: pointing, budget, height, searches, invariants -/

/-- Two corners of the survey area, 50 m due east, and just beyond 80 km. -/
theorem witness_TargetsInTravel :
    let e := fun x : Int => reportedRange x 0
    ((2000000 : Int) - (-2000000)).natAbs ≤ 4000000 ∧ e 50 = 50 ∧ reportedBearing 50 0 = 9000 ∧ 80000 < e 80001 ∧
    ¬ 80000 < e 80000 := by decide +kernel

theorem witness_WrapChoice : (-18000 : Int) < 18000 ∧ (18000 : Int) ≤ 18000 ∧ (-18000 : Int) < -17999 := by decide

/-- A dish axis, a mast with its lock ENGAGED, and one with its lock RELEASED start in one check. -/
theorem witness_GrantOrder_starts :
    let s := { aloft with arb := ⟨[], [⟨.pan, 8, .ordinary⟩, ⟨.mast, 25, .ordinary⟩]⟩ }
    let t := { s with axes := { s.axes with lock := .released } }
    (∀ u ∈ [s, t], (u.arb.waits.map (·.axis)).Nodup ∧ (grantCheck u).arb.grants.map (·.axis) = [.pan, .mast]) ∧
    s.axes.lock ≠ .released ∧ t.axes.lock = .released := by decide

/-- A pan granted, with a raise behind it that does not fit in 40 A. -/
theorem witness_GrantOrder :
    let s := { aloft with arb := ⟨[⟨.tilt, 8⟩], [⟨.pan, 8, .ordinary⟩, ⟨.mast, 25, .ordinary⟩]⟩ }
    (grantCheck s).arb.grants.map (·.axis) = [.tilt, .pan] ∧ (grantCheck s).arb.waits.map (·.axis) = [.mast] := by
  decide

/-- The floor at the nest, and a mast already below it. -/
theorem witness_EffectiveTargetRule :
    let s := aloft.withStance Stance.reset
    let l := low.withStance Stance.reset
    (s.ctl.mode = .normal ∧ inWindow s = false ∧ effectiveTarget s = 1500) ∧
    (l.ctl.mode = .normal ∧ inWindow l = false ∧ effectiveTarget l = 1499) := by decide

/-- A mast more than 20 mm off, within 20 mm, one to be raised through the nest, and one that moves; the turn of the dish to
each goal, where targets may be issued and where not; a live site whose targets move. -/
theorem witness_EffectiveTargetRule_moves :
    let goal := fun (s : State) (g : DishGoal) => s.withStance { s.stance with dishGoal := g, site := some 2 }
    let eff := fun (s : State) (e : Int) => s.withCtl { s.ctl with effTarget := e }
    let nest := eff (goal (low.withStance { low.stance with mastGoal := 1500 }) .site) 1500
    let live := (onSite .slewing).withEntry 2 { Entry.zero with revision := 1 }
    (aloft.level.search = none ∧ canIssue aloft = true ∧ aloft.ctl.goalAtRest = none ∧ aloft.axes.mast.phase = .atRest) ∧
    (20 < ((eff aloft 6021).ctl.effTarget - extension aloft).natAbs ∧
      ((eff aloft 6020).ctl.effTarget - extension aloft).natAbs ≤ 20) ∧
    (extension nest < 1500 ∧ nest.stance.dishGoal.aimed = true ∧ 1521 ≤ effCeiling nest ∧
      (nest.ctl.effTarget - extension nest).natAbs ≤ 20) ∧
    ((rising 6000).axes.mast.phase ≠ .atRest ∧ (belowGoal.withUpwardDue true).ctl.upwardDue = true ∧
      canIssue belowGoal = true ∧ aloft.ctl.upwardDue = false ∧ (rising (-10)).axes.mast.inMove = true ∧
      canIssue (inMode (rising (-10)) .forcedStow) = true) ∧
    (∀ g ∈ [DishGoal.none, .stow, .site, .point ⟨0, 0, 0⟩],
      (goal aloft g).ctl.dishState ≠ .failed ∧ canIssue (goal aloft g) = true ∧
      canIssue (held (goal aloft g)) = false ∧ 1500 ≤ extension (goal aloft g)) ∧
    (aloft.axes.tripped = Switches.clear ∧ requestsSound aloft ∧ aloft.axes.pan.phase = .atRest ∧
      aloft.axes.tilt.phase = .atRest ∧ aloft.axes.pol.phase = .atRest) ∧
    (live.stance.site = some 2 ∧ live.geo.fix = some fix7 ∧ (readSite live.mem 2).acceptable = true ∧
      (readSite live.mem 2).revision = (live.entry 2).revision ∧ 50 ≤ rangeOf (readSite live.mem 2) fix7 ∧
      (recomputeLive live false).2 = true) ∧
    (let seeks := live.withCtl { live.ctl with dishState := .peaking }
     let seeks := seeks.withLevel { seeks.level with search := some searching }
     Sound seeks ∧ canIssue seeks = true ∧ 1500 ≤ extension seeks ∧ (recomputeLive seeks false).2 = true) := by
  refine ⟨?_, ?_, ?_, ?_, ?_, ?_, ?_, ?_⟩ <;> decide +kernel

/-- A centre of -640: no level reaches -638; the plus point does; the minus point does; and both, equal. -/
theorem witness_SearchRules :
    let s := (onSite .peaking).withLevel { aloft.level with search := some searching }
    searching.lc = some (-640) ∧ searching.params.threshold = 2 ∧
    ((-639 : Int) < -640 + searching.params.threshold) ∧ ((-640 : Int) + searching.params.threshold ≤ -638) ∧
    (moveCentre { searching with plusLevel := some (-638), minusLevel := some (-638) } .pan).centrePan = 40 ∧
    (moveCentre { searching with plusLevel := some (-638), minusLevel := some (-637) } .pan).centrePan = -40 ∧
    tableSound s ∧ Memory.wf s.mem = true ∧ s.level.search = some searching ∧ s.geo.fix = some fix7 ∧
    (let o := opened s 3 .peak; slotsSeparate o ∧ o.board.openSet.any ownsSearch = true ∧ searching.kind = .full) := by
  decide +kernel

/-- The other ends: a full search, one whose height has changed, and a touch-up. -/
theorem witness_SearchRules_ends :
    let s := opened ((onSite .peaking).withLevel { aloft.level with search := some searching }) 3 .peak
    let h := s.withCtl { s.ctl with effTarget := 11000 }
    let t := searchAt .touchUp .reference .settling
    (tableSound s ∧ Sound s ∧ s.level.search = some searching ∧ searching.kind = .full ∧
      effectiveTarget s = s.ctl.effTarget) ∧
    (tableSound h ∧ Sound h ∧ effectiveTarget h ≠ h.ctl.effTarget) ∧
    (tableSound t ∧ Sound t ∧ t.level.search.map (·.kind) = some .touchUp) := by
  refine ⟨?_, ?_, ?_⟩ <;> decide +kernel

/-- A dish on the targets asked for, the mast at rest; the ends of a return move: at the probe limit, of the pan axis, of a
round that moved its centre, and of one that did not, its half step at the minimum and below it; both ends of a search. -/
theorem witness_SearchRules_goes :
    let s := searchAt .touchUp (.probe .pan true) .moving
    (s.level.search.map (·.wait) = some .moving ∧ dishAtRest s = true ∧ s.axes.mast.inMove = false ∧
      s.level.search.map (fun c => dishNear s c.asked) = some true) ∧
    (∀ c ∈ [{ searching with limit := true, stage := .back .pan }, { searching with stage := .back .pan },
        { searching with stage := .back .tilt, moved := true }, { searching with stage := .back .tilt, step := 10 },
        { searching with stage := .back .tilt, step := 9 }],
      (searchAt .full c.stage .moving).level.search.isSome = true ∧ c.params.minimum = 5) ∧
    (5 ≤ 10 / 2 ∧ 9 / 2 < 5 ∧ searching.lockFloor ≤ -700 ∧ -701 < searching.lockFloor) := by
  refine ⟨?_, ?_, ?_⟩ <;> decide +kernel

/-- The rest of a mast whose move has ended, of one that waits to fix its goal at and below the nest height, of a FAULTED
one, and the stow status that stays and changes. -/
theorem witness_EventEnds_mast :
    let moved := aloft.withCtl { aloft.ctl with mastState := .descending }
    let waits := fun (h : Int) (g : GoalAtRest) =>
      let s := atRest h ⟨100, 200, 300⟩ .held .parked
      (s.withStance { s.stance with dishGoal := .point ⟨0, 0, 0⟩ }).withCtl { s.ctl with goalAtRest := some g }
    let lost := (waits 1500 .halted).withAxis .mast { axisAt 1500 with phase := .faulted }
    ((rising 6000).axes.mast.inMove = true ∧ moved.axes.mast.phase = .atRest ∧ moved.ctl.mastState = .descending) ∧
    (aloft.axes.mast.phase = .atRest ∧ aloft.ctl.mastState = .held ∧ aloft.ctl.goalAtRest = none) ∧
    (lost.axes.mast.phase = .faulted ∧ lost.ctl.goalAtRest ≠ none ∧
      (lost.withGoalAtRest none).ctl.goalAtRest = none) ∧
    (∀ g ∈ [GoalAtRest.halt, .overhead, .halted], (waits 1499 g).stance.dishGoal.aimed = true ∧
      extension (waits 1499 g) < 1500 ∧ (waits 1499 g).axes.tripped = Switches.clear ∧
      ¬ extension (waits 1500 g) < 1500) ∧
    (inWindow aloft = aloft.ctl.stowStatus ∧ inWindow stowed ≠ stowed.ctl.stowStatus) := by
  refine ⟨?_, ?_, ?_, ?_, ?_⟩ <;> decide +kernel

/-- The rest of a dish stopped short at and below the nest height, of a STOWING, a SLEWING and a PEAKING one, and the
resume with and without the dish, and outside NORMAL. -/
theorem witness_EventEnds_dish :
    let short := fun (s : State) (k : StopShort) => s.withCtl { s.ctl with dishShort := some k }
    let off := (aloft.withDish .slewing).withAxis .pan { axisAt 100 with target := 104 }
    let due := fun s : State => s.withCtl { s.ctl with resumeDue := true }
    let back := fun s : State => recomputeIssuing (s.withCtl { s.ctl with resumeDue := false })
    (∀ s ∈ [short aloft .stop, short low .nest, short (atRest 1500 ⟨100, 200, 300⟩ .held .slewing) .nest,
      aloft.withDish .stowing, aloft.withDish .slewing, off, onSite .peaking, searchAt .full .reference .moving],
      dishAtRest s = true ∧ s.ctl.dishState ≠ .failed) ∧
    (extension low < 1500 ∧ near .pan (off.axis .pan).target (off.axis .pan).position = false ∧ dishOnTargets aloft = true ∧
      (onSite .peaking).level.search = none ∧ aloft.stance.dishGoal.aimed = false) ∧
    ((due aloft).ctl.resumeDue = true ∧ (due aloft).ctl.mode = .normal ∧ canIssue (back (due aloft)) = true ∧
      (back (due aloft)).ctl.dishState ≠ .failed ∧ (back (due (dishLost aloft))).ctl.dishState = .failed ∧
      (due (inMode aloft .forcedStow)).ctl.mode ≠ .normal ∧ running aloft = true ∧ running asleep = false) := by
  refine ⟨?_, ?_, ?_⟩ <;> decide +kernel

/-- Completions in both modes, arrivals, the ends of forced stow, of the quiesce, and the entry into HALTED. -/
theorem witness_EventEnds :
    let a := opened (opened stowed 3 .lower) 4 .stow
    let b := opened (inMode stowed .forcedStow) 3 .lower
    let p := aloft.withStance { aloft.stance with dishGoal := .point ⟨100, 200, 300⟩ }
    let f := inMode (dishLost aloft) .forcedStow
    let q := quiescing aloft
    (Sound a ∧ a.swap.phase = .idle ∧ a.ctl.mode = .normal ∧ a.axes.mast.inMove = false ∧ heldAtNest a = false) ∧
    (Sound b ∧ b.swap.phase = .idle ∧ b.ctl.mode = .forcedStow ∧ b.ctl.mastState = .nested ∧ b.ctl.dishState = .stowed ∧
      b.ilk.lines.stow = false) ∧
    (Sound (onSite .slewing) ∧ (onSite .slewing).stance.dishGoal = .site) ∧
    (Sound p ∧ p.stance.dishGoal = .point ⟨100, 200, 300⟩) ∧
    (Sound f ∧ f.ctl.mode = .forcedStow ∧ f.ctl.dishState = .failed ∧ dishAtRest f = true ∧ f.axes.mast.inMove = false ∧
      (f.ctl.effTarget - extension f).natAbs ≤ 20) ∧
    (Sound waiting ∧ requestsSound waiting ∧ waiting.axes.mast.everValid = true ∧ waiting.axes.mast.inMove = false) ∧
    (Sound (rising 6000) ∧ requestsSound (rising 6000) ∧ (rising 6000).axes.mast.everValid = true ∧
      (rising 6000).axes.mast.inMove = true) ∧
    (Sound q ∧ q.swap.phase = .quiesce ∧ q.swap.number < 4 ∧ Memory.wf q.mem = true ∧ allQuiet q = true ∧
      (∀ c ∈ q.board.openSet, c.slot = q.swap.slot → c.kind = .swap) ∧
      q.swap.snapshot.dishGoal = 2 ∧ aimCheck q q.swap.snapshot.site = none) := by
  refine ⟨?_, ?_, ?_, ?_, ?_, ?_, ?_, ?_⟩ <;> decide +kernel

/-- A raise about to be issued; a dish that leaves its window under a mast on its way down. -/
theorem witness_StepKeepsInterlocks :
    let s := (holding stowed 1 (le16 6000)).withPending [.raise]
    let d := { atRest 3000 ⟨0, -9000, 0⟩ .descending .stowed with
      axes := { (atRest 3000 ⟨0, -9000, 0⟩ .descending .stowed).axes with
        mast := { axisAt 3000 with target := 0, phase := .driving, deadline := some 255 }, lock := .released }
      arb := ⟨[⟨.mast, 2⟩], []⟩ }
    let d := { d with
      ctl := { d.ctl with effTarget := 0, stowStatus := true }, stance := Stance.reset
      pending := [.encoderReading .pan 101] }
    (InterlocksSound s ∧ (nextOf (step s)).map (fun t => (t.axes.mast.target, t.axes.mast.phase)) =
      some (6000, .releasing)) ∧
    (InterlocksSound d ∧ running d = true ∧ canIssue d = true ∧ d.ctl.goalAtRest = none ∧ inWindow d = true ∧
      d.ctl.effTarget = effectiveTarget d ∧ d.axes.mast.target = d.ctl.effTarget ∧
      (nextOf (step d)).map (fun t => (inWindow t, t.axes.mast.target)) = some (false, 1500)) := by
  refine ⟨?_, ?_⟩ <;> decide +kernel

theorem witness_StepKeepsMemory : Memory.wf stowed.mem = true ∧ step stowed = .next stowed := ⟨by decide, rfl⟩

theorem witness_StepKeepsRecords : RecordsSound stowed ∧ step stowed = .next stowed := ⟨by decide, rfl⟩

end Sys2Proof.Tests
end

section
/-! PROOFS. O42 fails: a dish below the nest height is driven off its stow target when the site targets in force lie
beyond the travel of an axis. -/
namespace Sys2Proof.Machine

/-- A touch-up at its reference measurement. -/
def touchUpAtReference : Search where
  kind := .touchUp
  site := 0
  centrePan := 0
  centreTilt := 0
  startPan := 0
  startTilt := 0
  lc := none
  step := 10
  probes := 0
  edge := false
  limit := false
  lockFloor := -700
  params := ⟨40, 5, 2, 40, 200⟩
  stage := .reference
  wait := .sampling []
  asked := ⟨27010, 0, 0⟩
  plusLevel := none
  minusLevel := none
  moved := false

/-- An axis at rest with a valid encoder. -/
def restingAxis (position target : Int) : AxisState :=
  { AxisState.reset with
    position := position, target := target, encValid := true, everValid := true, lastValid := position }

/-- In NORMAL, the mast at rest at 1,490 mm, a dish that searches at rest with its pan 10 cdeg beyond the travel, and site
targets in force that name that very position. Two invalid level samples have come, the third is next. -/
def searchingBeyondTravel : State :=
  { State.reset with
    pending := [.levelSample 0]
    stance := { Stance.reset with site := some 0, mastGoal := 1500, dishGoal := .site }
    ctl := { Control.reset with
      mode := .normal, mastState := .held, dishState := .peaking, effTarget := 1500, siteTargets := ⟨27010, 0, 0⟩ }
    level := { Level.reset with running := true, invalidRun := 2, search := some touchUpAtReference }
    axes := { Axes.reset Switches.clear with mast := restingAxis 1490 1490, pan := restingAxis 27010 27000 }
    ilk := { Interlock.reset with lines := ⟨true, false, false, false⟩ }
    power := { Power.reset .powerOn with phase := .done, ready := true } }

/-- The state after the third invalid sample. -/
def slewedBelowNest : State :=
  let s := searchingBeyondTravel.withPending []
  endEvent s (takeSample s 0)

theorem execLevelSample_running (code : BitVec 12) (s : State) (h : s.level.running = true) :
    execLevelSample code s = .next (endEvent s (takeSample s code.toNat)) := by
  simp [execLevelSample, h]

theorem step_searchingBeyondTravel : step searchingBeyondTravel = .next slewedBelowNest :=
  execLevelSample_running 0 (searchingBeyondTravel.withPending []) rfl

theorem searchingBeyondTravel_sound : InterlocksSound searchingBeyondTravel := by decide

theorem searchingBeyondTravel_pan_atRest : ¬ straysLow searchingBeyondTravel .pan := by
  unfold straysLow
  decide

/-- The lost level sends the dish to the site targets in force. It is on them, so that R11 is passed; the target it is
given is brought within the travel, is no longer within tolerance, and starts a move. -/
theorem slewedBelowNest_strays : straysLow slewedBelowNest .pan := by
  unfold straysLow
  decide +kernel

end Sys2Proof.Machine

open Sys2Proof Sys2Proof.Machine

/-- Refutes O42, in its last clause (R11): `InterlocksSound` does not hold the site targets in force within the travels,
and `slewTo` finds a dish below the nest height to be on its targets before `axisGive` clamps them. -/
theorem not_stepKeepsInterlocks : ¬ Obligations.StepKeepsInterlocks := by
  intro h
  obtain ⟨-, -, -, -, -, noStray⟩ := h _ _ searchingBeyondTravel_sound step_searchingBeyondTravel
  obtain ⟨strayed, -⟩ := noStray rfl .pan (by decide) slewedBelowNest_strays
  exact searchingBeyondTravel_pan_atRest strayed
end

section
/-! PROOFS. Takes, results, and the open commands that an event ends: what the statements about commands share. -/
namespace Sys2Proof.Machine

/-! ## Results (R158) -/

theorem writeResult_warnings (s : State) (n : Slot) (c : Code) (w : Warnings) (data : List Byte)
    (h : Memory.wf s.mem = true) : read8 (writeResult s n c w data).mem (slotAddr n + 5) = w.toByte := by
  have before : Memory.wf (writeBytes s.mem (slotAddr n + 4) (leBytes 1 c.toNat)) = true := writeBytes_wf _ _ _ h
  have after : ∀ f ∈ [(slotAddr n + 40, padBytes 24 data), (slotAddr n, [(0 : Byte)])],
      slotAddr n + 5 < f.1 ∨ f.1 + f.2.length ≤ slotAddr n + 5 := by
    intro f hf
    simp only [List.mem_cons, List.not_mem_nil, or_false] at hf
    rcases hf with rfl | rfl <;> simp
  calc read8 (writeResult s n c w data).mem (slotAddr n + 5)
      = read8 (writeBytes (writeBytes s.mem (slotAddr n + 4) (leBytes 1 c.toNat)) (slotAddr n + 5) [w.toByte])
          (slotAddr n + 5) := read8_writeFields_other _ _ _ after
    _ = w.toByte := read8_writeBytes [w.toByte] _ (slotAddr n + 5) 0 before (by simp)

theorem writeResult_data (s : State) (n : Slot) (c : Code) (w : Warnings) (data : List Byte)
    (h : Memory.wf s.mem = true) (k : Nat) (hk : k < (padBytes 24 data).length) :
    read8 (writeResult s n c w data).mem (slotAddr n + 40 + k) = (padBytes 24 data)[k] := by
  have before : Memory.wf (writeFields s.mem [(slotAddr n + 4, leBytes 1 c.toNat), (slotAddr n + 5, [w.toByte])]) =
    true := writeFields_wf _ _ h
  have after : ∀ f ∈ [(slotAddr n, [(0 : Byte)])],
      slotAddr n + 40 + k < f.1 ∨ f.1 + f.2.length ≤ slotAddr n + 40 + k := by
    intro f hf
    simp only [List.mem_cons, List.not_mem_nil, or_false] at hf
    subst hf
    simp only [List.length_singleton]
    omega
  calc read8 (writeResult s n c w data).mem (slotAddr n + 40 + k)
      = read8 (writeBytes (writeFields s.mem [(slotAddr n + 4, leBytes 1 c.toNat), (slotAddr n + 5, [w.toByte])])
          (slotAddr n + 40) (padBytes 24 data)) (slotAddr n + 40 + k) := read8_writeFields_other _ _ _ after
    _ = (padBytes 24 data)[k] := read8_writeBytes _ _ _ _ before hk

theorem padBytes_nil_get (n k : Nat) (h : k < (padBytes n []).length) : (padBytes n [])[k] = 0 := by
  induction n generalizing k with
  | zero => simp at h
  | succ n ih =>
    cases k with
    | zero => rfl
    | succ k => exact ih k (by simpa using h)

/-- What writing a result leaves alone: everything but the memory and NOTICE. -/
theorem writeResult_same (s : State) (n : Slot) (c : Code) (w : Warnings) (data : List Byte) :
    let u := writeResult s n c w data
    u.stance = s.stance ∧ u.ctl = s.ctl ∧ u.geo = s.geo ∧ u.level = s.level ∧ sameDrives s u ∧
      u.board.openSet = s.board.openSet ∧ u.board.intake = s.board.intake ∧ u.board.control = s.board.control ∧
      u.board.headerSeq = s.board.headerSeq := by
  simp [writeResult, sameDrives, setNotice]

/-- A refusal is written into the slot just taken, and changes nothing else. -/
theorem refuse_refused (s : State) (n : Slot) (c : Code) (h : Memory.wf s.mem = true) :
    Refused s (refuse (popIntake s) n c) n c := by
  obtain ⟨stance, ctl, geo, level, drives, open', intake, control, seq⟩ :=
    writeResult_same (popIntake s) n c Warnings.empty []
  refine ⟨writeResult_answered (popIntake s) n c Warnings.empty [] h,
    writeResult_warnings (popIntake s) n c Warnings.empty [] h, fun k hk => ?_,
    fun a ha => by rw [refuse, writeResult_other _ _ _ _ _ _ ha, popIntake_mem],
    open', stance, ctl, geo, level, drives, intake, control, seq⟩
  have inData : k < (padBytes 24 []).length := by simpa using hk
  exact (writeResult_data (popIntake s) n c Warnings.empty [] h k inData).trans (padBytes_nil_get 24 k inData)

/-! ## Takes (R157, R14) -/

theorem takeEvent_passed (s : State) (k : Kind) (own : State → Slot → State) (n : Slot) (h : Taken s k n) :
    takeEvent k own s = endEvent s (own (popIntake s) n) := by
  rw [takeEvent, take_passed s k own n h]

/-- An owning block that refuses the command it is handed makes the take a refusal. -/
theorem takeEvent_refused (s : State) (k : Kind) (own : State → Slot → State) (n : Slot) (c : Code) (h : Taken s k n)
    (hw : Memory.wf s.mem = true) (ho : own (popIntake s) n = refuse (popIntake s) n c) :
    ∃ u, Host.Outcome.next (takeEvent k own s) = (.next (endEvent s u) : Host.Outcome State Fault Refusal) ∧
      Refused s u n c :=
  ⟨_, by rw [takeEvent_passed s k own n h, ho], refuse_refused s n c hw⟩

/-! ## Commands ended (R157, R158) -/

theorem ofKinds_append (ks ls : List Kind) (c : OpenCommand) : ofKinds (ks ++ ls) c = (ofKinds ks c || ofKinds ls c) := by
  simp [ofKinds]

/-- `u` is `s` with the open commands that meet a condition ended, and nothing else changed. -/
structure OnlyEnded (s u : State) (p : OpenCommand → Bool) (code : Code) : Prop where
  ended : Ended s u p code
  openSet : u.board.openSet = s.board.openSet.filter (fun c => !p c)
  stance : u.stance = s.stance
  ctl : u.ctl = s.ctl
  geo : u.geo = s.geo
  level : u.level = s.level
  drives : sameDrives s u
  intake : u.board.intake = s.board.intake
  control : u.board.control = s.board.control
  headerSeq : u.board.headerSeq = s.board.headerSeq
  wf : Memory.wf u.mem = true

theorem endWhere_onlyEnded (s : State) (p : OpenCommand → Bool) (code : Code) (hw : Memory.wf s.mem = true)
    (hs : (s.board.openSet.map (·.slot)).Nodup) : OnlyEnded s (endWhere s p code) p code := by
  obtain ⟨hp, ht, hl, hst, hc, hg, hlv, hsw, hx, ha, hwd, hi, hpw, hin, hco, hq⟩ := endWhere_same s p code
  exact ⟨endWhere_ended s p code hw, endWhere_openSet s p code hs, hst, hc, hg, hlv, ⟨hp, ht, hl, hsw, hx, ha, hwd, hi, hpw⟩,
    hin, hco, hq, endWhere_wf s p code hw⟩

/-- An answer stands when commands are ended with its own code, its own slot's command too. -/
theorem answered_endWhere (s : State) (p : OpenCommand → Bool) (code : Code) (n : Slot) (hw : Memory.wf s.mem = true)
    (h : Answered s n code.toNat) : Answered (endWhere s p code) n code.toNat := foldComplete_keeps _ s code n hw h

/-- Whether commands have ended is read from the memory and NOTICE alone. -/
theorem Ended.congr {s t u : State} {p : OpenCommand → Bool} {code : Code} (h : Ended s t p code) (hm : u.mem = t.mem)
    (hn : u.board.notice = t.board.notice) : Ended s u p code := by
  simpa only [Ended, Answered, hm, hn] using h

/-- The commands of a state may be told of before they end, as long as slots and the condition stay. -/
theorem Ended.of_map {s t u : State} {p : OpenCommand → Bool} {code : Code} (f : OpenCommand → OpenCommand)
    (hm : t.mem = s.mem) (ho : t.board.openSet = s.board.openSet.map f) (hf : ∀ c, (f c).slot = c.slot)
    (hp : ∀ c, p (f c) = p c) (h : Ended t u p code) : Ended s u p code := by
  obtain ⟨answered, others⟩ := h
  constructor
  · intro c hc hpc
    exact hf c ▸ answered (f c) (ho ▸ List.mem_map_of_mem hc) (by rw [hp, hpc])
  · intro a ha
    rw [← hm]
    refine others a fun d hd hpd => ?_
    rw [ho] at hd
    obtain ⟨c, hc, rfl⟩ := List.mem_map.mp hd
    rw [hf]
    exact ha c hc (hp c ▸ hpd)

/-- More commands are ended with the same code. -/
theorem Ended.endWhere_more {s v : State} {p q : OpenCommand → Bool} {code : Code} (h : Ended s v p code)
    (hw : Memory.wf v.mem = true)
    (there : ∀ c ∈ s.board.openSet, q c = true → p c = true ∨ ∃ d ∈ v.board.openSet, d.slot = c.slot ∧ q d = true)
    (back : ∀ d ∈ v.board.openSet, q d = true → ∃ c ∈ s.board.openSet, c.slot = d.slot ∧ q c = true) :
    Ended s (endWhere v q code) (fun c => p c || q c) code := by
  obtain ⟨answered, others⟩ := h
  obtain ⟨answeredMore, othersMore⟩ := endWhere_ended v q code hw
  constructor
  · intro c hc hpq
    rcases Bool.or_eq_true _ _ ▸ hpq with hp | hq
    · exact answered_endWhere v q code c.slot hw (answered c hc hp)
    · rcases there c hc hq with hp | ⟨d, hd, hslot, hqd⟩
      · exact answered_endWhere v q code c.slot hw (answered c hc hp)
      · exact hslot ▸ answeredMore d hd hqd
  · intro a ha
    rw [othersMore a, others a (fun c hc hp => ha c hc (by simp [hp]))]
    intro d hd hqd
    obtain ⟨c, hc, hslot, hqc⟩ := back d hd hqd
    exact hslot ▸ ha c hc (by simp [hqc])

/-! ## A search told to its commands (R74) -/

/-- What the end of a search does to an open command: its slot, kind and peak-after flag stay, and so does the whole of a
command whose search it is not. -/
def SearchTold (f : OpenCommand → OpenCommand) : Prop :=
  ∀ c, (f c).slot = c.slot ∧ (f c).kind = c.kind ∧ (f c).peakAfter = c.peakAfter ∧ (ownsSearch c = false → f c = c)

theorem searchTold_id : SearchTold id := fun _ => ⟨rfl, rfl, rfl, fun _ => rfl⟩

theorem dropSearch_board (s : State) (keep : Bool) : (dropSearch s keep).board = s.board := by
  unfold dropSearch
  cases s.level.search with
  | none => rfl
  | some c => cases keep <;> rfl

theorem stopSearch_openSet (s : State) (o : SearchOutcome) (keep : Bool) :
    ∃ f, (stopSearch s o keep).board.openSet = s.board.openSet.map f ∧ SearchTold f := by
  rw [stopSearch, dropSearch_board]
  unfold tellSearch
  split
  · exact ⟨id, by simp, searchTold_id⟩
  · split
    · rename_i c _ _
      refine ⟨fun d => if ownsSearch d then d.withSearch (c.fields o) c.edge else d, rfl, fun d => ?_⟩
      cases hd : ownsSearch d <;> simp [hd, OpenCommand.withSearch]
    · exact ⟨id, by simp, searchTold_id⟩

theorem ofKinds_told {f : OpenCommand → OpenCommand} (hf : SearchTold f) (ks : List Kind) (c : OpenCommand) :
    ofKinds ks (f c) = ofKinds ks c := by
  obtain ⟨-, hkind, -⟩ := hf c
  rw [ofKinds, ofKinds, hkind]

theorem ownsSearch_told {f : OpenCommand → OpenCommand} (hf : SearchTold f) (c : OpenCommand) :
    ownsSearch (f c) = ownsSearch c := by
  obtain ⟨-, hkind, hafter, -⟩ := hf c
  rw [ownsSearch, ownsSearch, hkind, hafter]

theorem map_slot_told {f : OpenCommand → OpenCommand} (hf : SearchTold f) (l : List OpenCommand) :
    (l.map f).map (·.slot) = l.map (·.slot) := by
  rw [List.map_map]
  exact List.map_congr_left fun c _ => (hf c).1

/-- A list filtered by a condition that a map keeps, and under which it changes nothing, is the list so filtered. -/
theorem filter_map_fixed {α : Type} (f : α → α) (p : α → Bool) (l : List α) (hp : ∀ a ∈ l, p (f a) = p a)
    (hf : ∀ a ∈ l, p a = true → f a = a) : (l.map f).filter p = l.filter p := by
  induction l with
  | nil => rfl
  | cons a l ih =>
    have tail := ih (fun b hb => hp b (List.mem_cons_of_mem a hb)) (fun b hb => hf b (List.mem_cons_of_mem a hb))
    rw [List.map_cons, List.filter_cons, List.filter_cons, hp a List.mem_cons_self, tail]
    cases h : p a
    · rfl
    · simp [hf a List.mem_cons_self h]

theorem stopSearch_level (s : State) (o : SearchOutcome) (keep : Bool) :
    (stopSearch s o keep).level = { s.level with search := none } := by
  have tell : (tellSearch s o).level = s.level := by
    unfold tellSearch
    repeat' split
    all_goals rfl
  unfold stopSearch dropSearch
  rw [tell]
  cases h : s.level.search with
  | none => rw [tell, ← h]
  | some c => cases keep <;> simp

/-- Abandoning a search writes peak pending alone of the stance. -/
theorem stopSearch_stance (s : State) (o : SearchOutcome) (keep b : Bool) :
    { (stopSearch s o keep).stance with peakPending := b } = { s.stance with peakPending := b } := by
  unfold stopSearch tellSearch dropSearch
  cases h : s.level.search with
  | none => simp [h]
  | some c => cases keep <;> by_cases hk : c.kind = .full <;> simp [hk, h]

/-- The condition covers every command whose search may run. -/
def coversSearch (ks : List Kind) : Prop := ∀ c, ownsSearch c = true → ofKinds ks c = true

theorem coversSearch_of_mem {ks : List Kind} (ha : Kind.aim ∈ ks) (hp : Kind.peak ∈ ks) : coversSearch ks := by
  intro c hc
  simp only [ownsSearch, Bool.or_eq_true, beq_iff_eq, Bool.and_eq_true] at hc
  rcases hc with h | ⟨h, -⟩ <;> simpa [ofKinds, h]

/-- Commands of some kinds are ended once the running search, whose commands are among them, has been abandoned: the open
set and the answers are those of ending them alone (R23, R75). -/
theorem abandonThenEnd (s : State) (ks : List Kind) (code : Code) (hw : Memory.wf s.mem = true)
    (hs : (s.board.openSet.map (·.slot)).Nodup) (hk : coversSearch ks) :
    let u := endWhere (abandonSearch s) (ofKinds ks) code
    Ended s u (ofKinds ks) code ∧ u.board.openSet = s.board.openSet.filter (fun c => !ofKinds ks c) ∧
      Memory.wf u.mem = true := by
  obtain ⟨f, ho, hf⟩ := stopSearch_openSet s .abandoned false
  obtain ⟨-, hm, -⟩ := stopSearch_same s .abandoned false
  have hwa : Memory.wf (abandonSearch s).mem = true := by rw [abandonSearch, hm, hw]
  have hslots : ((abandonSearch s).board.openSet.map (·.slot)).Nodup := by
    rw [abandonSearch, ho, map_slot_told hf]
    exact hs
  refine ⟨?_, ?_, endWhere_wf _ _ _ hwa⟩
  · exact Ended.of_map f hm ho (fun c => (hf c).1) (ofKinds_told hf ks) (endWhere_ended _ _ _ hwa)
  · rw [endWhere_openSet _ _ _ hslots, abandonSearch, ho]
    refine filter_map_fixed f _ _ (fun c _ => by rw [ofKinds_told hf]) fun c _ hc => (hf c).2.2.2 ?_
    cases h : ownsSearch c
    · rfl
    · simp [hk c h] at hc

/-- What abandoning a search and ending commands leaves alone. -/
theorem abandonThenEnd_same (s : State) (p : OpenCommand → Bool) (code : Code) :
    let u := endWhere (abandonSearch s) p code
    (∀ b, { u.stance with peakPending := b } = { s.stance with peakPending := b }) ∧ u.ctl = s.ctl ∧ u.geo = s.geo ∧
      u.level = { s.level with search := none } ∧ sameDrives s u ∧ u.board.intake = s.board.intake ∧
      u.board.control = s.board.control ∧ u.board.headerSeq = s.board.headerSeq := by
  obtain ⟨p1, t1, l1, st1, c1, g1, lv1, sw1, x1, a1, w1, i1, pw1, in1, co1, q1⟩ := endWhere_same (abandonSearch s) p code
  obtain ⟨p2, -, t2, l2, c2, g2, sw2, x2, a2, w2, i2, pw2, in2, co2, -, q2⟩ := stopSearch_same s .abandoned false
  refine ⟨fun b => ?_, c1.trans c2, g1.trans g2, lv1.trans (stopSearch_level s _ _), ⟨p1.trans p2, t1.trans t2,
    l1.trans l2, sw1.trans sw2, x1.trans x2, a1.trans a2, w1.trans w2, i1.trans i2, pw1.trans pw2⟩, in1.trans in2,
    co1.trans co2, q1.trans q2⟩
  rw [st1]
  exact stopSearch_stance s .abandoned false b

end Sys2Proof.Machine
end

section
/-! PROOFS. The stance commands RAISE, LOWER, STOW, POINT and RECOVER_HOLD (R14 to R17, R20, R22): O2, O4, O5, O6, O10,
O12 and O13. -/
namespace Sys2Proof.Machine

/-! ## The checks of the owning blocks -/

theorem raiseInterlock_eq_false_iff (s : State) : raiseInterlock s = false ↔ RaiseClear s := by
  have attitude : ∀ x : Int, ¬ (500 : Int) < (x.natAbs : Int) ↔ x.natAbs ≤ 500 := by omega
  simp only [raiseInterlock, RaiseClear, Bool.or_eq_false_iff, decide_eq_false_iff_not, Bool.not_eq_false',
    beq_eq_false_iff_ne, List.contains_eq_mem]
  simp only [Config.raiseAttitude, attitude]

theorem heightBarred_iff (s : State) (h : Int) : heightBarred s h = true ↔ h < 1500 ∧ LowBarred s := by
  simp only [heightBarred, LowBarred, Bool.and_eq_true, Bool.or_eq_true, decide_eq_true_eq, Bool.not_eq_true',
    bne_iff_ne, beq_iff_eq]
  rfl

theorem not_peakable_iff (d : DishState) : peakable d = false ↔ d ≠ .onSolution ∧ d ≠ .locked ∧ d ≠ .peaking := by
  cases d <;> decide

theorem clampInt_eq (lo hi v : Int) (h : lo ≤ hi) : clampInt lo hi v = max lo (min hi v) := by
  unfold clampInt
  split
  · omega
  · split <;> omega

/-- The travels of R96. -/
theorem clampPoint_eq (t : Targets) : clampPoint t =
    ⟨max (-27000) (min 27000 t.pan), max (-9000) (min 3000 t.tilt), max (-9000) (min 9000 t.pol)⟩ := by
  simp [clampPoint, clampTravel, travelLow, travelHigh, clampInt_eq]

/-! ## What the owning blocks do with a command they accept -/

theorem ownRaise_accepted (s : State) (n : Slot) (clear : RaiseClear s)
    (free : 1500 ≤ min (argHeight s n) 15000 ∨ ¬ LowBarred s) :
    ownRaise s n = recomputeEff (openCommand
      (setMastGoal (endWhere s (ofKinds [.raise, .lower]) .superseded) (min (argHeight s n) 15000))
      (.new n .raise { Warnings.empty with clamped := decide (min (argHeight s n) 15000 < argHeight s n) })) := by
  have notBarred : heightBarred s (min (argHeight s n) 15000) = false := by
    rw [Bool.eq_false_iff, Ne, heightBarred_iff]
    rintro ⟨low, barred⟩
    rcases free with high | open'
    · omega
    · exact open' barred
  simp [ownRaise, (raiseInterlock_eq_false_iff s).mpr clear, notBarred, Config.mastTravel]

/-- LOWER at its owning block, in a mode other than FORCED_STOW, at or above the nest height. -/
theorem ownLower_high (s : State) (n : Slot) (mode : s.ctl.mode ≠ .forcedStow)
    (high : 1500 ≤ min (argHeight s n) (extension s)) :
    ownLower s n = recomputeEff (openCommand
      (setMastGoal (endWhere s (ofKinds [.raise, .lower]) .superseded)
        (adoptedHeight (min (argHeight s n) (extension s))))
      (lowerCommand n (min (argHeight s n) (extension s))
        (decide (min (argHeight s n) (extension s) < argHeight s n)))) := by
  have notLow : ¬ min (argHeight s n) (extension s) < Config.nestHeight := not_lt.mpr high
  simp only [ownLower, mode, notLow, if_false, false_and]

/-- LOWER at its owning block, in a mode other than FORCED_STOW, below the nest height. -/
theorem ownLower_low (s : State) (n : Slot) (mode : s.ctl.mode ≠ .forcedStow)
    (low : min (argHeight s n) (extension s) < 1500) (free : s.ctl.dishState ≠ .failed ∨ inWindow s = true) :
    ownLower s n = pursueDish (recomputeEff (openCommand
      (setMastGoal (writeDishGoal ((endWhere (abandonSearch (endWhere s (ofKinds [.raise, .lower]) .superseded))
        (ofKinds [.aim, .peak, .point]) .superseded).withPeakPending false) .stow)
        (adoptedHeight (min (argHeight s n) (extension s))))
      (lowerCommand n (min (argHeight s n) (extension s))
        (decide (min (argHeight s n) (extension s) < argHeight s n))))) := by
  have isLow : min (argHeight s n) (extension s) < Config.nestHeight := low
  have notRefused : ¬ (s.ctl.dishState = .failed ∧ inWindow s = false) := by
    rintro ⟨failed, outside⟩
    rcases free with sound | inside
    · exact sound failed
    · simp [inside] at outside
  simp only [ownLower, mode, isLow, notRefused, if_false, if_true, and_false, lowerBelowNest]

theorem ownLower_forcedStow (s : State) (n : Slot) (mode : s.ctl.mode = .forcedStow) :
    ownLower s n = openCommand (endWhere s (ofKinds [.lower]) .superseded)
      (lowerCommand n (min (argHeight s n) (extension s))
        (decide (min (argHeight s n) (extension s) < argHeight s n))) := by
  simp only [ownLower, mode, if_true]

/-- Ending RAISE and LOWER, then the commands that turn the dish, once a search has been abandoned: the answers and the
open set are those of ending all five kinds (R16, R23). -/
theorem raiseLower_then_dish_ended (s t : State) (first : OnlyEnded s t (ofKinds [.raise, .lower]) .superseded)
    (hs : (s.board.openSet.map (·.slot)).Nodup) :
    let u := endWhere (abandonSearch t) (ofKinds [.aim, .peak, .point]) .superseded
    Ended s u (ofKinds [.raise, .lower, .aim, .peak, .point]) .superseded ∧
      u.board.openSet = s.board.openSet.filter (fun c => !ofKinds [.raise, .lower, .aim, .peak, .point] c) := by
  obtain ⟨f, ho, hf⟩ := stopSearch_openSet t .abandoned false
  obtain ⟨-, hm, -, -, -, -, -, -, -, -, -, -, -, -, hn, -⟩ := stopSearch_same t .abandoned false
  have slots : (t.board.openSet.map (·.slot)).Nodup := by
    rw [first.openSet]
    exact hs.sublist (List.filter_sublist.map _)
  have split : ∀ c, ofKinds [.raise, .lower, .aim, .peak, .point] c =
      (ofKinds [.raise, .lower] c || ofKinds [.aim, .peak, .point] c) :=
    ofKinds_append [.raise, .lower] [.aim, .peak, .point]
  rw [funext split]
  constructor
  · refine Ended.endWhere_more (first.ended.congr hm hn) (hm.symm ▸ first.wf) (fun c hc hq => ?_) (fun d hd hq => ?_)
    · cases hp : ofKinds [.raise, .lower] c
      · refine .inr ⟨f c, ?_, (hf c).1, (ofKinds_told hf _ c).trans hq⟩
        rw [abandonSearch, ho, first.openSet]
        exact List.mem_map_of_mem (List.mem_filter.mpr ⟨hc, by rw [hp]; rfl⟩)
      · exact .inl rfl
    · rw [abandonSearch, ho, first.openSet] at hd
      obtain ⟨c, hc, rfl⟩ := List.mem_map.mp hd
      exact ⟨c, List.mem_of_mem_filter hc, (hf c).1.symm, ofKinds_told hf _ c ▸ hq⟩
  · obtain ⟨-, opened, -⟩ :=
      abandonThenEnd t [.aim, .peak, .point] .superseded first.wf slots (coversSearch_of_mem (by decide) (by decide))
    rw [opened, first.openSet, List.filter_filter]
    congr 1
    funext c
    rw [Bool.not_or, Bool.and_comm]

/-- STOW at its owning block, in NORMAL and RECOVERY. -/
theorem ownStow_accepted (s : State) (n : Slot) (mode : s.ctl.mode ≠ .forcedStow) (sound : s.ctl.dishState ≠ .failed) :
    ownStow s n = pursueDish (recomputeEff (openCommand
      (writeDishGoal (setMastGoal ((endWhere (abandonSearch (s.withMode .normal)) (ofKinds stanceKinds)
        .superseded).withPeakPending false) 0) .stow)
      (OpenCommand.new n .stow Warnings.empty))) := by
  simp only [ownStow, mode, sound, if_false]

theorem ownStow_forcedStow (s : State) (n : Slot) (mode : s.ctl.mode = .forcedStow) :
    ownStow s n = openCommand (endWhere s (ofKinds [.stow, .lower]) .superseded)
      (OpenCommand.new n .stow Warnings.empty) := by
  simp only [ownStow, mode, if_true]

/-- POINT at its owning block. -/
theorem ownPoint_accepted (s : State) (n : Slot) (sound : s.ctl.dishState ≠ .failed) (high : 1500 ≤ s.stance.mastGoal) :
    let t := clampPoint (pointArgs s n)
    ownPoint s n = pursueDish (writeDishGoal (openCommand
      ((endWhere (abandonSearch s) (ofKinds [.aim, .peak, .point]) .superseded).withPeakPending false)
      { OpenCommand.new n .point { Warnings.empty with clamped := decide (t ≠ pointArgs s n) } with point := t })
      (.point t)) := by
  have notLow : ¬ s.stance.mastGoal < Config.nestHeight := not_lt.mpr high
  simp only [ownPoint, sound, notLow, if_false]

/-- What a mode leaves of the drives. -/
theorem sameDrives_trans {s t u : State} (h : sameDrives s t) (k : sameDrives t u) : sameDrives s u := by
  obtain ⟨p, t', l, sw, x, a, w, i, pw⟩ := h
  obtain ⟨p', t'', l', sw', x', a', w', i', pw'⟩ := k
  exact ⟨p'.trans p, t''.trans t', l'.trans l, sw'.trans sw, x'.trans x, a'.trans a, w'.trans w, i'.trans i, pw'.trans pw⟩

/-- A take's commands are those of the state before the oldest slot left the intake list. -/
theorem Ended.of_popIntake {s u : State} {p : OpenCommand → Bool} {code : Code} (h : Ended (popIntake s) u p code) :
    Ended s u p code := h

theorem popIntake_sameDrives (s : State) : sameDrives s (popIntake s) := ⟨rfl, rfl, rfl, rfl, rfl, rfl, rfl, rfl, rfl⟩

end Sys2Proof.Machine

open Sys2Proof Sys2Proof.Machine

/-- Settles O2: the gate's table by cases of the kind. -/
theorem modeGateTable : Obligations.ModeGateTable := by
  refine ⟨?_, ?_, ?_, ?_, ?_, ?_, ?_⟩
  · intro s k n hr hs hi ho hk hc
    cases hl : s.board.intake with
    | nil => simp [hl] at hi
    | cons m rest =>
      obtain rfl : m = n := by simpa [hl] using hi
      cases hg : gate s.ctl.mode k <;> simp [takeSteps, takesAllowed, hr, hs, hl, ho, hk, hc, hg]
  · intro k
    cases k <;> rfl
  · intro k
    cases k <;> rfl
  · intro k
    cases k <;> rfl
  · intro k
    cases k <;> rfl
  · rintro s k (h | h) <;> simp [takeSteps, takesAllowed, running, h]
  · intro s n taken hw notStowed
    refine takeEvent_refused s .standby ownStandby n .notStowed taken hw ?_
    have moving : stowedAtRest (popIntake s) = false := by
      rw [stowedAtRest, Bool.and_eq_false_iff, beq_eq_false_iff_ne, beq_eq_false_iff_ne]
      exact notStowed
    simp [ownStandby, moving]

/-- Settles O4. -/
theorem raiseAccepted : Obligations.RaiseAccepted := by
  rintro s n asked taken ⟨hw, -, hs, -⟩ clear rfl free
  have own := takeEvent_passed s .raise ownRaise n taken
  have ends := endWhere_onlyEnded (popIntake s) (ofKinds [.raise, .lower]) .superseded hw hs
  rw [ownRaise_accepted (popIntake s) n clear free] at own
  generalize endWhere (popIntake s) (ofKinds [.raise, .lower]) .superseded = t at own ends
  have clamped : ∀ x : Int, (min x 15000 < x) ↔ (15000 < x) := by omega
  refine ⟨_, congrArg Host.Outcome.next own, ?_⟩
  refine ⟨?_, ?_, ⟨ends.drives, ends.geo, ends.level, ends.intake, ends.control, ends.headerSeq⟩, ?_,
    ends.ended.of_popIntake.congr rfl rfl⟩
  · simp [setMastGoal, ends.stance, argHeight]
  · simp [setMastGoal, ends.ctl]
  · have opened : t.board.openSet = s.board.openSet.filter (fun c => !ofKinds [.raise, .lower] c) := ends.openSet
    simp only [openCommand_openSet, setMastGoal, argHeight, popIntake_mem, clamped]
    exact congrArg (· ++ _) opened

/-- Settles O5, by the height and the mode. -/
theorem lowerAccepted : Obligations.LowerAccepted := by
  rintro s n asked h taken ⟨hw, -, hs, -⟩ rfl rfl goal
  have goalIs : adoptedHeight (min (argHeight (popIntake s) n) (extension (popIntake s))) = goal := adoptedHeight_eq _
  have own := takeEvent_passed s .lower ownLower n taken
  refine ⟨fun mode high => ?_, fun mode low free => ?_, fun mode => ?_⟩
  · have ends := endWhere_onlyEnded (popIntake s) (ofKinds [.raise, .lower]) .superseded hw hs
    rw [ownLower_high (popIntake s) n mode high, goalIs] at own
    generalize endWhere (popIntake s) (ofKinds [.raise, .lower]) .superseded = t at own ends
    refine ⟨_, congrArg Host.Outcome.next own, ?_⟩
    refine ⟨?_, ?_, ⟨ends.drives, ends.geo, ends.level, ends.intake, ends.control,
      ends.headerSeq⟩, congrArg (· ++ _) ends.openSet, ends.ended.of_popIntake.congr rfl rfl⟩
    · simp [setMastGoal, ends.stance]
    · simp [setMastGoal, ends.ctl]
  · have first := endWhere_onlyEnded (popIntake s) (ofKinds [.raise, .lower]) .superseded hw hs
    rw [ownLower_low (popIntake s) n mode low free, goalIs] at own
    generalize endWhere (popIntake s) (ofKinds [.raise, .lower]) .superseded = t at own first
    obtain ⟨ended, openSet⟩ := raiseLower_then_dish_ended (popIntake s) t first hs
    obtain ⟨stance, ctl, geo, level, drives, intake, control, seq⟩ :=
      abandonThenEnd_same t (ofKinds [.aim, .peak, .point]) .superseded
    generalize endWhere (abandonSearch t) (ofKinds [.aim, .peak, .point]) .superseded = v at *
    have kept := sameDrives_trans first.drives drives
    rw [first.stance] at stance
    refine ⟨_, congrArg Host.Outcome.next own, ?_⟩
    refine ⟨?_, ?_, ?_, geo.trans first.geo, ?_,
      ⟨intake.trans first.intake, control.trans first.control, seq.trans first.headerSeq⟩,
      congrArg (· ++ _) openSet, ended.of_popIntake.congr rfl rfl⟩
    · simp [setMastGoal, stance false]
    · simp [setMastGoal, ctl, first.ctl]
    · simpa [sameDrives, setMastGoal] using kept
    · simp [setMastGoal, level, first.level]
  · have ends := endWhere_onlyEnded (popIntake s) (ofKinds [.lower]) .superseded hw hs
    rw [ownLower_forcedStow (popIntake s) n mode] at own
    generalize endWhere (popIntake s) (ofKinds [.lower]) .superseded = t at own ends
    refine ⟨_, congrArg Host.Outcome.next own, ?_⟩
    exact ⟨ends.stance, ends.ctl,
      ⟨ends.drives, ends.geo, ends.level, ends.intake, ends.control, ends.headerSeq⟩,
      congrArg (· ++ _) ends.openSet, ends.ended.of_popIntake.congr rfl rfl⟩

/-- Settles O6, by the mode. -/
theorem stowAccepted : Obligations.StowAccepted := by
  rintro s n taken ⟨hw, -, hs, -⟩
  have own := takeEvent_passed s .stow ownStow n taken
  refine ⟨fun mode sound => ?_, fun mode => ?_⟩
  · have covers : coversSearch stanceKinds := coversSearch_of_mem (by decide) (by decide)
    obtain ⟨ended, openSet, -⟩ := abandonThenEnd ((popIntake s).withMode .normal) stanceKinds .superseded hw hs covers
    replace ended : Ended s _ _ _ := ended
    obtain ⟨stance, ctl, geo, level, drives, intake, control, seq⟩ :=
      abandonThenEnd_same ((popIntake s).withMode .normal) (ofKinds stanceKinds) .superseded
    rw [ownStow_accepted (popIntake s) n mode sound] at own
    generalize endWhere (abandonSearch ((popIntake s).withMode .normal)) (ofKinds stanceKinds) .superseded = v at *
    refine ⟨_, congrArg Host.Outcome.next own, ?_⟩
    refine ⟨?_, ?_, ?_, geo, level, ⟨intake, control, seq⟩,
      congrArg (· ++ _) openSet, ended.congr rfl rfl⟩
    · simp [setMastGoal, stance false]
    · simp [setMastGoal, ctl, State.withMode]
    · simpa [sameDrives, setMastGoal] using drives
  · have ends := endWhere_onlyEnded (popIntake s) (ofKinds [.stow, .lower]) .superseded hw hs
    rw [ownStow_forcedStow (popIntake s) n mode] at own
    generalize endWhere (popIntake s) (ofKinds [.stow, .lower]) .superseded = t at own ends
    refine ⟨_, congrArg Host.Outcome.next own, ?_⟩
    exact ⟨ends.stance, ends.ctl,
      ⟨ends.drives, ends.geo, ends.level, ends.intake, ends.control, ends.headerSeq⟩,
      congrArg (· ++ _) ends.openSet, ends.ended.of_popIntake.congr rfl rfl⟩

/-- Settles O10. -/
theorem pointAccepted : Obligations.PointAccepted := by
  rintro s n asked t taken ⟨hw, -, hs, -⟩ sound high rfl rfl
  have covers : coversSearch [.aim, .peak, .point] := coversSearch_of_mem (by decide) (by decide)
  obtain ⟨ended, openSet, -⟩ := abandonThenEnd (popIntake s) [.aim, .peak, .point] .superseded hw hs covers
  obtain ⟨stance, ctl, geo, level, drives, intake, control, seq⟩ :=
    abandonThenEnd_same (popIntake s) (ofKinds [.aim, .peak, .point]) .superseded
  have own := takeEvent_passed s .point ownPoint n taken
  rw [ownPoint_accepted (popIntake s) n sound high, clampPoint_eq] at own
  generalize endWhere (abandonSearch (popIntake s)) (ofKinds [.aim, .peak, .point]) .superseded = v at *
  refine ⟨_, congrArg Host.Outcome.next own, ?_⟩
  refine ⟨?_, ?_, ?_, geo, level, ⟨intake, control, seq⟩,
    congrArg (· ++ _) openSet, ended.of_popIntake.congr rfl rfl⟩
  · simp [stance false, pointArgs]
  · simp [ctl]
  · simpa [sameDrives] using drives

/-- Settles O12. -/
theorem recoverHoldAccepted : Obligations.RecoverHoldAccepted := by
  intro s n taken present height
  have notRefused : ¬ (belowNest (popIntake s) && !inWindow (popIntake s)) = true := by
    have below : belowNest (popIntake s) = decide (extension s < 1500) := rfl
    have window : inWindow (popIntake s) = inWindow s := rfl
    rw [below, window]
    rcases present with high | inside
    · simp [not_lt.mpr high]
    · simp [inside]
  have heightIs : adoptedHeight (extension (popIntake s)) = height := adoptedHeight_eq _
  refine ⟨(setMastGoal (popIntake s) height).withMode .normal, adoptedGoal s, ?_, rfl, rfl,
    ⟨popIntake_sameDrives s, rfl, rfl, rfl, rfl, rfl⟩, rfl, rfl, ?_⟩
  · refine congrArg Host.Outcome.next ((takeEvent_passed s .recoverHold ownRecoverHold n taken).trans ?_)
    rw [ownRecoverHold, if_neg notRefused, heightIs]
    rfl
  · simp only [adoptedGoal, clampPoint_eq, belowNest, decide_eq_true_eq]
    rfl

/-- Settles O13: each refusal is a branch of its owning block. -/
theorem stanceRefusals : Obligations.StanceRefusals := by
  intro s n hw
  refine ⟨fun taken barred => ?_, fun taken clear low barred => ?_, fun taken mode low failed outside => ?_,
    fun taken mode failed => ?_, fun taken h => ?_, fun taken h1 h2 h3 => ?_, fun taken h => ?_, fun taken low outside => ?_⟩
  · refine takeEvent_refused s .raise ownRaise n _ taken hw ?_
    have interlock : raiseInterlock (popIntake s) = true := by
      rw [← Bool.not_eq_false, raiseInterlock_eq_false_iff]
      exact barred
    simp [ownRaise, interlock]
  · refine takeEvent_refused s .raise ownRaise n _ taken hw ?_
    have heightLow : heightBarred (popIntake s) (min (argHeight (popIntake s) n) Config.mastTravel) = true := by
      refine (heightBarred_iff _ _).mpr ⟨?_, barred⟩
      simp only [argHeight, Config.mastTravel, popIntake_mem]
      omega
    simp [ownRaise, (raiseInterlock_eq_false_iff (popIntake s)).mpr clear, heightLow]
  · refine takeEvent_refused s .lower ownLower n _ taken hw ?_
    have refused : min (argHeight (popIntake s) n) (extension (popIntake s)) < Config.nestHeight ∧
      (popIntake s).ctl.dishState = .failed ∧ inWindow (popIntake s) = false := ⟨low, failed, outside⟩
    exact (if_neg mode).trans (if_pos refused)
  · exact takeEvent_refused s .stow ownStow n _ taken hw ((if_neg mode).trans (if_pos failed))
  · refine takeEvent_refused s .aim ownAim n _ taken hw ?_
    by_cases failed : s.ctl.dishState = .failed
    · exact if_pos failed
    · exact (if_neg failed).trans (if_pos (h.resolve_left failed))
  · refine takeEvent_refused s .peak ownPeak n _ taken hw (if_pos ?_)
    rw [popIntake_ctl, (not_peakable_iff _).mpr ⟨h1, h2, h3⟩]
    rfl
  · refine takeEvent_refused s .point ownPoint n _ taken hw ?_
    by_cases failed : s.ctl.dishState = .failed
    · exact if_pos failed
    · exact (if_neg failed).trans (if_pos (h.resolve_left failed))
  · refine takeEvent_refused s .recoverHold ownRecoverHold n _ taken hw (if_pos ?_)
    have below : belowNest (popIntake s) = true := decide_eq_true low
    have window : inWindow (popIntake s) = false := outside
    rw [below, window]
    rfl
end

section
/-! PROOFS. AIM (R18, R34, R35, R51): O7. -/
namespace Sys2Proof.Machine

/-! ## Solutions and their targets -/

theorem acceptable_inUse (r : SiteRecord) (h : r.acceptable = true) : r.inUse = 1 := by
  simp only [SiteRecord.acceptable, Bool.and_eq_true, beq_iff_eq] at h
  exact h.1

/-- The checks of R34 pass for an acceptable record at 50 m or more. -/
theorem aimCheck_passes (s : State) (site : Fin 32) (f : Fix) (ok : (readSite s.mem site.val).acceptable = true)
    (fix : s.geo.fix = some f) (far : 50 ≤ rangeOf (readSite s.mem site.val) f) : aimCheck s site.val = none := by
  have there : ¬ (32 ≤ site.val ∨ (readSite s.mem site.val).inUse = 0) := by
    rw [acceptable_inUse _ ok]
    omega
  simp [aimCheck, there, ok, fix, not_lt.mpr far]

theorem siteOfByte_site (site : Fin 32) : siteOfByte site.val = some site := by
  simp [siteOfByte]

theorem elevClamped_eq (sol : Solution) (trim : Int) :
    elevClamped sol trim = decide (sol.tilt + trim < -1000 ∨ 3000 < sol.tilt + trim) := by
  show (!(decide (-1000 ≤ sol.tilt + trim) && decide (sol.tilt + trim ≤ 3000))) = _
  rw [Bool.eq_iff_iff]
  simp only [Bool.not_eq_true', Bool.and_eq_false_iff, decide_eq_false_iff_not, decide_eq_true_eq, not_le]

/-- The entry of an AIM (R35, R51): the trims of a matching revision, the stored solution where the entry was COMPUTED for
that revision, fix generation and height, else the one computed now. -/
theorem servedEntry_eq (s : State) (site : Fin 32) (f : Fix) :
    let r := readSite s.mem site.val
    let old := s.entry site
    servedEntry s site f = ⟨.computed, s.geo.fixGen, s.ctl.effTarget,
      if old.revision = r.revision ∧ old.state = .computed ∧ old.fixGen = s.geo.fixGen ∧ old.height = s.ctl.effTarget
        then old.sol else solve r f s.ilk.pitch s.ilk.roll s.limits.roof s.ctl.effTarget,
      r.revision, if old.revision = r.revision then old.trim else { old.trim with valid := false }⟩ := by
  intro r old
  by_cases revision : old.revision = r.revision
  · have checked : old.checked r.revision = old := if_pos revision
    by_cases fresh : old.state = .computed ∧ old.fixGen = s.geo.fixGen ∧ old.height = s.ctl.effTarget
    · obtain ⟨hstate, hgen, hheight⟩ := fresh
      have kept : mustCompute s old = false := by simp [mustCompute, hstate, hgen, hheight]
      show (if mustCompute s (old.checked r.revision) then _ else old.checked r.revision) = _
      rw [checked, kept, if_neg Bool.false_ne_true, if_pos ⟨revision, hstate, hgen, hheight⟩, if_pos revision, ← hstate,
        ← hgen, ← hheight, ← revision]
    · have computed : mustCompute s old = true := by
        simp only [mustCompute, Bool.or_eq_true, bne_iff_ne]
        tauto
      show (if mustCompute s (old.checked r.revision) then (old.checked r.revision).computed s r f else _) = _
      rw [checked, if_pos computed, if_neg (fun h => fresh h.2), if_pos revision]
      rfl
  · have checked : old.checked r.revision = old.emptied r.revision := if_neg revision
    show (if mustCompute s (old.checked r.revision) then (old.checked r.revision).computed s r f else _) = _
    rw [checked, if_pos (by rfl), if_neg (fun h => revision h.1), if_neg revision]
    rfl

/-- Entries are read from the table alone. -/
theorem entry_congr {s u : State} (h : u.geo = s.geo) (k : Fin 32) : u.entry k = s.entry k := by
  rw [State.entry, State.entry, h]

/-- The argument bytes of a slot are no result bytes. -/
theorem argAddr_not_result (n m : Slot) (off : Nat) (h : off < 32) : ¬ resultByte m (argAddr n off) := by
  simp only [resultByte, argAddr, slotAddr, Config.slotBase]
  omega

/-- AIM at its owning block. -/
theorem ownAim_accepted (s : State) (n : Slot) (site : Fin 32) (sound : s.ctl.dishState ≠ .failed)
    (high : 1500 ≤ s.stance.mastGoal) (index : readU8 s.mem (argAddr n 0) = site.val)
    (check : aimCheck s site.val = none) : ownAim s n = acceptAim s n site := by
  have notLow : ¬ s.stance.mastGoal < Config.nestHeight := not_lt.mpr high
  simp [ownAim, sound, notLow, index, check, siteOfByte_site]

/-- What an accepted AIM leaves before the dish turns, once the entry is served and the commands it supersedes are ended:
`v` stands for that state, whose table holds the entry `e` of the site. -/
theorem deriveSite_aimStance (v : State) (n : Slot) (site : Fin 32) (e : Entry) (entry : v.entry site = e)
    (computed : e.state ≠ .empty) :
    deriveSite (aimStance v n site) = (aimStance v n site).withSiteTargets (e.targets v.axes.pan.position)
      e.trim.panInForce e.trim.tiltInForce := by
  have live : liveEntry (aimStance v n site) = e := entry
  rw [deriveSite, live, if_neg computed]
  rfl

end Sys2Proof.Machine

open Sys2Proof Sys2Proof.Machine

/-- Settles O7. -/
theorem aimAccepted : Obligations.AimAccepted := by
  rintro s n site f taken ⟨hw, -, hs, -⟩ table sound high index ok fix far r old reused sol trim trimPan trimTilt targets
  set e : Entry := ⟨.computed, s.geo.fixGen, s.ctl.effTarget, sol, r.revision, trim⟩ with he
  have own := takeEvent_passed s .aim ownAim n taken
  rw [ownAim_accepted (popIntake s) n site sound high index (aimCheck_passes (popIntake s) site f ok fix far)] at own
  have served : obtainSolution (popIntake s) site = (popIntake s).withEntry site e := by
    rw [obtainSolution, popIntake_geo, fix]
    show (popIntake s).withEntry site (servedEntry (popIntake s) site f) = _
    rw [servedEntry_eq]
    rfl
  rw [acceptAim, served] at own
  have entry : ((popIntake s).withEntry site e).entry site = e := withEntry_same _ _ _ table
  have covers : coversSearch [.aim, .peak, .point] := coversSearch_of_mem (by decide) (by decide)
  obtain ⟨ended, openSet, -⟩ :=
    abandonThenEnd ((popIntake s).withEntry site e) [.aim, .peak, .point] .superseded hw hs covers
  replace ended : Ended s _ _ _ := ended
  obtain ⟨stance, ctl, geo, level, drives, intake, control, seq⟩ :=
    abandonThenEnd_same ((popIntake s).withEntry site e) (ofKinds [.aim, .peak, .point]) .superseded
  generalize endWhere (abandonSearch ((popIntake s).withEntry site e)) (ofKinds [.aim, .peak, .point]) .superseded = v at *
  obtain ⟨-, -, -, -, axes, -⟩ := id drives
  replace axes : v.axes = s.axes := axes
  have command : aimCommand ((popIntake s).withEntry site e) n site =
      { OpenCommand.new n .aim { Warnings.empty with
          elevClamped := decide (sol.tilt + trimTilt < -1000 ∨ 3000 < sol.tilt + trimTilt), rangeFar := sol.rangeFar } with
        peakAfter := aimPeakAfter s n
        aim := ⟨site.val, sol.bearing, sol.elevation, sol.range, targets⟩ } := by
    rw [aimCommand, entry, solutionWarnings, elevClamped_eq]
    rfl
  have flags : readU8 v.mem (argAddr n 1) = readU8 s.mem (argAddr n 1) :=
    congrArg BitVec.toNat (ended.2 _ fun c _ _ => argAddr_not_result n c.slot 1 (by omega))
  have peakAfter : aimPeakAfter v n = aimPeakAfter s n := by rw [aimPeakAfter, aimPeakAfter, flags]
  have watch : aimWatch v n = aimWatch s n := by rw [aimWatch, aimWatch, flags]
  rw [deriveSite_aimStance v n site e ((entry_congr geo site).trans entry) (by simp [he])] at own
  refine ⟨_, congrArg Host.Outcome.next own, ?_, ?_, ?_, ⟨intake, control, seq⟩, level, ?_, ?_, ?_, ?_, ?_, ?_, ?_⟩
  · simp only [openCommand_stance, withSiteTargets_stance, aimStance, writeDishGoal_stance, withStance_stance, peakAfter,
      watch]
    have rest := stance (aimPeakAfter s n)
    exact congrArg (fun st : Stance =>
      { st with site := some site, dishGoal := .site, peakAfter := aimPeakAfter s n, watch := aimWatch s n }) rest
  · simp only [openCommand_ctl, State.withSiteTargets, withCtl_ctl, aimStance, writeDishGoal_ctl, withStance_ctl, ctl, axes]
    rfl
  · simpa [sameDrives, aimStance] using drives
  · exact (entry_congr geo site).trans entry
  · simp [aimStance, geo, State.withEntry]
  · simp [aimStance, geo, State.withEntry]
  · show (openCommand _ _).geo.table.length = 32
    simpa [aimStance, geo, State.withEntry] using table
  · exact fun k hk => (entry_congr geo k).trans (withEntry_other _ _ _ _ hk)
  · rw [openCommand_openSet, command]
    exact congrArg (· ++ _) openSet
  · exact ended.congr rfl rfl
end

section
/-! PROOFS. The end of a search and its start (R66, R74), and PEAK (R19): O9. -/
namespace Sys2Proof.Machine

/-! ## The result data of commands ended together (R158) -/

/-- The result data of a command rests on the axes, the effective target and the effective ceiling. -/
theorem resultData_congr {s u : State} (x : u.axes = s.axes) (e : u.ctl = s.ctl) (l : u.limits = s.limits)
    (w : u.wind = s.wind) (c : OpenCommand) : resultData u c = resultData s c := by
  unfold resultData dishPositionBytes effCeiling extension
  rw [x, e, l, w]

/-- Of commands completed one after the other, each leaves its own warnings and data, as they were at the first. -/
theorem foldComplete_bytes (l : List OpenCommand) (s : State) (code : Code) (h : Memory.wf s.mem = true)
    (c : OpenCommand) (hc : c ∈ l) (alone : ∀ d ∈ l, d.slot = c.slot → d = c) :
    let u := l.foldl (fun t d => complete t d code) s
    read8 u.mem (slotAddr c.slot + 5) = c.warnings.toByte ∧
      ∀ k (hk : k < (padBytes 24 (resultData s c)).length),
        read8 u.mem (slotAddr c.slot + 40 + k) = (padBytes 24 (resultData s c))[k] := by
  induction l generalizing s with
  | nil => cases hc
  | cons d l ih =>
    by_cases later : c ∈ l
    · have same : resultData (complete s d code) c = resultData s c := by
        refine resultData_congr ?_ ?_ ?_ ?_ c <;> simp [complete, writeResult]
      have rest := ih (complete s d code) (writeResult_wf _ _ _ _ _ h) later
        (fun e he => alone e (List.mem_cons_of_mem d he))
      simp only [same] at rest
      exact rest
    · obtain rfl : c = d := (List.mem_cons.mp hc).resolve_right later
      have untouched : ∀ a, resultByte c.slot a →
          read8 ((c :: l).foldl (fun t d => complete t d code) s).mem a = read8 (complete s c code).mem a := by
        intro a ha
        refine foldComplete_other l _ code a fun e he hb => later ?_
        exact alone e (List.mem_cons_of_mem c he) (resultByte_slots e.slot c.slot a hb ha) ▸ he
      refine ⟨?_, fun k hk => ?_⟩
      · rw [untouched _ (.inr (.inr (.inl rfl)))]
        exact writeResult_warnings _ _ _ _ _ h
      · have inData : k < 24 := by simpa using hk
        rw [untouched _ (.inr (.inr (.inr ⟨by omega, by omega⟩)))]
        exact writeResult_data _ _ _ _ _ h k hk

theorem endWhere_bytes (s : State) (p : OpenCommand → Bool) (code : Code) (hw : Memory.wf s.mem = true)
    (hs : (s.board.openSet.map (·.slot)).Nodup) (c : OpenCommand) (hc : c ∈ s.board.openSet) (hp : p c = true) :
    let u := endWhere s p code
    read8 u.mem (slotAddr c.slot + 5) = c.warnings.toByte ∧
      ∀ k (hk : k < (padBytes 24 (resultData s c)).length),
        read8 u.mem (slotAddr c.slot + 40 + k) = (padBytes 24 (resultData s c))[k] :=
  foldComplete_bytes _ s code hw c ((mem_openWhere s p c).mpr ⟨hc, hp⟩) fun d hd hslot =>
    List.inj_on_of_nodup_map hs ((mem_openWhere s p d).mp hd).1 hc hslot

/-! ## The end of a search (R74) -/

/-- A command as the end of a search leaves it. -/
def Search.told (c : Search) (o : SearchOutcome) (d : OpenCommand) : OpenCommand :=
  if ownsSearch d then d.withSearch (c.fields o) c.edge else d

theorem told_searchTold (c : Search) (o : SearchOutcome) : SearchTold (c.told o) := by
  intro d
  cases h : ownsSearch d <;> simp [Search.told, h, OpenCommand.withSearch]

theorem stopSearch_openSet_full (s : State) (c : Search) (o : SearchOutcome) (keep : Bool)
    (search : s.level.search = some c) (full : c.kind = .full) :
    (stopSearch s o keep).board.openSet = s.board.openSet.map (c.told o) := by
  rw [stopSearch, dropSearch_board, tellSearch, search]
  simp only [full, if_true]
  rfl

theorem stopSearch_openSet_touchUp (s : State) (c : Search) (o : SearchOutcome) (keep : Bool)
    (search : s.level.search = some c) (touchUp : c.kind = .touchUp) : (stopSearch s o keep).board = s.board := by
  rw [stopSearch, dropSearch_board, tellSearch, search]
  simp [touchUp]

theorem outcome_lt (o : SearchOutcome) : o.toNat < 256 := by cases o <;> decide

theorem outcomeByte_toNat (o : SearchOutcome) : (BitVec.ofNat 8 o.toNat).toNat = o.toNat := by
  rw [BitVec.toNat_ofNat]
  exact Nat.mod_eq_of_lt (outcome_lt o)

/-- The end of a running search, in the terms of the statements (R74). -/
theorem endSearch_ended (s : State) (c : Search) (o : SearchOutcome) (code : Code) (search : s.level.search = some c)
    (hw : Memory.wf s.mem = true) (hs : (s.board.openSet.map (·.slot)).Nodup) :
    searchEnded s (endSearch s o code) c o code := by
  have stance : (endSearch s o code).stance = { s.stance with peakPending := false } :=
    endSearch_stance s o code (by rw [search]; rfl)
  obtain ⟨-, hm, -⟩ := stopSearch_same s o false
  cases kind : c.kind with
  | touchUp =>
    have ends : endSearch s o code = stopSearch s o false := by simp [endSearch, search, kind]
    rw [ends] at stance ⊢
    refine ⟨stopSearch_search s o false, stance, fun _ => ⟨?_, hm⟩, fun full => absurd (kind.symm.trans full) (by decide)⟩
    rw [stopSearch_openSet_touchUp s c o false search kind]
  | full =>
    have ends : endSearch s o code = endWhere (stopSearch s o false) ownsSearch code := by
      simp [endSearch, search, kind]
    have opened := stopSearch_openSet_full s c o false search kind
    have gone := stopSearch_search s o false
    have told := told_searchTold c o
    rw [ends] at stance ⊢
    generalize stopSearch s o false = t at *
    have tw : Memory.wf t.mem = true := hm ▸ hw
    have ts : (t.board.openSet.map (·.slot)).Nodup := by
      rw [opened, map_slot_told told]
      exact hs
    obtain ⟨-, -, -, -, -, -, level, -⟩ := endWhere_same t ownsSearch code
    have answers : ∀ d ∈ s.board.openSet, ownsSearch d = true → ∀ k (hk : k < 24),
        read8 (endWhere t ownsSearch code).mem (slotAddr d.slot + 40 + k) =
          (padBytes 24 (resultData t (c.told o d)))[k]'(by simpa using hk) := by
      intro d hd hown k hk
      have mem : c.told o d ∈ t.board.openSet := opened ▸ List.mem_map_of_mem hd
      obtain ⟨-, data⟩ := endWhere_bytes t ownsSearch code tw ts _ mem ((ownsSearch_told told d).trans hown)
      rw [← (told d).1]
      exact data k (by simpa using hk)
    refine ⟨level ▸ gone, stance, fun touchUp => absurd (kind.symm.trans touchUp) (by decide), fun _ => ⟨?_, ?_, ?_, ?_⟩⟩
    · exact Ended.of_map (c.told o) hm opened (fun d => (told d).1) (ownsSearch_told told)
        (endWhere_ended t ownsSearch code tw)
    · rw [endWhere_openSet t ownsSearch code ts, opened]
      refine filter_map_fixed _ _ _ (fun d _ => by rw [ownsSearch_told told]) fun d _ hd => (told d).2.2.2 ?_
      simpa using hd
    · intro d hd peak
      have own : ownsSearch d = true := by simp [ownsSearch, peak]
      have data : resultData t (c.told o d) = leBytes 1 o.toNat ++ leBytes 1 c.probes ++ le16 c.centrePan ++
          le16 c.centreTilt ++ le16 (c.lc.getD 0) := by
        simp [Search.told, own, OpenCommand.withSearch, resultData, peak, Search.fields]
      rw [readU8, ← Nat.add_zero (slotAddr d.slot + 40), answers d hd own 0 (by omega)]
      simp only [data]
      exact outcomeByte_toNat o
    · intro d hd aim after
      have own : ownsSearch d = true := by simp [ownsSearch, aim, after]
      have data : resultData t (c.told o d) = leBytes 1 d.aim.site ++ leBytes 1 o.toNat ++ le16 d.aim.bearing ++
          le16 d.aim.elevation ++ leBytes 2 c.probes ++ le32 d.aim.range ++ targetBytes d.aim.targets ++
          le16 c.centrePan ++ le16 c.centreTilt ++ le16 (c.lc.getD 0) := by
        simp [Search.told, own, OpenCommand.withSearch, resultData, aim, Search.fields]
      rw [readU8, show slotAddr d.slot + 41 = slotAddr d.slot + 40 + 1 from rfl, answers d hd own 1 (by omega)]
      simp only [data]
      exact outcomeByte_toNat o

/-! ## The start of a search (R66) -/

/-- The context of a search at its start has already asked for the site targets in force. -/
theorem newSearch_asked (s : State) (site : Fin 32) (kind : SearchKind) :
    { newSearch s site kind with asked := s.ctl.siteTargets, wait := .moving } = newSearch s site kind := rfl

/-- `v` is `s` with a search begun at its context, its peak pending set and the dish PEAKING, on the same or a freshly
computed entry of the site (R66, R49). -/
structure SearchBegun (s v : State) (site : Fin 32) (c : Search) : Prop where
  stance : v.stance = { s.stance with peakPending := true }
  ctl : v.ctl = { s.ctl with dishState := .peaking, dishShort := none }
  level : v.level = { s.level with search := some c, watch := none }
  board : v.board = s.board
  mem : v.mem = s.mem
  drives : sameDrives s v
  fix : v.geo.fix = s.geo.fix
  fixGen : v.geo.fixGen = s.geo.fixGen
  others : ∀ k, k ≠ site → v.entry k = s.entry k

theorem beginSearch_begun (s : State) (site : Fin 32) (c : Search) : SearchBegun s (beginSearch s c) site c := by
  have geo : (beginSearch s c).geo = s.geo := by simp [beginSearch]
  refine ⟨?_, ?_, ?_, ?_, ?_, ?_, congrArg _ geo, congrArg _ geo, fun k _ => entry_congr geo k⟩
  · simp [beginSearch]
  · simp [beginSearch, State.withDishShort]
  · simp [beginSearch, State.withSearch, State.withDishShort, State.withDish]
  · simp [beginSearch]
  · simp [beginSearch]
  · simp [sameDrives, beginSearch]

theorem SearchBegun.withEntry {s v : State} {site : Fin 32} {c : Search} (h : SearchBegun s v site c) (e : Entry) :
    SearchBegun s (v.withEntry site e) site c :=
  ⟨h.stance, h.ctl, h.level, h.board, h.mem, h.drives, h.fix, h.fixGen,
    fun k hk => (withEntry_other _ _ _ _ hk).trans (h.others k hk)⟩

theorem startSearch_some (s v : State) (kind : SearchKind) (site : Fin 32) (live : s.stance.site = some site)
    (ok : (readSite s.mem site.val).acceptable = true)
    (fresh : freshSolution (beginSearch s (newSearch s site kind)) site = some v) :
    startSearch s kind = if levelLost s then searchSensor v
      else askTargets v (newSearch s site kind) s.ctl.siteTargets := by
  simp [startSearch, live, ok, fresh]

theorem startSearch_none (s : State) (kind : SearchKind) (site : Fin 32) (live : s.stance.site = some site)
    (bad : (readSite s.mem site.val).acceptable = false ∨
      freshSolution (beginSearch s (newSearch s site kind)) site = none) :
    startSearch s kind = returnToSite (endSearch (beginSearch s (newSearch s site kind)) .abandoned .ok) := by
  rcases bad with bad | stale <;> simp [startSearch, *]

/-- A search that goes on at its start issues the site targets in force, unless the mast is below the nest height. -/
theorem askTargets_begun {s v : State} {site : Fin 32} {kind : SearchKind}
    (h : SearchBegun s v site (newSearch s site kind)) :
    askTargets v (newSearch s site kind) s.ctl.siteTargets =
      if extension s < 1500 then v else giveDish v s.ctl.siteTargets := by
  have height : belowNest v = decide (extension s < 1500) := by
    obtain ⟨-, -, -, -, axes, -⟩ := h.drives
    rw [belowNest, extension, axes]
    rfl
  have same : v.withSearch (newSearch s site kind) = v := by
    have level : { v.level with search := some (newSearch s site kind) } = v.level := by rw [h.level]
    rw [State.withSearch, level]
    rfl
  simp [askTargets, newSearch_asked, same, height]

/-- The end of a search leaves no search, and the rest of the level as it was. -/
theorem endSearch_level (s : State) (o : SearchOutcome) (code : Code) :
    (endSearch s o code).level = { s.level with search := none } := by
  cases h : s.level.search with
  | none =>
    have unsearched : s.level = { s.level with search := none } := by
      rw [← h]
    simpa [endSearch, h] using unsearched
  | some c =>
    unfold endSearch
    obtain ⟨-, -, -, -, -, -, level, -⟩ := endWhere_same (stopSearch s o false) ownsSearch code
    by_cases kind : c.kind = .full <;> simp [h, kind, level, stopSearch_level]

/-- A search that cannot be had at its start ends ABANDONED, and the dish returns to the site targets in force unless it
is on them (log 34). -/
theorem returnToSite_ended {s v : State} {site : Fin 32} {c : Search} (h : SearchBegun s v site c) :
    let u := endSearch v .abandoned .ok
    returnToSite u = if dishAtRest s = true ∧ dishNear s s.ctl.siteTargets = true then
      u.withCtl { u.ctl with dishState := .onSolution } else slewTo u s.ctl.siteTargets := by
  intro u
  obtain ⟨-, -, -, -, vAxes, -⟩ := h.drives
  obtain ⟨-, -, -, uCtl, -, -, uAxes, -⟩ := endSearch_same v .abandoned .ok
  have axes : u.axes = s.axes := uAxes.trans vAxes
  have targets : u.ctl.siteTargets = s.ctl.siteTargets := by rw [uCtl, h.ctl]
  have rest : dishAtRest u = dishAtRest s := by rw [dishAtRest, dishAtRest, axes]
  have near : dishNear u s.ctl.siteTargets = dishNear s s.ctl.siteTargets := by rw [dishNear, dishNear, axes]
  have unwatched : { u.level with watch := none } = u.level := by rw [endSearch_level, h.level]
  have turned : u.withDish .onSolution = u.withCtl { u.ctl with dishState := .onSolution } := by
    rw [State.withDish, if_neg (by decide)]
    show (u.withCtl _).withLevel { u.level with watch := none } = _
    rw [unwatched]
    rfl
  rw [returnToSite, targets, rest, near, turned]
  simp only [Bool.and_eq_true]

/-- What a search at its start finds of its solution: the entry is not EMPTY, or it is computed now (R49, log 33). -/
theorem freshSolution_stored (s : State) (site : Fin 32) (stored : (s.entry site).state ≠ .empty) :
    freshSolution s site = some s := by
  simp [freshSolution, stored]

theorem freshSolution_computed (s : State) (site : Fin 32) (f : Fix) (empty : (s.entry site).state = .empty)
    (fix : s.geo.fix = some f) (far : 50 ≤ rangeOf (readSite s.mem site.val) f) :
    freshSolution s site = some (s.withEntry site ((s.entry site).computed s (readSite s.mem site.val) f)) := by
  simp [freshSolution, empty, fix, far]

theorem freshSolution_none (s : State) (site : Fin 32) (empty : (s.entry site).state = .empty)
    (barred : ¬ ∃ f, s.geo.fix = some f ∧ 50 ≤ rangeOf (readSite s.mem site.val) f) : freshSolution s site = none := by
  cases fix : s.geo.fix with
  | none => simp [freshSolution, empty, fix]
  | some f =>
    have close : ¬ 50 ≤ rangeOf (readSite s.mem site.val) f := fun far => barred ⟨f, fix, far⟩
    simp [freshSolution, empty, fix, close]

theorem levelLost_iff (s : State) : levelLost s = true ↔ 3 ≤ s.level.invalidRun := by
  simp [levelLost]

/-! ## PEAK (R19) -/

theorem peak_mode (m : Mode) (h : gate m .peak = none) : m = .normal := by
  cases m <;> first | rfl | cases h

theorem canIssue_normal (s : State) (mode : s.ctl.mode = .normal) (idle : s.swap.phase = .idle) :
    canIssue s = !s.ilk.lines.hold := by
  simp [canIssue, drivingMode, mode, idle]

theorem ownPeak_accepted (s : State) (n : Slot) (ready : peakable s.ctl.dishState = true) :
    let u := openCommand ((endWhere (abandonSearch s) (ofKinds [.peak]) .superseded).withPeakPending true)
      (.new n .peak Warnings.empty)
    ownPeak s n = if canIssue u then startSearch u .full else u := by
  simp [ownPeak, ready]

/-- Commands of some kinds are ended once the running search has been abandoned: of those left, slot and kind stay. -/
theorem abandonThenEnd_slots (s : State) (ks : List Kind) (code : Code) (hw : Memory.wf s.mem = true)
    (hs : (s.board.openSet.map (·.slot)).Nodup) :
    let u := endWhere (abandonSearch s) (ofKinds ks) code
    Ended s u (ofKinds ks) code ∧ u.board.openSet.map (fun c => (c.slot, c.kind)) =
      (s.board.openSet.filter (fun c => !ofKinds ks c)).map (fun c => (c.slot, c.kind)) := by
  obtain ⟨f, ho, hf⟩ := stopSearch_openSet s .abandoned false
  obtain ⟨-, hm, -⟩ := stopSearch_same s .abandoned false
  have slots : ((abandonSearch s).board.openSet.map (·.slot)).Nodup := by
    rw [abandonSearch, ho, map_slot_told hf]
    exact hs
  constructor
  · exact Ended.of_map f hm ho (fun c => (hf c).1) (ofKinds_told hf ks) (endWhere_ended _ _ _ (hm ▸ hw))
  · have kindKept : (fun c => !ofKinds ks c) ∘ f = fun c => !ofKinds ks c :=
      funext fun c => by rw [Function.comp_apply, ofKinds_told hf]
    rw [endWhere_openSet _ _ _ slots, abandonSearch, ho, List.filter_map, kindKept, List.map_map]
    refine List.map_congr_left fun c _ => ?_
    obtain ⟨slot, kind, -⟩ := hf c
    rw [Function.comp_apply, slot, kind]

end Sys2Proof.Machine

open Sys2Proof Sys2Proof.Machine

/-- The first part of O9: an accepted PEAK. -/
theorem peak_taken (s : State) (n : Slot) (taken : Taken s .peak n) (sound : Sound s)
    (ready : s.ctl.dishState = .onSolution ∨ s.ctl.dishState = .locked ∨ s.ctl.dishState = .peaking) :
    ∃ u, (s.ilk.lines.hold = false → exec .peak s = .next (endEvent s (startSearch u .full))) ∧
      (s.ilk.lines.hold = true → exec .peak s = .next (endEvent s u)) ∧
      u.stance = { s.stance with peakPending := true } ∧ u.ctl = s.ctl ∧ sameDrives s u ∧ u.geo = s.geo ∧
      u.level = { s.level with search := none } ∧ boardTaken s u ∧
      (u.board.openSet.map (fun c => (c.slot, c.kind))) =
        ((s.board.openSet.filter (fun c => !ofKinds [.peak] c)).map (fun c => (c.slot, c.kind))) ++ [(n, .peak)] ∧
      Ended s u (ofKinds [.peak]) .superseded := by
  obtain ⟨hw, -, hs, -⟩ := sound
  obtain ⟨-, idle, -, -, -, -, passed⟩ := id taken
  have peakableNow : peakable (popIntake s).ctl.dishState = true := by
    rcases ready with h | h | h <;> rw [popIntake_ctl, h] <;> rfl
  have own := takeEvent_passed s .peak ownPeak n taken
  obtain ⟨ended, openSet⟩ := abandonThenEnd_slots (popIntake s) [.peak] .superseded hw hs
  replace ended : Ended s _ _ _ := ended
  obtain ⟨stance, ctl, geo, level, drives, intake, control, seq⟩ :=
    abandonThenEnd_same (popIntake s) (ofKinds [.peak]) .superseded
  rw [ownPeak_accepted (popIntake s) n peakableNow] at own
  generalize endWhere (abandonSearch (popIntake s)) (ofKinds [.peak]) .superseded = v at *
  obtain ⟨-, -, -, swap, -, -, -, ilk, -⟩ := id drives
  have issue : canIssue (openCommand (v.withPeakPending true) (.new n .peak Warnings.empty)) = !s.ilk.lines.hold := by
    refine (canIssue_normal _ ?_ ?_).trans ?_
    · simpa [ctl] using peak_mode _ passed
    · simpa [swap] using idle
    · simp [ilk]
  rw [issue] at own
  refine ⟨openCommand (v.withPeakPending true) (.new n .peak Warnings.empty), fun free => ?_, fun held => ?_, stance true,
    ctl, ?_, geo, level, ⟨intake, control, seq⟩, ?_, ended.congr rfl rfl⟩
  · rw [free] at own
    exact congrArg Host.Outcome.next own
  · rw [held] at own
    exact congrArg Host.Outcome.next own
  · simpa [sameDrives] using drives
  · rw [openCommand_openSet, List.map_append]
    exact congrArg (· ++ _) openSet

/-- The ends of a search at its start, where its solution can be had: it goes on, or it ends SENSOR. -/
theorem startSearch_usable {s v : State} {kind : SearchKind} {site : Fin 32} (live : s.stance.site = some site)
    (hw : Memory.wf s.mem = true) (hs : (s.board.openSet.map (·.slot)).Nodup)
    (ok : (readSite s.mem site.val).acceptable = true)
    (fresh : freshSolution (beginSearch s (newSearch s site kind)) site = some v)
    (begun : SearchBegun s v site (newSearch s site kind)) :
    (s.level.invalidRun < 3 → startSearch s kind = if extension s < 1500 then v else giveDish v s.ctl.siteTargets) ∧
    (3 ≤ s.level.invalidRun → ∃ u, startSearch s kind = slewTo u s.ctl.siteTargets ∧
      searchEnded v u (newSearch s site kind) .sensor .faulted ∧ u.ctl = v.ctl ∧ u.geo = v.geo ∧ u.axes = s.axes) := by
  have start := startSearch_some s v kind site live ok fresh
  have search : v.level.search = some (newSearch s site kind) := by rw [begun.level]
  constructor
  · intro sound
    have found : levelLost s = false := by
      rw [← Bool.not_eq_true, levelLost_iff]
      omega
    rw [start, found, if_neg Bool.false_ne_true, askTargets_begun begun]
  · intro lost
    obtain ⟨-, -, -, -, vAxes, -⟩ := begun.drives
    obtain ⟨-, -, -, uCtl, uGeo, -, uAxes, -⟩ := endSearch_same v .sensor .faulted
    refine ⟨endSearch v .sensor .faulted, ?_, ?_, uCtl, uGeo, uAxes.trans vAxes⟩
    · rw [start, if_pos ((levelLost_iff s).mpr lost)]
      simp [searchSensor, search, begun.ctl]
    · exact endSearch_ended v _ _ _ search (begun.mem ▸ hw) (begun.board ▸ hs)

/-- The end of a search at its start, where its solution cannot be had. -/
theorem startSearch_unusable {s : State} {kind : SearchKind} {site : Fin 32} (live : s.stance.site = some site)
    (hw : Memory.wf s.mem = true) (hs : (s.board.openSet.map (·.slot)).Nodup)
    (bad : (readSite s.mem site.val).acceptable = false ∨
      freshSolution (beginSearch s (newSearch s site kind)) site = none) :
    let v := beginSearch s (newSearch s site kind)
    ∃ u, searchEnded v u (newSearch s site kind) .abandoned .ok ∧ u.ctl = v.ctl ∧ u.geo = v.geo ∧ u.axes = s.axes ∧
      startSearch s kind = if dishAtRest s = true ∧ dishNear s s.ctl.siteTargets = true then
        u.withCtl { u.ctl with dishState := .onSolution } else slewTo u s.ctl.siteTargets := by
  intro v
  have begun := beginSearch_begun s site (newSearch s site kind)
  have search : v.level.search = some (newSearch s site kind) := by rw [begun.level]
  obtain ⟨-, -, -, -, vAxes, -⟩ := begun.drives
  obtain ⟨-, -, -, uCtl, uGeo, -, uAxes, -⟩ := endSearch_same v .abandoned .ok
  refine ⟨endSearch v .abandoned .ok, ?_, uCtl, uGeo, uAxes.trans vAxes, ?_⟩
  · exact endSearch_ended v _ _ _ search (begun.mem ▸ hw) (begun.board ▸ hs)
  · rw [startSearch_none s kind site live bad]
    exact returnToSite_ended begun

/-- Settles O9: by the record, the entry, and whether it can be computed. -/
theorem peakAccepted : Obligations.PeakAccepted := by
  refine ⟨peak_taken, ?_⟩
  rintro s kind site live ⟨hw, -, hs, -⟩ table r e computable usable l c
  have context : c = newSearch s site kind := by cases kind <;> rfl
  have begun := beginSearch_begun s site (newSearch s site kind)
  set b := beginSearch s (newSearch s site kind) with hb
  have geo : b.geo = s.geo := by simp [hb, beginSearch]
  have entry : b.entry site = e := entry_congr geo site
  have record : readSite b.mem site.val = r := by rw [begun.mem]
  rw [context]
  by_cases hu : usable
  · obtain ⟨ok, found⟩ := hu
    by_cases stored : e.state = .empty
    · obtain ⟨f, fix, far⟩ := found.resolve_left (not_not_intro stored)
      have fresh := freshSolution_computed b site f (entry ▸ stored) (geo ▸ fix) (record ▸ far)
      have begunFresh := begun.withEntry (site := site) ((b.entry site).computed b (readSite b.mem site.val) f)
      obtain ⟨goes, lost⟩ := startSearch_usable live hw hs ok fresh begunFresh
      refine ⟨_, begunFresh.stance, begunFresh.ctl, begunFresh.level, begunFresh.board, begunFresh.mem, begunFresh.drives,
        begunFresh.fix, begunFresh.fixGen, begunFresh.others, ?_, ?_, fun _ => goes, fun _ => lost, ?_⟩
      · rintro (h | h)
        · exact absurd stored h
        · exact absurd ⟨ok, found⟩ h
      · intro g hg _ _
        obtain rfl : f = g := Option.some.inj (fix.symm.trans hg)
        obtain ⟨-, -, limits, -, -, -, -, ilk, -⟩ := begun.drives
        rw [withEntry_same _ _ _ (geo ▸ table), entry, record, Entry.computed, computeSolution, geo, begun.ctl, limits, ilk]
      · exact fun h => absurd ⟨ok, found⟩ h
    · have fresh := freshSolution_stored b site (entry ▸ stored)
      obtain ⟨goes, lost⟩ := startSearch_usable live hw hs ok fresh begun
      exact ⟨b, begun.stance, begun.ctl, begun.level, begun.board, begun.mem, begun.drives, begun.fix, begun.fixGen,
        begun.others, fun _ => entry, fun _ _ empty _ => absurd empty stored, fun _ => goes, fun _ => lost,
        fun h => absurd ⟨ok, found⟩ h⟩
  · have bad : r.acceptable = false ∨ freshSolution b site = none := by
      by_cases ok : r.acceptable = true
      · have empty : e.state = .empty := by
          by_contra stored
          exact hu ⟨ok, .inl stored⟩
        refine .inr (freshSolution_none b site (entry ▸ empty) ?_)
        rw [geo, record]
        exact fun comp => hu ⟨ok, .inr comp⟩
      · exact .inl (by simpa using ok)
    exact ⟨b, begun.stance, begun.ctl, begun.level, begun.board, begun.mem, begun.drives, begun.fix, begun.fixGen,
      begun.others, fun _ => entry, fun _ _ _ h => absurd h hu, fun h => absurd h hu, fun h => absurd h hu,
      fun _ => startSearch_unusable live hw hs bad⟩
end

section
/-! PROOFS. Effective target and nest floor, what a recompute and a turn of the dish issue, and the re-slew (R4, R6 to
R12, R44, R45): O56. -/
namespace Sys2Proof.Machine

/-! ## Operations on the drives -/

/-- The state with its drives left out of sight: what an operation on axes, lock and arbiter leaves alone. -/
def State.aside (s : State) : State := (s.withAxes State.reset.axes).withArb ⟨[], []⟩

/-- Nothing but the axes and the arbiter is changed. -/
def onlyDrives (s u : State) : Prop := u.aside = s.aside

theorem onlyDrives_refl (s : State) : onlyDrives s s := rfl

theorem onlyDrives.trans {s u v : State} (h : onlyDrives s u) (k : onlyDrives u v) : onlyDrives s v := Eq.trans k h

theorem onlyDrives.stance {s u : State} (h : onlyDrives s u) : u.stance = s.stance :=
  congrArg (a₁ := u.aside) (a₂ := s.aside) State.stance h
theorem onlyDrives.ctl {s u : State} (h : onlyDrives s u) : u.ctl = s.ctl :=
  congrArg (a₁ := u.aside) (a₂ := s.aside) State.ctl h
theorem onlyDrives.level {s u : State} (h : onlyDrives s u) : u.level = s.level :=
  congrArg (a₁ := u.aside) (a₂ := s.aside) State.level h
theorem onlyDrives.board {s u : State} (h : onlyDrives s u) : u.board = s.board :=
  congrArg (a₁ := u.aside) (a₂ := s.aside) State.board h
theorem onlyDrives.mem {s u : State} (h : onlyDrives s u) : u.mem = s.mem :=
  congrArg (a₁ := u.aside) (a₂ := s.aside) State.mem h
theorem onlyDrives.swap {s u : State} (h : onlyDrives s u) : u.swap = s.swap :=
  congrArg (a₁ := u.aside) (a₂ := s.aside) State.swap h
theorem onlyDrives.geo {s u : State} (h : onlyDrives s u) : u.geo = s.geo :=
  congrArg (a₁ := u.aside) (a₂ := s.aside) State.geo h

@[simp] theorem aside_withAxis (s : State) (a : Axis) (v : AxisState) : (s.withAxis a v).aside = s.aside := rfl
@[simp] theorem aside_withLock (s : State) (l : Lock) : (s.withLock l).aside = s.aside := rfl
@[simp] theorem aside_withArb (s : State) (y : Arbiter) : (s.withArb y).aside = s.aside := rfl
@[simp] theorem aside_placeRequest (s : State) (r : Request) : (placeRequest s r).aside = s.aside := rfl
@[simp] theorem aside_dropRequest (s : State) (a : Axis) : (dropRequest s a).aside = s.aside := rfl
@[simp] theorem aside_dropGrant (s : State) (a : Axis) : (dropGrant s a).aside = s.aside := rfl
@[simp] theorem aside_engageLock (s : State) (b : Bool) : (engageLock s b).aside = s.aside := rfl

@[simp] theorem aside_startGranted (s : State) (a : Axis) : (startGranted s a).aside = s.aside := by
  cases a with
  | mast =>
    rw [startGranted]
    split <;> rfl
  | pan => rfl
  | tilt => rfl
  | pol => rfl

@[simp] theorem aside_grantLoop (l : List Request) (s : State) : (grantLoop l s).aside = s.aside := by
  induction l generalizing s with
  | nil => rfl
  | cons r l ih =>
    rw [grantLoop]
    split
    · rw [ih, grantHead, aside_startGranted, aside_withArb]
    · rfl

@[simp] theorem aside_grantCheck (s : State) : (grantCheck s).aside = s.aside := aside_grantLoop _ s

@[simp] theorem aside_releaseGrant (s : State) (a : Axis) : (releaseGrant s a).aside = s.aside := by
  rw [releaseGrant, aside_grantCheck, aside_dropGrant]

@[simp] theorem aside_giveAtRest (s : State) (a : Axis) (t : Int) (p : Priority) :
    (giveAtRest s a t p).1.aside = s.aside := by
  unfold giveAtRest
  simp only []
  (repeat' split) <;> simp

@[simp] theorem aside_withdraw (s : State) (a : Axis) : (withdraw s a).aside = s.aside := by
  unfold withdraw
  simp only [aside_grantCheck]
  split <;> simp

@[simp] theorem aside_immediateStop (s : State) (a : Axis) (fault : Bool) :
    (immediateStop s a fault).aside = s.aside := by
  unfold immediateStop
  simp only []
  (repeat' split) <;> simp

@[simp] theorem aside_controlledStop (s : State) (a : Axis) : (controlledStop s a).aside = s.aside := by
  unfold controlledStop
  simp only []
  (repeat' split) <;> simp

/-- What each step of a fold leaves out of sight, the fold does. -/
theorem aside_foldl {α : Type} (f : State → α → State) (hf : ∀ s x, (f s x).aside = s.aside) (l : List α) (s : State) :
    (l.foldl f s).aside = s.aside := by
  induction l generalizing s with
  | nil => rfl
  | cons x l ih => rw [List.foldl_cons, ih, hf]

@[simp] theorem aside_controlledStops (s : State) (l : List Axis) : (controlledStops s l).aside = s.aside := by
  have withdrawn : ∀ (t : State) (a : Axis), (dropRequest (t.withAxis a { t.axis a with
      phase := .atRest, target := (t.axis a).position, next := none }) a).aside = t.aside := fun _ _ => rfl
  unfold controlledStops
  simp only [aside_grantCheck]
  split
  · rw [aside_engageLock, aside_withAxis, aside_foldl _ withdrawn, aside_foldl _ aside_controlledStop]
  · rw [aside_foldl _ withdrawn, aside_foldl _ aside_controlledStop]

@[simp] theorem aside_reverse (s : State) (t : Int) (p : Priority) : (reverse s t p).aside = s.aside := by
  simp [reverse]

@[simp] theorem aside_giveWaiting (s : State) (a : Axis) (t : Int) (p : Priority) :
    (giveWaiting s a t p).aside = s.aside := by
  unfold giveWaiting
  simp only []
  (repeat' split) <;> simp

@[simp] theorem aside_giveDriving (s : State) (a : Axis) (t : Int) (p : Priority) :
    (giveDriving s a t p).aside = s.aside := by
  unfold giveDriving
  simp only []
  (repeat' split) <;> simp

/-- A target given to an axis is a matter of the drives alone. -/
theorem axisGive_drives (s : State) (a : Axis) (t : Int) (p : Priority) : onlyDrives s (axisGive s a t p).1 := by
  unfold onlyDrives axisGive
  simp only []
  (repeat' split) <;> simp

/-! ## What a grant check makes of an axis -/

/-- An axis as it was, or started from WAITING toward its target; the mast may have its lock to release first (R99). -/
def AxisState.startedFrom (x : AxisState) (a : Axis) (y : AxisState) : Prop :=
  y = x ∨ (x.phase = .waiting ∧ (y.phase = .driving ∨ (a = .mast ∧ y.phase = .releasing)) ∧
    y.position = x.position ∧ y.target = x.target)

theorem AxisState.startedFrom.trans {x y z : AxisState} {a : Axis} (h : x.startedFrom a y) (k : y.startedFrom a z) :
    x.startedFrom a z := by
  rcases h with rfl | ⟨waiting, started, position, target⟩
  · exact k
  · rcases k with rfl | ⟨still, -⟩
    · exact .inr ⟨waiting, started, position, target⟩
    · rcases started with phase | ⟨-, phase⟩ <;> cases phase.symm.trans still

theorem AxisState.startedFrom.position {x y : AxisState} {a : Axis} (h : x.startedFrom a y) :
    y.position = x.position := by
  rcases h with rfl | ⟨-, -, position, -⟩
  · rfl
  · exact position

theorem AxisState.startedFrom.target {x y : AxisState} {a : Axis} (h : x.startedFrom a y) : y.target = x.target := by
  rcases h with rfl | ⟨-, -, -, target⟩
  · rfl
  · exact target

/-- An axis that does not wait is left alone by the grants. -/
theorem AxisState.startedFrom.settled {x y : AxisState} {a : Axis} (h : x.startedFrom a y) (other : x.phase ≠ .waiting) :
    y = x := by
  rcases h with rfl | ⟨waiting, -⟩
  · rfl
  · exact absurd waiting other

theorem AxisState.startedFrom.resting {x y : AxisState} {a : Axis} (h : x.startedFrom a y) (rest : x.phase = .atRest) :
    y = x :=
  h.settled (by rw [rest]; decide)

/-- A dish axis that waits or drives goes on waiting or drives. -/
theorem AxisState.startedFrom.moving {x y : AxisState} {a : Axis} (h : x.startedFrom a y) (dish : a ≠ .mast)
    (moves : x.phase = .waiting ∨ x.phase = .driving) : y.phase = .waiting ∨ y.phase = .driving := by
  rcases h with rfl | ⟨-, driving | ⟨mast, -⟩, -⟩
  · exact moves
  · exact .inr driving
  · exact absurd mast dish

theorem AxisState.startedFrom.inMove {x y : AxisState} {a : Axis} (h : x.startedFrom a y) : y.inMove = x.inMove := by
  rcases h with rfl | ⟨waiting, driving | ⟨-, releasing⟩, -⟩
  · rfl
  · simp [AxisState.inMove, waiting, driving]
  · simp [AxisState.inMove, waiting, releasing]

/-- The start of a granted axis (R99). -/
theorem startGranted_started (s : State) (a : Axis) (waiting : (s.axis a).phase = .waiting) :
    (s.axis a).startedFrom a ((startGranted s a).axis a) := by
  cases a with
  | mast =>
    rw [startGranted]
    split
    · exact .inr ⟨waiting, .inl rfl, rfl, rfl⟩
    · exact .inr ⟨waiting, .inr ⟨rfl, rfl⟩, rfl, rfl⟩
  | pan => exact .inr ⟨waiting, .inl rfl, rfl, rfl⟩
  | tilt => exact .inr ⟨waiting, .inl rfl, rfl, rfl⟩
  | pol => exact .inr ⟨waiting, .inl rfl, rfl, rfl⟩

/-- What a grant check leaves of the axes: each request granted starts its axis, the rest wait on. -/
structure GrantsMade (s u : State) : Prop where
  drives : onlyDrives s u
  sound : requestsSound u
  waits : ∀ q ∈ u.arb.waits, q ∈ s.arb.waits
  axes : ∀ a, (s.axis a).startedFrom a (u.axis a)

theorem GrantsMade.refl {s : State} (sound : requestsSound s) : GrantsMade s s :=
  ⟨onlyDrives_refl s, sound, fun _ member => member, fun _ => .inl rfl⟩

theorem grantLoop_made (l : List Request) (s : State) (waits : s.arb.waits = l) (sound : requestsSound s) :
    GrantsMade s (grantLoop l s) := by
  induction l generalizing s with
  | nil => exact .refl sound
  | cons r l ih =>
    rw [grantLoop]
    split
    next =>
      obtain ⟨waiting, distinct⟩ := sound
      rw [waits] at waiting distinct
      obtain ⟨fresh, nodup⟩ := List.nodup_cons.mp distinct
      set h := grantHead s r l with hh
      have others : ∀ a, a ≠ r.axis → h.axis a = s.axis a := fun a other => startGranted_other _ _ _ other
      have started : (s.axis r.axis).startedFrom r.axis (h.axis r.axis) :=
        startGranted_started (s.withArb _) r.axis (waiting r (List.mem_cons_self ..))
      have rest : h.arb.waits = l := by
        rw [hh, grantHead, startGranted_arb]
        rfl
      have soundRest : requestsSound h := by
        rw [requestsSound, rest]
        refine ⟨fun q hq => ?_, nodup⟩
        have other : q.axis ≠ r.axis := fun e => fresh (List.mem_map.mpr ⟨q, hq, e⟩)
        rw [others q.axis other]
        exact waiting q (List.mem_cons_of_mem _ hq)
      obtain ⟨drives, made, left, axes⟩ := ih h rest soundRest
      refine ⟨onlyDrives.trans (u := h) (aside_startGranted (s.withArb _) _) drives, made, fun q hq => ?_, fun a => ?_⟩
      · rw [waits]
        exact List.mem_cons_of_mem _ (rest ▸ left q hq)
      · by_cases same : a = r.axis
        · subst same
          exact started.trans (axes _)
        · exact others a same ▸ axes a
    next => exact .refl sound

theorem grantCheck_made (s : State) (sound : requestsSound s) : GrantsMade s (grantCheck s) :=
  grantLoop_made _ s rfl sound

/-! ## A target given to a dish axis at rest (R98) -/

/-- A request joins the list once. -/
theorem joinList_perm (r : Request) (l : List Request) : (joinList r l).Perm (r :: l) := by
  cases h : r.priority with
  | ordinary => simp [joinList, h]
  | forcedStow =>
    have split : (l.filter (fun q => q.priority == .forcedStow) ++ l.filter (fun q => q.priority == .ordinary)).Perm l := by
      have others : (fun q : Request => q.priority == .ordinary) = fun q => !(q.priority == .forcedStow) := by
        funext q
        cases q.priority <;> rfl
      rw [others]
      exact List.filter_append_perm _ l
    simp only [joinList, h]
    exact List.perm_middle.trans (split.cons r)

/-- An axis at rest has no request, so one may be placed for it. -/
theorem placeRequest_sound (s : State) (a : Axis) (x : AxisState) (r : Request) (sound : requestsSound s)
    (rest : (s.axis a).phase = .atRest) (own : r.axis = a) (waiting : x.phase = .waiting) :
    requestsSound (placeRequest (s.withAxis a x) r) := by
  obtain ⟨waits, distinct⟩ := sound
  have fresh : ∀ q ∈ s.arb.waits, q.axis ≠ a := fun q hq same => by
    have wait := waits q hq
    rw [same, rest] at wait
    cases wait
  have joined : (placeRequest (s.withAxis a x) r).arb.waits.Perm (r :: s.arb.waits) := joinList_perm r _
  constructor
  · intro q hq
    rcases List.mem_cons.mp (joined.mem_iff.mp hq) with rfl | old
    · show ((s.withAxis a x).axis q.axis).phase = .waiting
      rw [own, axis_withAxis_same]
      exact waiting
    · show ((s.withAxis a x).axis q.axis).phase = .waiting
      rw [axis_withAxis_other _ _ _ _ (fresh q old)]
      exact waits q old
  · refine ((joined.map _).nodup_iff).mpr (List.nodup_cons.mpr ⟨?_, distinct⟩)
    rintro member
    obtain ⟨q, hq, same⟩ := List.mem_map.mp member
    exact fresh q hq (same.trans own)

/-- What a target given to a dish axis at rest leaves, with no switch tripped. -/
structure AxisGiven (s u : State) (a : Axis) (t : Int) : Prop where
  drives : onlyDrives s u
  sound : requestsSound u
  tripped : u.axes.tripped = s.axes.tripped
  others : ∀ b, b ≠ a → (s.axis b).startedFrom b (u.axis b)
  position : (u.axis a).position = (s.axis a).position
  target : (u.axis a).target = t
  resting : near a t (s.axis a).position = true → (u.axis a).phase = .atRest
  moving : near a t (s.axis a).position = false → (u.axis a).phase = .waiting ∨ (u.axis a).phase = .driving

theorem towardTripped_clear (s : State) (a : Axis) (t : Int) (clear : s.axes.tripped = Switches.clear) :
    towardTripped s a t = false := by
  cases a <;> simp [towardTripped, clear, Switches.clear]

theorem giveAtRest_given (s : State) (a : Axis) (t : Int) (p : Priority) (clear : s.axes.tripped = Switches.clear)
    (sound : requestsSound s) (rest : (s.axis a).phase = .atRest) (dish : a ≠ .mast) :
    (giveAtRest s a t p).2 = false ∧ AxisGiven s (giveAtRest s a t p).1 a t := by
  have tripped : (giveAtRest s a t p).1.axes.tripped = s.axes.tripped := congrArg Kept.tripped (kept_giveAtRest s a t p)
  cases close : near a t (s.axis a).position with
  | true =>
    have given : giveAtRest s a t p = (s.withAxis a { s.axis a with target := t }, false) := by simp [giveAtRest, close]
    rw [given] at tripped ⊢
    refine ⟨rfl, aside_withAxis .., ⟨fun q hq => ?_, sound.2⟩, tripped,
      fun b other => .inl (axis_withAxis_other _ _ _ _ other), ?_, ?_, ?_, ?_⟩
    · have wait := sound.1 q hq
      have other : q.axis ≠ a := fun same => by
        rw [same, rest] at wait
        cases wait
      rw [axis_withAxis_other _ _ _ _ other]
      exact wait
    · rw [axis_withAxis_same]
    · rw [axis_withAxis_same]
    · rw [axis_withAxis_same]
      exact fun _ => rest
    · exact fun off => by cases close.symm.trans off
  | false =>
    set x : AxisState := { s.axis a with
      target := t, phase := .waiting, arrived := false, stop := none, faultStop := false, next := none } with hx
    set w := placeRequest (s.withAxis a x) (requestFor s a t p) with hw
    have given : giveAtRest s a t p = (grantCheck w, false) := by
      simp [giveAtRest, close, towardTripped_clear s a t clear, hw, hx]
    have placed : requestsSound w := placeRequest_sound s a x _ sound rest rfl rfl
    obtain ⟨drives, made, -, axes⟩ := grantCheck_made w placed
    have own : w.axis a = x := axis_withAxis_same ..
    have step := axes a
    rw [own] at step
    rw [given] at tripped ⊢
    refine ⟨rfl, onlyDrives.trans (s := s) (u := w) rfl drives, made, tripped,
      fun b other => ?_, step.position, step.target, fun on => ?_, fun _ => step.moving dish (.inl rfl)⟩
    · have kept : w.axis b = s.axis b := axis_withAxis_other _ _ _ _ other
      exact kept ▸ axes b
    · cases close.symm.trans on

/-- What has become of a target given to a dish axis, once the other axes have been given theirs. -/
theorem AxisGiven.then {s v w u : State} {a : Axis} {t : Int} (h : AxisGiven v w a t) (dish : a ≠ .mast)
    (before : v.axis a = s.axis a) (after : (w.axis a).startedFrom a (u.axis a)) :
    (u.axis a).target = t ∧ (u.axis a).position = (s.axis a).position ∧
      (near a (u.axis a).target (s.axis a).position = true → (u.axis a).phase = .atRest) ∧
      (near a (u.axis a).target (s.axis a).position = false →
        (u.axis a).phase = .waiting ∨ (u.axis a).phase = .driving) := by
  have target : (u.axis a).target = t := after.target.trans h.target
  have resting := h.resting
  have moving := h.moving
  rw [before] at resting moving
  rw [target]
  refine ⟨rfl, after.position.trans (h.position.trans (congrArg _ before)), fun close => ?_,
    fun far => after.moving dish (moving far)⟩
  rw [after.resting (resting close)]
  exact resting close

theorem clampTravel_self (a : Axis) (t : Int) (low : travelLow a ≤ t) (high : t ≤ travelHigh a) :
    clampTravel a t = t := by
  rw [clampTravel, clampInt, if_neg (not_lt.mpr low), if_neg (not_lt.mpr high)]

theorem giveDishAxis_given (s : State) (a : Axis) (t : Int) (clear : s.axes.tripped = Switches.clear)
    (sound : requestsSound s) (rest : (s.axis a).phase = .atRest) (dish : a ≠ .mast)
    (able : s.ctl.dishState ≠ .failed ∨ s.ctl.mode = .forcedStow) (low : travelLow a ≤ t) (high : t ≤ travelHigh a) :
    AxisGiven s (giveDishAxis s a t) a t := by
  have served : ¬ (s.ctl.dishState = .failed ∧ s.ctl.mode ≠ .forcedStow) := by tauto
  obtain ⟨unfaulted, given⟩ := giveAtRest_given s a t (movePriority s) clear sound rest dish
  have give : axisGive s a t (movePriority s) = giveAtRest s a t (movePriority s) := by
    simp [axisGive, rest, clampTravel_self a t low high]
  rw [giveDishAxis, if_neg served, giveTarget, orLimit, give, unfaulted]
  exact given

/-! ## The dish turns to its goal (R6, R7) -/

/-- The dish in a state, on its way nowhere short, with no level watch. -/
def State.turnedTo (s : State) (d : DishState) : State :=
  (s.withCtl { s.ctl with dishState := d, dishShort := none }).withLevel { s.level with watch := none }

theorem withDish_turned (s : State) (d : DishState) (h : d ≠ .locked) :
    (s.withDish d).withDishShort none = s.turnedTo d := by
  rw [State.withDish, if_neg h]
  rfl

theorem nestWait_eq (s : State) : nestWait s = s.turnedTo .nestWait := withDish_turned s _ (by decide)

theorem restingDish_ne_locked (s : State) : restingDish s ≠ .locked := by
  unfold restingDish
  split <;> decide

/-- A dish that is to stand where it stops: at rest it is STOWED or PARKED, moving it is so once at rest (R6). -/
theorem dishStands_rest (s : State) (sound : s.ctl.dishState ≠ .failed) (rest : dishAtRest s = true) :
    dishStands s = s.turnedTo (restingDish s) := by
  simp [dishStands, sound, rest, withDish_turned s _ (restingDish_ne_locked s)]

theorem dishStands_moving (s : State) (sound : s.ctl.dishState ≠ .failed) (moves : dishAtRest s = false) :
    (dishStands s).axes = s.axes ∧ (dishStands s).ctl.dishShort = some .stop := by
  by_cases peaking : s.ctl.dishState = .peaking <;> simp [dishStands, sound, moves, peaking, State.withDishShort]

theorem belowNest_iff (s : State) : belowNest s = true ↔ extension s < 1500 := by
  simp [belowNest]
  rfl

theorem drivingMode_iff (s : State) :
    drivingMode s = true ↔ s.ctl.mode = .normal ∨ s.ctl.mode = .recovery ∨ s.ctl.mode = .forcedStow := by
  cases h : s.ctl.mode <;> simp [drivingMode, h]

/-! ## The mast's target (R4, R9, R10) -/

theorem upwardAllowed_iff (s : State) :
    upwardAllowed s = true ↔ s.ctl.mode = .normal ∧ s.ilk.lines.park = true ∧ s.ilk.lines.overhead = false ∧
      FaultId.overhead ∉ s.ilk.faults ∧ s.ilk.lines.hold = false := by
  simp [upwardAllowed]

theorem heldBack_iff (s : State) (t : Int) :
    heldBack s t = true ↔ extension s < t ∧ upwardAllowed s = false ∧ ¬ (s.axes.mast.inMove = true ∧ t ≤ 0) := by
  cases h : s.axes.mast.inMove <;> simp [heldBack, h]

theorem risesThroughNest_iff (s : State) :
    risesThroughNest s = true ↔ extension s < 1500 ∧ 1500 ≤ s.ctl.effTarget ∧ s.stance.dishGoal.aimed = true ∧
      1521 ≤ effCeiling s := by
  simp [risesThroughNest]
  rfl

theorem mastNear_iff (t x : Int) : near .mast t x = true ↔ (t - x).natAbs ≤ 20 := by
  rw [near, decide_eq_true_iff]
  exact Nat.cast_le (α := Int) (n := 20)

/-- A mast target is issued or held back (R10, log 82). -/
theorem issueMast_held (s : State) (t : Int) (h : heldBack s t = true) : issueMast s t = s.withUpwardDue true := by
  simp [issueMast, h]

theorem issueMast_given (s : State) (t : Int) (h : heldBack s t = false) :
    issueMast s t = giveMast (s.withUpwardDue false) t := by
  simp [issueMast, h]

/-- The mast state at the issue of a target (R4, log 60), in one expression. -/
theorem mastStateFor_eq (s : State) (t : Int) :
    mastStateFor s t =
      if s.ctl.mastState = .rising ∧ t < extension s then .descending
      else if s.ctl.mastState = .descending ∧ extension s < t then .rising
      else if (s.ctl.mastState = .nested ∨ s.ctl.mastState = .held) ∧ extension s + 20 < t then .rising
      else if (s.ctl.mastState = .nested ∨ s.ctl.mastState = .held) ∧ t + 20 < extension s then .descending
      else s.ctl.mastState := by
  cases h : s.ctl.mastState <;> simp [mastStateFor, h]

/-! ## The recompute of the live site (R43, R44) -/

/-- A recompute of the live site can be made (R43, step 1). -/
theorem recomputeInputs_some (s : State) (site : Fin 32) (f : Fix) (fix : s.geo.fix = some f)
    (ok : (readSite s.mem site.val).acceptable = true)
    (revision : (readSite s.mem site.val).revision = (s.entry site).revision)
    (far : 50 ≤ rangeOf (readSite s.mem site.val) f) :
    recomputeInputs s site = some (readSite s.mem site.val, f) := by
  simp [recomputeInputs, fix, ok, revision, far]

theorem recomputeInputs_none (s : State) (site : Fin 32)
    (barred : ∀ f, ¬ (s.geo.fix = some f ∧ (readSite s.mem site.val).acceptable = true ∧
      (readSite s.mem site.val).revision = (s.entry site).revision ∧ 50 ≤ rangeOf (readSite s.mem site.val) f)) :
    recomputeInputs s site = none := by
  cases fix : s.geo.fix with
  | none => simp [recomputeInputs, fix]
  | some f =>
    have short := barred f
    simp only [recomputeInputs, fix]
    rw [if_neg]
    simpa [fix, and_assoc] using short

theorem movesEnough_iff (old t : Targets) :
    movesEnough old t = true ↔ 2 ≤ (old.pan - t.pan).natAbs ∨ 2 ≤ (old.tilt - t.tilt).natAbs := by
  rw [movesEnough, Bool.or_eq_true, decide_eq_true_iff, decide_eq_true_iff]
  rfl

/-- A slew where targets may be issued aloft (R7). -/
theorem slewTo_aloft (s : State) (t : Targets) (issue : canIssue s = true) (aloft : 1500 ≤ extension s) :
    slewTo s t = giveDish (s.turnedTo .slewing) t := by
  have high : belowNest s = false := by
    rw [← Bool.not_eq_true, belowNest_iff]
    omega
  simp [slewTo, issue, high, withDish_turned]

end Sys2Proof.Machine

open Sys2Proof Sys2Proof.Machine

/-- The first part of O56: the effective target and the nest floor (R8, R12), and where targets may be issued. -/
theorem effectiveTarget_rule (s : State) :
    let lesser := min s.stance.mastGoal (effCeiling s)
    let driving := s.ctl.mode = .normal ∨ s.ctl.mode = .recovery ∨ s.ctl.mode = .forcedStow
    (¬ driving → effectiveTarget s = s.stance.mastGoal) ∧
    (driving → inWindow s = true ∨ 1500 ≤ lesser → effectiveTarget s = lesser) ∧
    (driving → inWindow s = false → min 1500 (extension s) ≤ effectiveTarget s) ∧
    (driving → effectiveTarget s ≠ lesser → effectiveTarget s ≤ extension s ∧ effectiveTarget s ≤ 1500 ∧
      lesser < effectiveTarget s) ∧
    (canIssue s = true ↔ driving ∧ s.ilk.lines.hold = false ∧ s.swap.phase = .idle) := by
  intro lesser driving
  have drives : drivingMode s = true ↔ driving := drivingMode_iff s
  have idle : ¬ driving → effectiveTarget s = s.stance.mastGoal := fun h => by
    rw [← drives, Bool.not_eq_true] at h
    simp [effectiveTarget, h]
  have floor : driving → effectiveTarget s =
      if inWindow s = false ∧ lesser < 1500 ∧ lesser < min 1500 (extension s) then min 1500 (extension s)
      else lesser := fun h => by
    have nest : nestFloor s = min 1500 (extension s) := (min_def _ _).symm
    have claim : lesserClaim s = lesser := rfl
    have height : Config.nestHeight = 1500 := rfl
    simp [effectiveTarget, heldAtNest, drives.mpr h, nest, claim, height]
  refine ⟨idle, fun h high => ?_, fun h out => ?_, fun h raised => ?_, ?_⟩
  · rw [floor h, if_neg]
    rintro ⟨out, low, -⟩
    rcases high with inside | high
    · cases out.symm.trans inside
    · omega
  · rw [floor h]
    split
    next => exact le_refl _
    next free =>
      by_contra low
      exact free ⟨out, by omega, by omega⟩
  · rw [floor h] at raised ⊢
    split at raised
    next held =>
      rw [if_pos held]
      omega
    next => exact absurd rfl raised
  · rw [← drives]
    simp [canIssue]

/-- The second part: what a recompute puts in force, and what it issues. -/
theorem recompute_rule (s : State) :
    let e := effectiveTarget s
    let g := abandonForHeight s
    let w := driveMast (g.withCtl { g.ctl with effTarget := e }) true
    let d := if s.level.search = none then w else slewTo w s.ctl.siteTargets
    recomputeEff s = recompute s false ∧ recomputeIssuing s = recompute s true ∧ (s.level.search = none → g = s) ∧
    ∀ acts : Bool, (e = s.ctl.effTarget → recompute s acts = driveMast s acts) ∧
      (e ≠ s.ctl.effTarget → d.stance.dishGoal = .site → recompute s acts = (recomputeLive d false).1) ∧
      (e ≠ s.ctl.effTarget → d.stance.dishGoal ≠ .site → recompute s acts = d) := by
  intro e g w d
  have put : setEff g = g.withCtl { g.ctl with effTarget := e } := by
    rw [setEff, abandonForHeight_effectiveTarget]
  have dish : heightSlew s w = d := by
    cases h : s.level.search <;> simp [heightSlew, d, h]
  have changed : e ≠ s.ctl.effTarget → ∀ acts, recompute s acts = recomputeSite d := fun differs acts => by
    rw [recompute, if_neg differs, put, dish]
  refine ⟨rfl, rfl, abandonForHeight_idle s, fun acts => ⟨fun same => ?_, fun differs site => ?_, fun differs other => ?_⟩⟩
  · exact if_pos same
  · rw [changed differs, recomputeSite, if_pos site]
  · rw [changed differs, recomputeSite, if_neg other]

/-- The third part: how the mast is driven. -/
theorem driveMast_rule (s : State) (acts : Bool) :
    let e := s.ctl.effTarget
    let x := extension s
    let m := s.axes.mast
    let allowed := s.ctl.mode = .normal ∧ s.ilk.lines.park = true ∧ s.ilk.lines.overhead = false ∧
      FaultId.overhead ∉ s.ilk.faults ∧ s.ilk.lines.hold = false
    let held := fun b : Bool => s.withCtl { s.ctl with upwardDue := b }
    let bottom := fun t : Int => m.inMove = true ∧ t ≤ 0
    let issued := fun t : Int => (x < t → ¬ allowed → ¬ bottom t → driveMast s acts = held true) ∧
      (t ≤ x ∨ allowed ∨ bottom t → driveMast s acts = giveMast (held false) t)
    let rises := x < 1500 ∧ 1500 ≤ e ∧ s.stance.dishGoal.aimed = true ∧ 1521 ≤ effCeiling s
    let due := acts = true ∨ s.ctl.upwardDue = true
    (canIssue s = false ∨ s.ctl.goalAtRest ≠ none ∨ ¬ due → driveMast s acts = s) ∧
    (canIssue s = true → s.ctl.goalAtRest = none → due →
      (m.phase = .atRest → 20 < (e - x).natAbs → issued e) ∧
      (m.phase = .atRest → (e - x).natAbs ≤ 20 → rises → issued 1521) ∧
      (m.phase = .atRest → (e - x).natAbs ≤ 20 → ¬ rises → driveMast s acts = held false) ∧
      (m.phase ≠ .atRest → issued e)) := by
  intro e x m allowed held bottom issued rises due
  have issues : ∀ t, driveMast s acts = issueMast s t → issued t := fun t given => by
    constructor
    · intro up barred moves
      have allow : upwardAllowed s = false := by rwa [← Bool.not_eq_true, upwardAllowed_iff]
      rw [given, issueMast_held s t ((heldBack_iff s t).mpr ⟨up, allow, moves⟩)]
      rfl
    · intro free
      have allowed_now : heldBack s t = false := by
        rw [← Bool.not_eq_true, heldBack_iff]
        rintro ⟨up, barred, moves⟩
        rcases free with down | allow | moving
        · omega
        · cases barred.symm.trans ((upwardAllowed_iff s).mpr allow)
        · exact moves moving
      rw [given, issueMast_given s t allowed_now]
      rfl
  refine ⟨fun idle => ?_, fun issue settled pending => ?_⟩
  · have skipped : ((!canIssue s || s.ctl.goalAtRest.isSome) || !(acts || s.ctl.upwardDue)) = true := by
      rcases idle with barred | waits | undue
      · simp [barred]
      · simp [Option.isSome_iff_ne_none.mpr waits]
      · rw [not_or, Bool.not_eq_true, Bool.not_eq_true] at undue
        simp [undue]
    exact if_pos skipped
  · have drives : ((!canIssue s || s.ctl.goalAtRest.isSome) || !(acts || s.ctl.upwardDue)) = false := by
      rcases pending with h | h <;> simp [issue, settled, h]
    have resting : m.phase = .atRest → driveMast s acts = driveResting s := fun rest => by
      simp only [driveMast, drives, Bool.false_eq_true, if_false, show s.axes.mast.phase = .atRest from rest]
    refine ⟨fun rest far => issues e ?_, fun rest close rise => issues 1521 ?_, fun rest close flat => ?_,
      fun moves => issues e ?_⟩
    · rw [resting rest, driveResting, if_neg]
      rw [mastNear_iff]
      exact not_le.mpr far
    · rw [resting rest, driveResting, if_pos ((mastNear_iff _ _).mpr close), if_pos ((risesThroughNest_iff s).mpr rise)]
      rfl
    · rw [resting rest, driveResting, if_pos ((mastNear_iff _ _).mpr close), if_neg]
      · rfl
      · rwa [risesThroughNest_iff]
    · simp only [driveMast, drives, Bool.false_eq_true, if_false]
      split
      next rest => exact absurd rest moves
      all_goals rfl

/-- The fourth part: the mast state at the issue of a target, and the target given (R4, R108). -/
theorem giveMast_rule (s : State) (t : Int) :
    let x := extension s
    let m := s.ctl.mastState
    let moves : MastState := if m = .rising ∧ t < x then .descending else if m = .descending ∧ x < t then .rising
      else if (m = .nested ∨ m = .held) ∧ x + 20 < t then .rising
      else if (m = .nested ∨ m = .held) ∧ t + 20 < x then .descending else m
    let r := axisGive (s.withCtl { s.ctl with mastState := moves }) .mast t
      (if s.ctl.mode = .forcedStow then .forcedStow else .ordinary)
    giveMast s t = if r.2 then axisFault r.1 .mast (.limit .mast) else r.1 := by
  intro x m moves r
  rw [giveMast, mastStateFor_eq]
  rfl

/-- The fifth part: the dish that turns to its goal. -/
theorem pursueDish_rule (s : State) :
    let turned := fun (d : DishState) (u : State) =>
      (u.withCtl { u.ctl with dishState := d, dishShort := none }).withLevel { u.level with watch := none }
    let stow : Targets := ⟨0, -9000, 0⟩
    let e := liveEntry s
    let trimPan := if e.trim.valid then e.trim.pan else 0
    let trimTilt := if e.trim.valid then e.trim.tilt else 0
    let t := deriveTargets e.sol trimPan trimTilt s.axes.pan.position
    let derived := if e.state = .empty then s
      else s.withCtl { s.ctl with siteTargets := t, siteTrimPan := trimPan, siteTrimTilt := trimTilt }
    let stands := (dishAtRest s = true →
        pursueDish s = turned (if inWindow s = true then .stowed else .parked) s) ∧
      (dishAtRest s = false → (pursueDish s).axes = s.axes ∧ (pursueDish s).ctl.dishShort = some .stop)
    let aimed := s.stance.dishGoal.aimed = true
    (s.ctl.dishState = .failed → canIssue s = true → s.ctl.mode = .forcedStow → s.stance.dishGoal = .stow →
      pursueDish s = giveDish s stow) ∧
    (s.ctl.dishState = .failed → canIssue s = false ∨ s.ctl.mode ≠ .forcedStow ∨ s.stance.dishGoal ≠ .stow →
      pursueDish s = s) ∧
    (s.ctl.dishState ≠ .failed → canIssue s = true →
      (s.stance.dishGoal = .none → pursueDish s = s) ∧
      (s.stance.dishGoal = .stow → pursueDish s = giveDish (turned .stowing s) stow) ∧
      (s.stance.dishGoal = .site → 1500 ≤ extension s →
        pursueDish s = giveDish (turned .slewing derived) derived.ctl.siteTargets) ∧
      (∀ p, s.stance.dishGoal = .point p → 1500 ≤ extension s → pursueDish s = giveDish (turned .slewing s) p)) ∧
    (s.ctl.dishState ≠ .failed → aimed → extension s < 1500 → pursueDish s = turned .nestWait s) ∧
    (s.ctl.dishState ≠ .failed → canIssue s = false → ¬ aimed ∨ 1500 ≤ extension s → stands) := by
  intro turned stow e trimPan trimTilt t derived stands aimed
  have derive : deriveSite s = derived := rfl
  have aloft : 1500 ≤ extension s → belowNest s = false := fun high => by
    rw [← Bool.not_eq_true, belowNest_iff]
    omega
  refine ⟨fun failed issue mode goal => ?_, fun failed barred => ?_, fun sound issue => ⟨fun goal => ?_, fun goal => ?_,
    fun goal high => ?_, fun p goal high => ?_⟩, fun sound aims low => ?_, fun sound barred idle => ?_⟩
  · simp only [pursueDish, issue, issueDish, failed, mode, goal]
    rfl
  · rcases Bool.eq_false_or_eq_true (canIssue s) with issue | issue
    · have unserved : ¬ (s.ctl.mode = .forcedStow ∧ s.stance.dishGoal = .stow) := by
        rcases barred with barred | other | other
        · cases barred.symm.trans issue
        · exact fun h => other h.1
        · exact fun h => other h.2
      simp [pursueDish, issue, issueDish, failed, unserved]
    · simp [pursueDish, issue, holdDish, failed]
  · simp [pursueDish, issue, issueDish, sound, goal]
  · simp only [pursueDish, issue, issueDish, sound, goal, if_true, if_false]
    rw [withDish_turned s _ (by decide)]
    rfl
  · simp only [pursueDish, issue, issueDish, sound, goal, aloft high, Bool.false_eq_true, if_true, if_false]
    rw [derive, withDish_turned _ _ (by decide)]
    rfl
  · simp only [pursueDish, issue, issueDish, sound, goal, aloft high, Bool.false_eq_true, if_true, if_false]
    rw [withDish_turned s _ (by decide)]
    rfl
  · have waits : pursueDish s = nestWait s := by
      have under := (belowNest_iff s).mpr low
      cases goal : s.stance.dishGoal with
      | none => simp [aimed, goal, DishGoal.aimed] at aims
      | stow => simp [aimed, goal, DishGoal.aimed] at aims
      | site => cases issue : canIssue s <;> simp [pursueDish, issue, issueDish, holdDish, sound, goal, under]
      | point p => cases issue : canIssue s <;> simp [pursueDish, issue, issueDish, holdDish, sound, goal, under]
    rw [waits, nestWait_eq]
    rfl
  · have holds : pursueDish s = dishStands s := by
      have free : s.stance.dishGoal.aimed = true → belowNest s = false := fun aims =>
        aloft (idle.resolve_left (not_not_intro aims))
      cases goal : s.stance.dishGoal with
      | none => simp [pursueDish, barred, holdDish, sound, goal]
      | stow => simp [pursueDish, barred, holdDish, sound, goal]
      | site => simp [pursueDish, barred, holdDish, sound, goal, free (by rw [goal]; rfl)]
      | point p => simp [pursueDish, barred, holdDish, sound, goal, free (by rw [goal]; rfl)]
    have standing := dishStands_rest s sound
    have moving := dishStands_moving s sound
    rw [← holds] at standing moving
    exact ⟨standing, moving⟩

/-- The sixth part: the targets given to a dish at rest, with no switch tripped (R98). -/
theorem giveDish_rule (s : State) (t : Targets) (clear : s.axes.tripped = Switches.clear) (sound : requestsSound s)
    (able : s.ctl.dishState ≠ .failed ∨ s.ctl.mode = .forcedStow) (rest : ∀ a, a ≠ .mast → (s.axis a).phase = .atRest)
    (pan0 : -27000 ≤ t.pan) (pan1 : t.pan ≤ 27000) (tilt0 : -9000 ≤ t.tilt) (tilt1 : t.tilt ≤ 3000)
    (pol0 : -9000 ≤ t.pol) (pol1 : t.pol ≤ 9000) :
    let u := giveDish s t
    u.stance = s.stance ∧ u.ctl = s.ctl ∧ u.axes.pan.target = t.pan ∧ u.axes.tilt.target = t.tilt ∧
      u.axes.pol.target = t.pol ∧
      ∀ a, a ≠ .mast → (u.axis a).position = (s.axis a).position ∧
        (near a (u.axis a).target (s.axis a).position = true → (u.axis a).phase = .atRest) ∧
        (near a (u.axis a).target (s.axis a).position = false →
          (u.axis a).phase = .waiting ∨ (u.axis a).phase = .driving) := by
  have dishPan : Axis.pan ≠ .mast := by decide
  have dishTilt : Axis.tilt ≠ .mast := by decide
  have dishPol : Axis.pol ≠ .mast := by decide
  have panGiven := giveDishAxis_given s .pan t.pan clear sound (rest .pan dishPan) dishPan able pan0 pan1
  set p := giveDishAxis s .pan t.pan with hp
  have tiltKept : p.axis .tilt = s.axis .tilt :=
    (panGiven.others .tilt (by decide)).resting (rest .tilt dishTilt)
  have polKept : p.axis .pol = s.axis .pol := (panGiven.others .pol (by decide)).resting (rest .pol dishPol)
  have tiltGiven := giveDishAxis_given p .tilt t.tilt (panGiven.tripped.trans clear) panGiven.sound
    (tiltKept ▸ rest .tilt dishTilt) dishTilt (panGiven.drives.ctl ▸ able) tilt0 tilt1
  set q := giveDishAxis p .tilt t.tilt with hq
  have polStill : q.axis .pol = s.axis .pol :=
    ((tiltGiven.others .pol (by decide)).resting (polKept ▸ rest .pol dishPol)).trans polKept
  have polGiven := giveDishAxis_given q .pol t.pol ((tiltGiven.tripped.trans panGiven.tripped).trans clear)
    tiltGiven.sound (polStill ▸ rest .pol dishPol) dishPol
    ((panGiven.drives.trans tiltGiven.drives).ctl ▸ able) pol0 pol1
  have all : giveDish s t = giveDishAxis q .pol t.pol := rfl
  rw [all]
  have drives := (panGiven.drives.trans tiltGiven.drives).trans polGiven.drives
  have panAfter := (tiltGiven.others .pan (by decide)).trans (polGiven.others .pan (by decide))
  have tiltAfter := polGiven.others .tilt (by decide)
  obtain ⟨panTarget, panDone⟩ := panGiven.then dishPan rfl panAfter
  obtain ⟨tiltTarget, tiltDone⟩ := tiltGiven.then dishTilt tiltKept tiltAfter
  obtain ⟨polTarget, polDone⟩ := polGiven.then (s := s) dishPol polStill (.inl rfl)
  refine ⟨drives.stance, drives.ctl, panTarget, tiltTarget, polTarget, fun a dish => ?_⟩
  cases a with
  | mast => exact absurd rfl dish
  | pan => exact panDone
  | tilt => exact tiltDone
  | pol => exact polDone

/-- The seventh part: the recompute of the live site, and the re-slew by dish state (R44, R45). -/
theorem recomputeLive_rule (s : State) (site : Fin 32) (live : s.stance.site = some site) :
    let r := readSite s.mem site.val
    let e := s.entry site
    let trimPan := if e.trim.valid then e.trim.pan else 0
    let trimTilt := if e.trim.valid then e.trim.tilt else 0
    let made := fun f : Fix => s.geo.fix = some f ∧ r.acceptable = true ∧ r.revision = e.revision ∧ 50 ≤ rangeOf r f
    (s.level.search = none ∨ e.state ≠ .empty → (∀ f, ¬ made f) → recomputeLive s false = (s, false)) ∧
    ∀ f, made f →
      let sol := solve r f s.ilk.pitch s.ilk.roll s.limits.roof s.ctl.effTarget
      let t := deriveTargets sol trimPan trimTilt s.axes.pan.position
      let old := s.ctl.siteTargets
      let u := s.withEntry site ⟨.computed, s.geo.fixGen, s.ctl.effTarget, sol, r.revision, e.trim⟩
      let v := u.withCtl { u.ctl with siteTargets := t, siteTrimPan := trimPan, siteTrimTilt := trimTilt }
      let far := 2 ≤ (old.pan - t.pan).natAbs ∨ 2 ≤ (old.tilt - t.tilt).natAbs
      let turns := fun w : State => recomputeLive s false = (w, true)
      let d := s.ctl.dishState
      let aloft := canIssue s = true ∧ 1500 ≤ extension s
      let marked := v.withCtl { v.ctl with touchUpMark := true }
      let slewing := fun w : State =>
        (w.withCtl { w.ctl with dishState := .slewing, dishShort := none }).withLevel { w.level with watch := none }
      let onPan := if t.pan = old.pan then v else giveDishAxis v .pan t.pan
      let onTilt := if t.tilt = old.tilt then onPan else giveDishAxis onPan .tilt t.tilt
      (¬ far → recomputeLive s false = (u, false)) ∧
      (far → d = .nestWait ∨ d = .parked ∨ d = .stowed ∨ d = .stowing ∨ d = .failed → turns v) ∧
      (far → d = .slewing → aloft → turns (if t.pol = old.pol then onTilt else giveDishAxis onTilt .pol t.pol)) ∧
      (far → d = .slewing → canIssue s = false ∨ (extension s < 1500 ∧ s.ctl.dishShort = some .nest) → turns v) ∧
      (far → d = .slewing → canIssue s = true → extension s < 1500 → s.ctl.dishShort ≠ some .nest →
        turns ((v.withCtl { v.ctl with dishState := .nestWait, dishShort := none }).withLevel
          { v.level with watch := none })) ∧
      (far → d = .onSolution ∨ d = .locked → aloft → turns (giveDish (slewing marked) t)) ∧
      (far → d = .onSolution ∨ d = .locked → canIssue s = false → turns marked) ∧
      (far → d = .peaking → s.level.search = none → aloft → turns (giveDish (slewing marked) t)) ∧
      (∀ c, far → d = .peaking → s.level.search = some c → Sound s →
        ∃ w, searchEnded v w c .abandoned .ok ∧ w.ctl = marked.ctl ∧ w.geo = v.geo ∧ w.axes = s.axes ∧
          turns (slewTo w t) ∧ (aloft → turns (giveDish (slewing w) t))) := by
  intro r e trimPan trimTilt made
  refine ⟨fun readable unmade => ?_, fun f making => ?_⟩
  · have kept : notRecomputed s site false = s := by
      rcases readable with idle | full
      · simp [notRecomputed, idle]
      · simp [notRecomputed, full, e]
    simp only [recomputeLive, live, recomputeInputs_none s site unmade, kept]
  intro sol t old u v far turns d aloft marked slewing onPan onTilt
  obtain ⟨fix, ok, revision, range⟩ := making
  have inputs := recomputeInputs_some s site f fix ok revision range
  have computed : recomputeLive s false = if movesEnough old t then (reslew v old, true) else (u, false) := by
    simp only [recomputeLive, live, inputs, Bool.false_or]
    rfl
  have turn : ∀ w, far → reslew v old = w → turns w := fun w moves result => by
    show recomputeLive s false = _
    rw [computed, if_pos ((movesEnough_iff old t).mpr moves), result]
  have issue : canIssue v = canIssue s := rfl
  have height : extension v = extension s := rfl
  have dish : v.ctl.dishState = d := rfl
  have targets : v.ctl.siteTargets = t := rfl
  have high : 1500 ≤ extension s → belowNest v = false := fun h => by
    rw [← Bool.not_eq_true, belowNest_iff, height]
    omega
  have low : extension s < 1500 → belowNest v = true := (belowNest_iff v).mpr
  refine ⟨fun still => ?_, fun moves idle => turn _ moves ?_, fun moves slews up => turn _ moves ?_,
    fun moves slews barred => turn _ moves ?_, fun moves slews issues under free => turn _ moves ?_,
    fun moves on up => turn _ moves ?_, fun moves on barred => turn _ moves ?_,
    fun moves peaks idle up => turn _ moves ?_, fun c moves peaks search sound => ?_⟩
  · rw [computed, if_neg]
    rwa [movesEnough_iff]
  · rcases idle with h | h | h | h | h <;> simp only [reslew, dish, h]
  · simp only [reslew, dish, slews, issue, up.1, high up.2, Bool.not_true, Bool.false_eq_true, if_false]
    rfl
  · rcases Bool.eq_false_or_eq_true (canIssue s) with issues | issues
    · obtain ⟨under, short⟩ := barred.resolve_left (by simp [issues])
      have stopped : v.ctl.dishShort = some .nest := short
      simp [reslew, dish, slews, issue, issues, low under, stopped]
    · simp [reslew, dish, slews, issue, issues]
  · have unstopped : v.ctl.dishShort ≠ some .nest := free
    have waits : reslew v old = nestWait v := by simp [reslew, dish, slews, issue, issues, low under, unstopped]
    rw [waits, nestWait_eq]
    rfl
  · have slew : reslew v old = slewTo (v.withMark true) t := by
      rcases on with h | h <;> simp [reslew, dish, h, issue, up.1, targets]
    exact slew.trans (slewTo_aloft (v.withMark true) t up.1 up.2)
  · have mark : reslew v old = v.withMark true := by
      rcases on with h | h <;> simp [reslew, dish, h, issue, barred]
    rw [mark]
    rfl
  · have ends : endSearch v .abandoned .ok = v := by
      have none : v.level.search = none := idle
      simp [endSearch, none]
    have slew : reslew v old = slewTo (v.withMark true) t := by simp only [reslew, dish, peaks, targets, ends]
    exact slew.trans (slewTo_aloft (v.withMark true) t up.1 up.2)
  · obtain ⟨hw, -, hs, -⟩ := sound
    have ended := endSearch_ended v c .abandoned .ok search hw hs
    obtain ⟨-, -, -, uCtl, uGeo, uSwap, uAxes, -, -, uIlk, -⟩ := endSearch_same v .abandoned .ok
    have slew : reslew v old = slewTo ((endSearch v .abandoned .ok).withMark true) t := by
      simp only [reslew, dish, peaks, targets]
    generalize endSearch v .abandoned .ok = w at *
    have issueW : canIssue (w.withMark true) = canIssue s := by
      simp [canIssue, drivingMode, State.withMark, uCtl, uIlk, uSwap, v, u]
    have heightW : extension (w.withMark true) = extension s := by
      simp [extension, State.withMark, uAxes, v, u]
    refine ⟨w.withMark true, ended, ?_, uGeo, uAxes, turn _ moves slew, fun up => turn _ moves ?_⟩
    · rw [State.withMark, uCtl]
      rfl
    · rw [slew, slewTo_aloft _ t (issueW.trans up.1) (heightW ▸ up.2)]
      rfl

/-- Settles O56, by its seven parts. -/
theorem effectiveTargetRule : Obligations.EffectiveTargetRule :=
  ⟨effectiveTarget_rule, recompute_rule, driveMast_rule, giveMast_rule, pursueDish_rule, giveDish_rule,
    recomputeLive_rule⟩

end

section
/-! PROOFS. What an event brings about at its end: rests, arrivals, completions, the resume, the end of forced stow. These
are parts of O20. -/
namespace Sys2Proof.Machine

/-! ## The dish stands -/

theorem withDish_search (s : State) (d : DishState) : (s.withDish d).level.search = s.level.search := by
  unfold State.withDish
  split <;> rfl

theorem dishStands_stance (s : State) : (dishStands s).stance = s.stance := by
  unfold dishStands
  (repeat' split) <;> simp

theorem dishStands_search (s : State) : (dishStands s).level.search = s.level.search := by
  unfold dishStands
  (repeat' split) <;> simp [withDish_search]

/-- A dish goal of NONE writes the dish goal alone of the stance (R6). -/
theorem dishToNone_stance (s : State) : (dishToNone s).stance = { s.stance with dishGoal := .none } := by
  have stops : onlyDrives (writeDishGoal s .none) (controlledStops (writeDishGoal s .none) dishAxes) :=
    aside_controlledStops ..
  rw [dishToNone, dishStands_stance, stops.stance]
  rfl

theorem dishToNone_search (s : State) : (dishToNone s).level.search = s.level.search := by
  have stops : onlyDrives (writeDishGoal s .none) (controlledStops (writeDishGoal s .none) dishAxes) :=
    aside_controlledStops ..
  rw [dishToNone, dishStands_search, stops.level]
  rfl

theorem stopSearch_mastGoal (s : State) (o : SearchOutcome) (keep : Bool) :
    (stopSearch s o keep).stance.mastGoal = s.stance.mastGoal := by
  have rest := stopSearch_stance s o keep false
  simpa using congrArg Stance.mastGoal rest

/-! ## A mast goal set with nothing pending and no search -/

/-- The mast goal is `h`, no peak is pending and no search runs. -/
def calmAt (h : Int) (s : State) : Prop :=
  s.stance.mastGoal = h ∧ s.stance.peakPending = false ∧ s.level.search = none

theorem calmAt.congr {h : Int} {s u : State} (calm : calmAt h s) (stance : u.stance = s.stance)
    (search : u.level.search = s.level.search) : calmAt h u := by
  rw [calmAt, stance, search]
  exact calm

theorem swapEarlyEnd_stance (s : State) (code : Code) : (swapEarlyEnd s code).stance = s.stance := by
  unfold swapEarlyEnd completeSwap
  simp only []
  (repeat' split) <;> simp

theorem swapEarlyEnd_search (s : State) (code : Code) : (swapEarlyEnd s code).level.search = s.level.search := by
  unfold swapEarlyEnd completeSwap
  simp only []
  (repeat' split) <;> simp

theorem putFault_stance (s : State) (f : FaultId) : (putFault s f).stance = s.stance := by
  unfold putFault makeRoom
  simp only []
  (repeat' split) <;> rfl

theorem putFault_level (s : State) (f : FaultId) : (putFault s f).level = s.level := by
  unfold putFault makeRoom
  simp only []
  (repeat' split) <;> rfl

theorem reportFault_stance (s : State) (f : FaultId) : (reportFault s f).stance = s.stance := by
  unfold reportFault
  split
  · rfl
  · rw [swapEarlyEnd_stance, putFault_stance]

theorem reportFault_search (s : State) (f : FaultId) : (reportFault s f).level.search = s.level.search := by
  unfold reportFault
  split
  · rfl
  · rw [swapEarlyEnd_search, putFault_level]

/-- The reaction to a dish axis fault leaves the mast goal (R26, R147). -/
theorem dishFaultReact_calm {h : Int} {s : State} (calm : calmAt h s) : calmAt h (dishFaultReact s) := by
  unfold dishFaultReact
  split
  · exact calm.congr (withDish_stance ..) (withDish_search ..)
  · have stops : onlyDrives s (controlledStops s dishAxes) := aside_controlledStops ..
    have kept := stopSearch_mastGoal (controlledStops s dishAxes) .faulted false
    set v := stopSearch (controlledStops s dishAxes) .faulted false with hv
    have unsearched : v.level.search = none := by rw [hv, stopSearch_level]
    have goal : v.stance.mastGoal = h := by
      rw [kept, stops.stance]
      exact calm.1
    obtain ⟨-, -, -, endStance, -, -, endLevel, -⟩ := endWhere_same
      ((writeDishGoal ((v.withPeakPending false).withDish .failed) .none).withDishShort none)
      (fun c => ofKinds [.aim, .peak, .point, .stow] c || (ofKinds [.raise, .lower] c &&
        (decide (((writeDishGoal ((v.withPeakPending false).withDish .failed) .none).withDishShort none).stance.mastGoal <
          Config.nestHeight) &&
          !inWindow ((writeDishGoal ((v.withPeakPending false).withDish .failed) .none).withDishShort none)))) .faulted
    refine ⟨?_, ?_, ?_⟩
    · rw [endStance]
      simpa using goal
    · rw [endStance]
      simp
    · rw [endLevel]
      simpa [withDish_search] using unsearched

theorem axisFault_calm {h : Int} {s : State} (a : Axis) (f : FaultId) (dish : a ≠ .mast) (calm : calmAt h s) :
    calmAt h (axisFault s a f) := by
  have reported : calmAt h (reportFault s f) := calm.congr (reportFault_stance ..) (reportFault_search ..)
  unfold axisFault axisReact
  split
  · cases a with
    | mast => exact absurd rfl dish
    | pan => exact dishFaultReact_calm reported
    | tilt => exact dishFaultReact_calm reported
    | pol => exact dishFaultReact_calm reported
  · exact reported

theorem giveDishAxis_calm {h : Int} {s : State} (a : Axis) (t : Int) (dish : a ≠ .mast) (calm : calmAt h s) :
    calmAt h (giveDishAxis s a t) := by
  have drives := axisGive_drives s a t (movePriority s)
  have given : calmAt h (axisGive s a t (movePriority s)).1 := calm.congr drives.stance (congrArg Level.search drives.level)
  unfold giveDishAxis giveTarget orLimit
  split
  · exact calm
  · split
    · exact axisFault_calm a _ dish given
    · exact given

theorem giveDish_calm {h : Int} {s : State} (t : Targets) (calm : calmAt h s) : calmAt h (giveDish s t) :=
  giveDishAxis_calm .pol _ (by decide) (giveDishAxis_calm .tilt _ (by decide) (giveDishAxis_calm .pan _ (by decide) calm))

/-- The dish that turns to its stow goal stands, or is given its stow targets. -/
theorem pursueStow_cases (s : State) (goal : s.stance.dishGoal = .stow) :
    pursueDish s = s ∨ pursueDish s = dishStands s ∨ pursueDish s = giveDish s stowTargets ∨
      pursueDish s = giveDish ((s.withDish .stowing).withDishShort none) stowTargets := by
  cases issue : canIssue s
  · by_cases failed : s.ctl.dishState = .failed <;> simp [pursueDish, issue, holdDish, failed, goal]
  · by_cases failed : s.ctl.dishState = .failed
    · by_cases forced : s.ctl.mode = .forcedStow <;> simp [pursueDish, issue, issueDish, failed, goal, forced]
    · simp [pursueDish, issue, issueDish, failed, goal]

/-- The turn of the dish to its stow goal leaves the rest of the stance (R6, R26). -/
theorem pursueStow_calm {h : Int} {s : State} (goal : s.stance.dishGoal = .stow) (calm : calmAt h s) :
    calmAt h (pursueDish s) := by
  have stowing : calmAt h ((s.withDish .stowing).withDishShort none) := calm.congr (by simp) (by simp [withDish_search])
  rcases pursueStow_cases s goal with turn | turn | turn | turn <;> rw [turn]
  · exact calm
  · exact calm.congr (dishStands_stance s) (dishStands_search s)
  · exact giveDish_calm _ calm
  · exact giveDish_calm _ stowing

/-! ## Targets given with no switch tripped -/

/-- With no switch tripped no axis finds one (R108). -/
theorem axisGive_clear (s : State) (a : Axis) (t : Int) (p : Priority) (clear : s.axes.tripped = Switches.clear) :
    (axisGive s a t p).2 = false := by
  have free := towardTripped_clear s a
  unfold axisGive giveAtRest
  simp only [free _ clear, Bool.false_and, Bool.false_eq_true, if_false]
  (repeat' split) <;> rfl

theorem giveDishAxis_clear (s : State) (a : Axis) (t : Int) (clear : s.axes.tripped = Switches.clear) :
    onlyDrives s (giveDishAxis s a t) ∧ (giveDishAxis s a t).axes.tripped = Switches.clear := by
  have tripped : (giveDishAxis s a t).axes.tripped = s.axes.tripped := congrArg Kept.tripped (kept_giveDishAxis s a t)
  refine ⟨?_, tripped.trans clear⟩
  unfold giveDishAxis giveTarget orLimit
  rw [axisGive_clear s a t _ clear]
  split
  · exact onlyDrives_refl s
  · exact axisGive_drives ..

theorem giveDish_clear (s : State) (t : Targets) (clear : s.axes.tripped = Switches.clear) :
    onlyDrives s (giveDish s t) := by
  obtain ⟨pan, clearPan⟩ := giveDishAxis_clear s .pan t.pan clear
  obtain ⟨tilt, clearTilt⟩ := giveDishAxis_clear _ .tilt t.tilt clearPan
  exact (pan.trans tilt).trans (giveDishAxis_clear _ .pol t.pol clearTilt).1

theorem pursueStow_clear (s : State) (goal : s.stance.dishGoal = .stow) (clear : s.axes.tripped = Switches.clear) :
    (pursueDish s).stance = s.stance := by
  have stowing : ((s.withDish .stowing).withDishShort none).axes.tripped = Switches.clear := by simpa using clear
  rcases pursueStow_cases s goal with turn | turn | turn | turn <;> rw [turn]
  · exact dishStands_stance s
  · exact (giveDish_clear s _ clear).stance
  · exact (giveDish_clear _ _ stowing).stance.trans (by simp)

/-! ## The mast comes to rest (R4, R21, R25, R144) -/

theorem restGoal_eq (s : State) (why : GoalAtRest) :
    restGoal s why = max 0 (min 15000 (if why = .halted ∧ s.axes.mast.encValid = false then s.axes.mast.lastValid
      else extension s)) := by
  cases why with
  | halt => simp [restGoal, adoptedHeight_eq]
  | overhead => simp [restGoal, adoptedHeight_eq]
  | halted => cases valid : s.axes.mast.encValid <;> simp [restGoal, haltedExtension, adoptedHeight_eq, valid]

/-- The mast goal that waited for the rest is set. -/
def State.restedAt (s : State) (h : Int) : State :=
  (s.withStance { s.stance with mastGoal := h }).withCtl { s.ctl with goalAtRest := none }

theorem fixGoal_none (s : State) (h : s.ctl.goalAtRest = none) : fixGoal s = s := by
  simp [fixGoal, h]

theorem fixGoal_high (s : State) (why : GoalAtRest) (h : s.ctl.goalAtRest = some why)
    (high : ¬ (restGoal s why < 1500 ∧ s.stance.dishGoal.aimed = true)) :
    fixGoal s = s.restedAt (restGoal s why) := by
  simp only [fixGoal, h]
  exact if_neg high

theorem fixGoal_low (s : State) (why : GoalAtRest) (h : s.ctl.goalAtRest = some why)
    (low : restGoal s why < 1500 ∧ s.stance.dishGoal.aimed = true) :
    fixGoal s = unaim (s.restedAt (restGoal s why)) why := by
  simp only [fixGoal, h]
  exact if_pos low

/-- The search abandoned and the commands ended for a goal that gives way. -/
theorem abandoned_calm (s : State) (code : Code) :
    calmAt s.stance.mastGoal
      (endWhere ((stopSearch s .abandoned false).withPeakPending false) (ofKinds [.aim, .peak, .point]) code) := by
  obtain ⟨-, -, -, stance, -, -, level, -⟩ := endWhere_same ((stopSearch s .abandoned false).withPeakPending false)
    (ofKinds [.aim, .peak, .point]) code
  refine ⟨?_, ?_, ?_⟩
  · rw [stance]
    exact stopSearch_mastGoal ..
  · rw [stance]
    rfl
  · rw [level]
    exact stopSearch_search ..

/-- A goal that gives way to NONE. -/
theorem toNone_calm {h : Int} {s : State} (calm : calmAt h s) :
    calmAt h (setDishGoal s .none) ∧ (setDishGoal s .none).stance.dishGoal = .none := by
  obtain ⟨goal, pending, search⟩ := calm
  have stance : (setDishGoal s .none).stance = { s.stance with dishGoal := .none } := dishToNone_stance s
  refine ⟨⟨?_, ?_, (dishToNone_search s).trans search⟩, ?_⟩
  · rw [stance]
    exact goal
  · rw [stance]
    exact pending
  · rw [stance]

/-- A goal that gives way to STOW. -/
theorem toStow_calm {h : Int} {s : State} (calm : calmAt h s) :
    calmAt h (setDishGoal s .stow) ∧
      (s.axes.tripped = Switches.clear → (setDishGoal s .stow).stance.dishGoal = .stow) := by
  have written : calmAt h (writeDishGoal s .stow) := calm
  refine ⟨pursueStow_calm rfl written, fun clear => ?_⟩
  have turn : (setDishGoal s .stow).stance = (writeDishGoal s .stow).stance := pursueStow_clear (writeDishGoal s .stow) rfl clear
  rw [turn]
  rfl

theorem unaim_calm (s : State) (why : GoalAtRest) :
    calmAt s.stance.mastGoal (unaim s why) ∧ (why ≠ .overhead → (unaim s why).stance.dishGoal = .none) ∧
      (why = .overhead → s.axes.tripped = Switches.clear → (unaim s why).stance.dishGoal = .stow) := by
  cases why with
  | halt =>
    obtain ⟨calm, goal⟩ := toNone_calm (abandoned_calm s .halted)
    exact ⟨calm, fun _ => goal, fun h => by cases h⟩
  | halted =>
    obtain ⟨calm, goal⟩ := toNone_calm (abandoned_calm s .faulted)
    exact ⟨calm, fun _ => goal, fun h => by cases h⟩
  | overhead =>
    obtain ⟨calm, goal⟩ := toStow_calm (abandoned_calm s .faulted)
    refine ⟨calm, fun h => absurd rfl h, fun _ clear => goal ?_⟩
    obtain ⟨-, -, -, -, -, -, -, axesSearch, -⟩ := stopSearch_same s .abandoned false
    obtain ⟨-, -, -, -, -, -, -, -, axes, -⟩ := endWhere_same ((stopSearch s .abandoned false).withPeakPending false)
      (ofKinds [.aim, .peak, .point]) .faulted
    rw [axes]
    exact (congrArg Axes.tripped axesSearch).trans clear

/-! ## Completions that wait on motion (R15 to R17) -/

/-- Nothing is ended by a condition that no open command meets. -/
theorem OnlyEnded.refl {s : State} {p : OpenCommand → Bool} {code : Code} (hw : Memory.wf s.mem = true)
    (idle : ∀ c, p c = false) : OnlyEnded s s p code := by
  refine ⟨⟨fun c _ hc => ?_, fun _ _ => rfl⟩, ?_, rfl, rfl, rfl, rfl, by simp [sameDrives], rfl, rfl, rfl, hw⟩
  · simp [idle c] at hc
  · simp [idle]

/-- Commands are ended in two steps with one code. -/
theorem OnlyEnded.endWhere {s v : State} {p : OpenCommand → Bool} {code : Code} (h : OnlyEnded s v p code)
    (q : OpenCommand → Bool) (hs : (s.board.openSet.map (·.slot)).Nodup) :
    OnlyEnded s (endWhere v q code) (fun c => p c || q c) code := by
  have slots : (v.board.openSet.map (·.slot)).Nodup := by
    rw [h.openSet]
    exact hs.sublist (List.filter_sublist.map _)
  have more := endWhere_onlyEnded v q code h.wf slots
  have both : Ended s (Machine.endWhere v q code) (fun c => p c || q c) code := by
    refine h.ended.endWhere_more h.wf (fun c hc hq => ?_) fun d hd hq => ?_
    · cases hp : p c with
      | true => exact .inl rfl
      | false => exact .inr ⟨c, by rw [h.openSet]; simp [hc, hp], rfl, hq⟩
    · rw [h.openSet] at hd
      exact ⟨d, List.mem_of_mem_filter hd, rfl, hq⟩
  refine ⟨both, ?_, more.stance.trans h.stance, more.ctl.trans h.ctl, more.geo.trans h.geo, more.level.trans h.level,
    sameDrives_trans h.drives more.drives, more.intake.trans h.intake, more.control.trans h.control,
    more.headerSeq.trans h.headerSeq, more.wf⟩
  rw [more.openSet, h.openSet, List.filter_filter]
  exact List.filter_congr fun c _ => by rw [Bool.not_or, Bool.and_comm]

/-- Commands that meet a condition are ended, each with something added to it. -/
theorem foldComplete_onlyEnded (s : State) (p : OpenCommand → Bool) (code : Code) (f : OpenCommand → OpenCommand)
    (slot : ∀ c, (f c).slot = c.slot) (hw : Memory.wf s.mem = true) (hs : (s.board.openSet.map (·.slot)).Nodup) :
    OnlyEnded s (((openWhere s p).map f).foldl (fun t c => complete t c code) s) p code := by
  obtain ⟨hp, ht, hl, hst, hc, hg, hlv, hsw, hx, ha, hwd, hi, hpw, hin, hco, hq⟩ :=
    foldComplete_same ((openWhere s p).map f) s code
  refine ⟨⟨fun c hc hpc => ?_, fun a other => ?_⟩, ?_, hst, hc, hg, hlv, ⟨hp, ht, hl, hsw, hx, ha, hwd, hi, hpw⟩, hin, hco,
    hq, foldComplete_wf _ s code hw⟩
  · have member : f c ∈ (openWhere s p).map f := List.mem_map_of_mem ((mem_openWhere s p c).mpr ⟨hc, hpc⟩)
    exact slot c ▸ foldComplete_answered _ s code hw (f c) member
  · refine foldComplete_other _ s code a fun d hd => ?_
    obtain ⟨c, hc, rfl⟩ := List.mem_map.mp hd
    obtain ⟨member, hpc⟩ := (mem_openWhere s p c).mp hc
    rw [slot]
    exact other c member hpc
  · have same := endWhere_openSet s p code hs
    rw [endWhere, foldComplete_openSet] at same
    rw [foldComplete_openSet, ← same]
    refine List.filter_congr fun d _ => ?_
    rw [List.any_map]
    simp [Function.comp_def, slot]

theorem completeHeights_eq (s : State) : completeHeights s =
    ((openWhere s (ofKinds [.raise, .lower])).map (·.atHeight s)).foldl (fun t c => complete t c .ok) s := by
  rw [List.foldl_map]
  rfl

theorem completeHeights_onlyEnded (s : State) (hw : Memory.wf s.mem = true)
    (hs : (s.board.openSet.map (·.slot)).Nodup) :
    OnlyEnded s (completeHeights s) (ofKinds [.raise, .lower]) .ok := by
  rw [completeHeights_eq]
  exact foldComplete_onlyEnded s _ .ok (·.atHeight s) (fun _ => rfl) hw hs

/-- The warnings of a RAISE or LOWER completed at its height. -/
theorem completeHeights_warnings (s : State) (hw : Memory.wf s.mem = true) (hs : (s.board.openSet.map (·.slot)).Nodup)
    (c : OpenCommand) (hc : c ∈ s.board.openSet) (kind : ofKinds [.raise, .lower] c = true) :
    read8 (completeHeights s).mem (slotAddr c.slot + 5) = (c.atHeight s).warnings.toByte := by
  have member : c.atHeight s ∈ (openWhere s (ofKinds [.raise, .lower])).map (·.atHeight s) :=
    List.mem_map.mpr ⟨c, (mem_openWhere _ _ _).mpr ⟨hc, kind⟩, rfl⟩
  rw [completeHeights_eq]
  refine (foldComplete_bytes _ s .ok hw (c.atHeight s) member fun d hd same => ?_).1
  obtain ⟨e, he, rfl⟩ := List.mem_map.mp hd
  rw [List.inj_on_of_nodup_map hs ((mem_openWhere _ _ _).mp he).1 hc same]

theorem mastResting_iff (s : State) :
    mastResting s = true ↔ (s.ctl.mastState = .nested ∨ s.ctl.mastState = .held) ∧ s.axes.mast.inMove = false := by
  simp [mastResting, mastAtRest]

theorem heightReached_iff (s : State) :
    heightReached s = true ↔ ((s.ctl.mastState = .nested ∨ s.ctl.mastState = .held) ∧ s.axes.mast.inMove = false) ∧
      (s.ctl.effTarget - extension s).natAbs ≤ 20 ∧ heldAtNest s = false := by
  rw [heightReached, Bool.and_eq_true, Bool.and_eq_true, mastResting_iff, mastNear_iff, Bool.not_eq_true']

/-- RAISE and LOWER completed where the height is reached. -/
def heightsDone (s : State) : State := if heightReached s then completeHeights s else s

theorem heightsDone_onlyEnded (s : State) (hw : Memory.wf s.mem = true) (hs : (s.board.openSet.map (·.slot)).Nodup) :
    OnlyEnded s (heightsDone s) (fun c => heightReached s && ofKinds [.raise, .lower] c) .ok := by
  cases reached : heightReached s with
  | true =>
    have done : heightsDone s = completeHeights s := if_pos reached
    rw [done]
    simpa using completeHeights_onlyEnded s hw hs
  | false =>
    have still : heightsDone s = s := by simp [heightsDone, reached]
    rw [still]
    exact .refl hw fun _ => rfl

theorem completeOpen_normal (s : State) (hw : Memory.wf s.mem = true) (hs : (s.board.openSet.map (·.slot)).Nodup)
    (mode : s.ctl.mode = .normal) (idle : s.swap.phase = .idle) :
    completeOpen s = if s.ctl.mastState = .nested ∧ s.ctl.dishState = .stowed then
      endWhere (heightsDone s) (ofKinds [.stow]) .ok else heightsDone s := by
  have opened : completeOpen s = if (heightsDone s).ctl.mastState = .nested ∧ (heightsDone s).ctl.dishState = .stowed then
      endWhere (heightsDone s) (ofKinds [.stow]) .ok else heightsDone s := by
    simp only [completeOpen, idle, mode]
    rfl
  rw [opened, (heightsDone_onlyEnded s hw hs).ctl]

theorem completeOpen_onlyEnded_normal (s : State) (hw : Memory.wf s.mem = true)
    (hs : (s.board.openSet.map (·.slot)).Nodup) (mode : s.ctl.mode = .normal) (idle : s.swap.phase = .idle) :
    OnlyEnded s (completeOpen s) (fun c => (heightReached s && ofKinds [.raise, .lower] c) ||
      (decide (s.ctl.mastState = .nested ∧ s.ctl.dishState = .stowed) && ofKinds [.stow] c)) .ok := by
  have heights := heightsDone_onlyEnded s hw hs
  rw [completeOpen_normal s hw hs mode idle]
  by_cases stowed : s.ctl.mastState = .nested ∧ s.ctl.dishState = .stowed
  · simpa [stowed] using heights.endWhere (ofKinds [.stow]) hs
  · simpa [stowed] using heights

theorem completeOpen_other (s : State) (normal : s.ctl.mode ≠ .normal) (forced : s.ctl.mode ≠ .forcedStow) :
    completeOpen s = s := by
  unfold completeOpen
  split
  · rfl
  · split
    next mode => exact absurd mode forced
    next mode => exact absurd mode normal
    all_goals rfl

/-- The condition under which a command completes is that of another wording. -/
theorem OnlyEnded.of_eq {s u : State} {p q : OpenCommand → Bool} {code : Code} (h : OnlyEnded s u p code)
    (same : ∀ c, p c = q c) : OnlyEnded s u q code := funext same ▸ h

/-- The later completion of a STOW leaves the warnings of a RAISE or LOWER. -/
theorem completeOpen_warnings (s : State) (hw : Memory.wf s.mem = true) (hs : (s.board.openSet.map (·.slot)).Nodup)
    (mode : s.ctl.mode = .normal) (idle : s.swap.phase = .idle) (reached : heightReached s = true) (c : OpenCommand)
    (hc : c ∈ s.board.openSet) (kind : ofKinds [.raise, .lower] c = true) :
    read8 (completeOpen s).mem (slotAddr c.slot + 5) = (c.atHeight s).warnings.toByte := by
  have heights := heightsDone_onlyEnded s hw hs
  have done : heightsDone s = completeHeights s := if_pos reached
  have warned := completeHeights_warnings s hw hs c hc kind
  rw [completeOpen_normal s hw hs mode idle]
  split
  · obtain ⟨-, others⟩ := endWhere_ended (heightsDone s) (ofKinds [.stow]) .ok heights.wf
    rw [others, done, warned]
    intro d hd stow mine
    rw [heights.openSet] at hd
    have same : d = c := List.inj_on_of_nodup_map hs (List.mem_of_mem_filter hd) hc
      (resultByte_slots _ _ _ mine (.inr (.inr (.inl rfl))))
    rw [same] at stow
    simp only [ofKinds, List.contains_eq_mem, List.mem_cons, List.not_mem_nil, or_false, decide_eq_true_eq] at stow kind
    rw [stow] at kind
    rcases kind with kind | kind <;> cases kind
  · rw [done, warned]

end Sys2Proof.Machine

open Sys2Proof Sys2Proof.Machine

/-- The first part of O20: the end of an event, in the model's order. -/
theorem endEvent_rule (before s : State) : endEvent before s = updateHeader before (settle s) ∧
    (running s = false → settle s = s) ∧ (running s = true → settle s = settleOnce (settleOnce (settleOnce s))) ∧
    settleOnce s = quiesceEnd (resumeStance (forcedStowEnd (completeOpen (judgeTriggers
      (searchPass (dishRest (stowStatusPass (mastRest s)))))))) :=
  ⟨rfl, fun idle => by rw [settle, idle]; rfl, fun runs => if_pos runs, rfl⟩

/-- The second part: the mast at rest, the goal that waited for it, and the stow status. -/
theorem mastRest_rule (s : State) :
    let m := s.axes.mast
    let moved := s.ctl.mastState = .rising ∨ s.ctl.mastState = .descending
    let v := if moved then s.withCtl { s.ctl with mastState := if extension s ≤ 20 then .nested else .held } else s
    let status := s.withCtl { s.ctl with stowStatus := inWindow s }
    (m.inMove = true → mastRest s = s) ∧
    (m.phase = .atRest → moved ∨ s.ctl.goalAtRest ≠ none → mastRest s = recomputeIssuing (fixGoal v)) ∧
    (m.phase = .atRest → ¬ moved → s.ctl.goalAtRest = none → mastRest s = s) ∧
    (m.phase = .faulted → s.ctl.goalAtRest ≠ none → mastRest s = recomputeEff (fixGoal s)) ∧
    (m.phase = .faulted → s.ctl.goalAtRest = none → mastRest s = s) ∧
    (s.ctl.goalAtRest = none → fixGoal s = s) ∧
    (∀ why, s.ctl.goalAtRest = some why →
      let h := max 0 (min 15000 (if why = .halted ∧ m.encValid = false then m.lastValid else extension s))
      let low := h < 1500 ∧ s.stance.dishGoal.aimed = true
      let u := fixGoal s
      (¬ low → u = (s.withStance { s.stance with mastGoal := h }).withCtl { s.ctl with goalAtRest := none }) ∧
      (low → u.stance.mastGoal = h ∧ u.stance.peakPending = false ∧ u.level.search = none ∧
        (why ≠ .overhead → u.stance.dishGoal = .none) ∧
        (why = .overhead → s.axes.tripped = Switches.clear → u.stance.dishGoal = .stow))) ∧
    (inWindow s = s.ctl.stowStatus → stowStatusPass s = s) ∧
    (inWindow s ≠ s.ctl.stowStatus → stowStatusPass s = recomputeEff status) := by
  intro m moved v status
  refine ⟨fun moves => ?_, fun rest due => ?_, fun rest still idle => ?_, fun failed waits => ?_, fun failed idle => ?_,
    fixGoal_none s, fun why waits => ?_, fun same => if_pos same, fun differs => if_neg differs⟩
  · cases phase : s.axes.mast.phase <;> simp [m, AxisState.inMove, phase] at moves <;> simp [mastRest, phase]
  · have phase : s.axes.mast.phase = .atRest := rest
    by_cases was : moved
    · have v_eq : v = s.withMastState (restingMast s) := if_pos was
      simp only [mastRest, phase, v_eq]
      exact if_pos was
    · have v_eq : v = s := if_neg was
      have some' : s.ctl.goalAtRest.isSome = true := Option.isSome_iff_ne_none.mpr (due.resolve_left was)
      simp only [mastRest, phase, v_eq, some', if_true]
      exact if_neg was
  · have phase : s.axes.mast.phase = .atRest := rest
    simp only [mastRest, phase, idle]
    exact if_neg still
  · have phase : s.axes.mast.phase = .faulted := failed
    simp [mastRest, phase, Option.isSome_iff_ne_none.mpr waits]
  · have phase : s.axes.mast.phase = .faulted := failed
    simp [mastRest, phase, idle]
  · intro h low u
    have goal : restGoal s why = h := restGoal_eq s why
    refine ⟨fun high => ?_, fun isLow => ?_⟩
    · exact (fixGoal_high s why waits (goal ▸ high)).trans (by rw [goal]; rfl)
    · have fixed : u = unaim (s.restedAt h) why := goal ▸ fixGoal_low s why waits (goal ▸ isLow)
      obtain ⟨⟨mast, pending, search⟩, none', stow⟩ := unaim_calm (s.restedAt h) why
      rw [fixed]
      exact ⟨mast, pending, search, none', stow⟩

/-- The third part: the dish at rest. -/
theorem dishRest_rule (s : State) :
    let turned := fun d : DishState =>
      (s.withCtl { s.ctl with dishState := d, dishShort := none }).withLevel { s.level with watch := none }
    let standing := turned (if inWindow s = true then .stowed else .parked)
    let d := s.ctl.dishState
    let there := ∀ a, a ≠ .mast → near a (s.axis a).target (s.axis a).position = true
    (dishAtRest s = false ∨ d = .failed → dishRest s = s) ∧
    (dishAtRest s = true → d ≠ .failed →
      (s.ctl.dishShort = some .stop → dishRest s = standing) ∧
      (s.ctl.dishShort = some .nest → extension s < 1500 → dishRest s = turned .nestWait) ∧
      (s.ctl.dishShort = some .nest → 1500 ≤ extension s →
        dishRest s = pursueDish (s.withCtl { s.ctl with dishShort := none })) ∧
      (s.ctl.dishShort = none →
        (d = .stowing → dishRest s = standing) ∧ (d = .slewing → there → dishRest s = arriveDish s) ∧
        (d = .slewing → ¬ there → dishRest s = standing) ∧
        (d = .peaking → s.level.search = none → dishRest s = standing) ∧
        (d = .peaking → s.level.search ≠ none → dishRest s = s) ∧
        (d ≠ .stowing → d ≠ .slewing → d ≠ .peaking → dishRest s = s) ∧
        (s.stance.dishGoal.aimed = false → arriveDish s = standing))) := by
  intro turned standing d there
  refine ⟨fun idle => ?_, fun rest sound => ?_⟩
  · have skip : (!dishAtRest s || s.ctl.dishState == .failed) = true := by
      rcases idle with moves | failed
      · simp [moves]
      · simp [show s.ctl.dishState = .failed from failed]
    exact if_pos skip
  have go : (!dishAtRest s || s.ctl.dishState == .failed) = false := by
    simpa [rest] using sound
  have short : ∀ k, s.ctl.dishShort = some k → dishRest s = shortRest s k := fun k h => by
    simp only [dishRest, go, Bool.false_eq_true, if_false, h]
  have stands : s.ctl.dishShort = none → s.withDish (restingDish s) = standing := fun h => by
    have ctl : ({ s.ctl with dishState := restingDish s } : Control) =
        { s.ctl with dishState := restingDish s, dishShort := none } := by
      rw [← h]
    rw [State.withDish, if_neg (restingDish_ne_locked s), ctl]
    rfl
  have on : dishOnTargets s = true ↔ there := by
    rw [dishOnTargets, dishNear, Bool.and_eq_true, Bool.and_eq_true]
    constructor
    · rintro ⟨pan, tilt, pol⟩ a dish
      cases a with
      | mast => exact absurd rfl dish
      | pan => exact pan
      | tilt => exact tilt
      | pol => exact pol
    · exact fun all => ⟨all .pan (by decide), all .tilt (by decide), all .pol (by decide)⟩
  have low : belowNest (s.withDishShort none) = true ↔ extension s < 1500 := belowNest_iff _
  refine ⟨fun h => ?_, fun h under => ?_, fun h high => ?_, fun h => ⟨fun k => ?_, fun k near => ?_, fun k off => ?_,
    fun k search => ?_, fun k search => ?_, fun k k' k'' => ?_, fun unaimed => ?_⟩⟩
  · rw [short _ h]
    show (s.withDishShort none).withDish (restingDish s) = standing
    rw [State.withDish, if_neg (restingDish_ne_locked s)]
    rfl
  · rw [short _ h]
    show (if belowNest (s.withDishShort none) = true then nestWait (s.withDishShort none) else _) = _
    rw [if_pos (low.mpr under), nestWait_eq]
    rfl
  · rw [short _ h]
    exact if_neg fun under => absurd (low.mp under) (not_lt.mpr high)
  · simp [dishRest, rest, h, show s.ctl.dishState = .stowing from k, stands h]
  · simp [dishRest, rest, h, show s.ctl.dishState = .slewing from k, on.mpr near]
  · have away : dishOnTargets s = false := by rwa [← Bool.not_eq_true, on]
    simp [dishRest, rest, h, show s.ctl.dishState = .slewing from k, away, stands h]
  · simp [dishRest, rest, h, show s.ctl.dishState = .peaking from k, search, stands h]
  · simp [dishRest, rest, h, show s.ctl.dishState = .peaking from k, Option.isSome_iff_ne_none.mpr search]
  · cases e : s.ctl.dishState <;> simp_all [dishRest, d]
  · rw [← stands h]
    cases goal : s.stance.dishGoal with
    | none => simp [arriveDish, goal]
    | stow => simp [arriveDish, goal]
    | site => simp [goal, DishGoal.aimed] at unaimed
    | point p => simp [goal, DishGoal.aimed] at unaimed

/-- The fourth part: the resume of the outgoing stance after an early end (R88, R93). -/
theorem resumeStance_rule (s : State) :
    let v := s.withCtl { s.ctl with resumeDue := false }
    let w := recomputeIssuing v
    let again := canIssue w = true ∧ w.ctl.dishState ≠ .failed
    (s.ctl.resumeDue = false → resumeStance s = s) ∧
    (s.ctl.resumeDue = true → s.ctl.mode ≠ .normal → resumeStance s = v) ∧
    (s.ctl.resumeDue = true → s.ctl.mode = .normal →
      (again → resumeStance s = reissueDish w) ∧ (¬ again → resumeStance s = w)) := by
  intro v w again
  have resumes : s.ctl.resumeDue = true → resumeStance s =
      if s.ctl.mode = .normal then (if again then reissueDish w else w) else v := fun due => if_pos due
  refine ⟨fun idle => ?_, fun due other => ?_, fun due normal => ⟨fun act => ?_, fun hold => ?_⟩⟩
  · simp [resumeStance, idle]
  · rw [resumes due, if_neg other]
  · rw [resumes due, if_pos normal, if_pos act]
  · rw [resumes due, if_pos normal, if_neg hold]

/-- The fifth part: the completions that wait on motion. -/
theorem completeOpen_rule (s : State) (sound : Sound s) (idle : s.swap.phase = .idle) :
    let rest := (s.ctl.mastState = .nested ∨ s.ctl.mastState = .held) ∧ s.axes.mast.inMove = false
    let height := rest ∧ (s.ctl.effTarget - extension s).natAbs ≤ 20 ∧ heldAtNest s = false
    let short := s.ctl.effTarget < s.stance.mastGoal ∧ effCeiling s < s.stance.mastGoal
    let ends := fun c : OpenCommand => decide (
      (s.ctl.mode = .normal ∧ (ofKinds [.raise, .lower] c = true ∧ height ∨
        c.kind = .stow ∧ s.ctl.mastState = .nested ∧ s.ctl.dishState = .stowed)) ∨
      (s.ctl.mode = .forcedStow ∧ c.kind = .lower ∧
        (rest ∧ extension s ≤ c.height ∨ s.ctl.mastState = .nested)))
    let u := completeOpen s
    Ended s u ends .ok ∧ u.board.openSet = s.board.openSet.filter (fun c => !ends c) ∧ u.stance = s.stance ∧
    u.ctl = s.ctl ∧ u.geo = s.geo ∧ u.level = s.level ∧ sameDrives s u ∧
    ∀ c ∈ s.board.openSet, ofKinds [.raise, .lower] c = true → s.ctl.mode = .normal → height →
      read8 u.mem (slotAddr c.slot + 5) = ({ c.warnings with
        ceilingLimited := c.warnings.ceilingLimited || decide short } : Warnings).toByte := by
  intro rest height short ends u
  obtain ⟨hw, -, hs, -⟩ := sound
  have reached : heightReached s = true ↔ height := heightReached_iff s
  have stowKind : ∀ c : OpenCommand, ofKinds [.stow] c = decide (c.kind = .stow) := fun c => by simp [ofKinds]
  have only : OnlyEnded s u ends .ok := by
    by_cases mode : s.ctl.mode = .normal
    · refine (completeOpen_onlyEnded_normal s hw hs mode idle).of_eq fun c => ?_
      rw [Bool.eq_iff_iff]
      simp [ends, mode, ← reached, stowKind, and_comm]
    by_cases forced : s.ctl.mode = .forcedStow
    · have opened : u = endWhere s (lowerDone s) .ok := by simp [u, completeOpen, idle, forced]
      rw [opened]
      refine (endWhere_onlyEnded s _ .ok hw hs).of_eq fun c => ?_
      rw [Bool.eq_iff_iff]
      simp [ends, forced, lowerDone, mastResting_iff, rest]
    · have still : u = s := completeOpen_other s mode forced
      rw [still]
      exact .refl hw fun c => by simp [ends, mode, forced]
  refine ⟨only.ended, only.openSet, only.stance, only.ctl, only.geo, only.level, only.drives,
    fun c hc kind mode high => ?_⟩
  rw [completeOpen_warnings s hw hs mode idle (reached.mpr high) c hc kind, Bool.decide_and]
  rfl

/-- The sixth part: no completion during a quiesce (R87). -/
theorem completeOpen_quiesce (s : State) (quiesce : s.swap.phase = .quiesce) : completeOpen s = s := if_pos quiesce

/-- The seventh part: the dish arrived at its site (R7, R18, R45). -/
theorem arriveSite_rule (s : State) (sound : Sound s) (goal : s.stance.dishGoal = .site) :
    let ends := fun c : OpenCommand => c.kind == .aim && !c.peakAfter
    ∃ u, u.ctl = { s.ctl with dishState := .onSolution, touchUpMark := false } ∧ u.stance = s.stance ∧
      u.geo = s.geo ∧ sameDrives s u ∧ Ended s u ends .ok ∧
      u.board.openSet = s.board.openSet.filter (fun c => !ends c) ∧
      arriveDish s = (if s.stance.peakPending then startSearch u .full
        else if s.ctl.touchUpMark && (s.stance.watch && (liveEntry s).trim.valid) then startSearch u .touchUp else u) := by
  intro ends
  obtain ⟨hw, -, hs, -⟩ := sound
  have only := endWhere_onlyEnded ((s.withDish .onSolution).withMark false) ends .ok (by simpa [State.withMark] using hw)
    (by simpa [State.withMark] using hs)
  have arrives : arriveDish s = arriveSite s := by simp [arriveDish, goal]
  have site : arriveSite s = (let u := endWhere ((s.withDish .onSolution).withMark false) ends .ok
    if u.stance.peakPending then startSearch u .full
      else if s.ctl.touchUpMark && touchUpDue u then startSearch u .touchUp else u) := rfl
  rw [arrives, site]
  generalize endWhere ((s.withDish .onSolution).withMark false) ends .ok = u at only
  have stance : u.stance = s.stance := only.stance.trans (by simp [State.withMark])
  have geo : u.geo = s.geo := only.geo.trans (by simp [State.withMark])
  have live : liveEntry u = liveEntry s := by
    unfold liveEntry
    rw [stance]
    split
    · rfl
    · exact entry_congr geo _
  refine ⟨u, ?_, stance, geo, ?_, ?_, ?_, ?_⟩
  · rw [only.ctl]
    simp [State.withMark]
  · simpa [sameDrives, State.withMark] using only.drives
  · simpa [Ended, State.withMark] using only.ended
  · simpa [State.withMark] using only.openSet
  · simp only [touchUpDue, stance, live]

/-- The eighth part: the dish arrived at its POINT (R7). -/
theorem arrivePoint_rule (s : State) (t : Targets) (sound : Sound s) (goal : s.stance.dishGoal = .point t) :
    let u := arriveDish s
    u.ctl = { s.ctl with dishState := .parked, touchUpMark := false } ∧ u.stance = s.stance ∧ u.geo = s.geo ∧
      sameDrives s u ∧ Ended s u (ofKinds [.point]) .ok ∧
      u.board.openSet = s.board.openSet.filter (fun c => !ofKinds [.point] c) := by
  obtain ⟨hw, -, hs, -⟩ := sound
  have only := endWhere_onlyEnded ((s.withDish .parked).withMark false) (ofKinds [.point]) .ok
    (by simpa [State.withMark] using hw) (by simpa [State.withMark] using hs)
  have arrives : arriveDish s = endWhere ((s.withDish .parked).withMark false) (ofKinds [.point]) .ok := by
    simp [arriveDish, goal]
  rw [arrives]
  generalize endWhere ((s.withDish .parked).withMark false) (ofKinds [.point]) .ok = u at only
  refine ⟨?_, only.stance.trans (by simp [State.withMark]), only.geo.trans (by simp [State.withMark]), ?_, ?_, ?_⟩
  · rw [only.ctl]
    simp [State.withMark]
  · simpa [sameDrives, State.withMark] using only.drives
  · simpa [Ended, State.withMark] using only.ended
  · simpa [State.withMark] using only.openSet

/-- The ninth part: the end of forced stow (R148). -/
theorem forcedStowEnd_rule (s : State) (sound : Sound s) (mode : s.ctl.mode = .forcedStow) :
    let done := s.ctl.mastState = .nested ∧ s.ctl.dishState = .stowed ∧ s.ilk.lines.stow = false
    let stuck := s.ctl.dishState = .failed ∧ dishAtRest s = true ∧ s.axes.mast.inMove = false ∧
      (s.ctl.effTarget - extension s).natAbs ≤ 20
    (done → ∃ u, forcedStowEnd s = recomputeEff u ∧ u.ctl = { s.ctl with mode := .normal } ∧ u.stance = s.stance ∧
      u.geo = s.geo ∧ sameDrives s u ∧ Ended s u (ofKinds [.stow]) .ok ∧
      u.board.openSet = s.board.openSet.filter (fun c => !ofKinds [.stow] c)) ∧
    (¬ done → stuck → forcedStowEnd s = enterHalted s) ∧ (¬ done → ¬ stuck → forcedStowEnd s = s) := by
  intro done stuck
  obtain ⟨hw, -, hs, -⟩ := sound
  have complete_iff : stowComplete s = true ↔ done := by simp [stowComplete, done]
  have stuck_iff : stowStuck s = true ↔ stuck := by
    rw [stowStuck, Bool.and_eq_true, Bool.and_eq_true, Bool.and_eq_true, mastNear_iff]
    simp [mastAtRest, stuck]
  have ends : forcedStowEnd s = if stowComplete s then recomputeEff (endWhere (s.withMode .normal) (ofKinds [.stow]) .ok)
      else if stowStuck s then enterHalted s else s := if_neg (not_not_intro mode)
  refine ⟨fun isDone => ⟨endWhere (s.withMode .normal) (ofKinds [.stow]) .ok, ?_, ?_⟩, fun open' isStuck => ?_,
    fun open' free => ?_⟩
  · rw [ends, if_pos (complete_iff.mpr isDone)]
  · have only := endWhere_onlyEnded (s.withMode .normal) (ofKinds [.stow]) .ok hw hs
    generalize endWhere (s.withMode .normal) (ofKinds [.stow]) .ok = u at only
    exact ⟨only.ctl, only.stance, only.geo, only.drives, only.ended, only.openSet⟩
  · rw [ends, if_neg (mt complete_iff.mp open'), if_pos (stuck_iff.mpr isStuck)]
  · rw [ends, if_neg (mt complete_iff.mp open'), if_neg (mt stuck_iff.mp free)]

end

section
/-! PROOFS. The entry into HALTED (R25) and the ends of an exchange (R90 to R93): the rest of O20. -/
namespace Sys2Proof.Machine

/-! ## An open SWAP ended (R90, R93) -/

/-- What the completion of a SWAP leaves alone: everything but the memory, NOTICE and the open set. -/
theorem completeSwap_same (s : State) (n : Slot) (code : Code) (w : Warnings) (data : List Byte) :
    let u := completeSwap s n code w data
    u.stance = s.stance ∧ u.ctl = s.ctl ∧ u.geo = s.geo ∧ u.level = s.level ∧ sameDrives s u ∧
      u.board.openSet = s.board.openSet.filter (fun c => c.slot != n) := by
  simp [completeSwap, sameDrives, writeResult, closeSlot, setNotice]

theorem completeSwap_answered (s : State) (n : Slot) (code : Code) (w : Warnings) (data : List Byte)
    (hw : Memory.wf s.mem = true) : Answered (completeSwap s n code w data) n code.toNat :=
  writeResult_answered (closeSlot s n) n code w data hw

theorem completeSwap_other (s : State) (n : Slot) (code : Code) (w : Warnings) (data : List Byte) (a : Nat)
    (other : ¬ resultByte n a) : read8 (completeSwap s n code w data).mem a = read8 s.mem a :=
  writeResult_other (closeSlot s n) n code w data a other

theorem completeSwap_wf (s : State) (n : Slot) (code : Code) (w : Warnings) (data : List Byte)
    (hw : Memory.wf s.mem = true) : Memory.wf (completeSwap s n code w data).mem = true :=
  writeResult_wf (closeSlot s n) n code w data hw

theorem completeSwap_keeps (s : State) (m n : Slot) (code : Code) (w : Warnings) (data : List Byte) (k : Nat)
    (other : n ≠ m) (h : Answered s m k) : Answered (completeSwap s n code w data) m k :=
  answered_writeResult (closeSlot s n) n m code w data k other h

theorem swapEarlyEnd_idle (s : State) (code : Code) (idle : s.swap.phase = .idle) : swapEarlyEnd s code = s := by
  simp [swapEarlyEnd, idle]

/-- The result data of a SWAP that ends early (R93). -/
def earlyData (s : State) : List Byte :=
  leBytes 1 (siteByte s.stance.site) ++ leBytes 1 s.swap.snapshot.site ++ leBytes 1 0 ++
    leBytes 1 (notServed s.swap.snapshot)

/-- What an early end makes of an exchange in its quiesce. -/
structure EarlyEnded (s u : State) (code : Code) : Prop where
  answered : Answered u s.swap.slot code.toNat
  swap : u.swap = { s.swap with phase := .idle }
  stance : u.stance = s.stance
  ctl : u.ctl = { s.ctl with resumeDue := true }
  axes : u.axes = s.axes
  arb : u.arb = s.arb
  level : u.level = if s.ctl.dishState = .locked ∧ s.stance.watch = true then { s.level with watch := some 0 }
    else s.level
  openSet : u.board.openSet = s.board.openSet.filter (fun c => c.slot != s.swap.slot)
  others : ∀ a, ¬ resultByte s.swap.slot a → read8 u.mem a = read8 s.mem a
  wf : Memory.wf u.mem = true

theorem swapEarlyEnd_quiesce (s : State) (code : Code) (quiesce : s.swap.phase = .quiesce)
    (hw : Memory.wf s.mem = true) : EarlyEnded s (swapEarlyEnd s code) code := by
  have answered := completeSwap_answered s s.swap.slot code Warnings.empty (earlyData s) hw
  have others := completeSwap_other s s.swap.slot code Warnings.empty (earlyData s)
  have wf := completeSwap_wf s s.swap.slot code Warnings.empty (earlyData s) hw
  obtain ⟨stance, ctl, geo, level, ⟨-, -, -, swap, axes, arb, -⟩, openSet⟩ :=
    completeSwap_same s s.swap.slot code Warnings.empty (earlyData s)
  have ends : swapEarlyEnd s code =
      (let v := completeSwap s s.swap.slot code Warnings.empty (earlyData s)
       let w := (v.withSwap { v.swap with phase := .idle }).withCtl { v.ctl with resumeDue := true }
       if w.ctl.dishState = .locked ∧ w.stance.watch = true then w.withLevel { w.level with watch := some 0 } else w) := by
    rw [swapEarlyEnd, if_pos quiesce]
    rfl
  rw [ends]
  generalize completeSwap s s.swap.slot code Warnings.empty (earlyData s) = v at *
  simp only [withCtl_ctl, withCtl_stance, withSwap_stance, ctl, stance]
  split
  · exact ⟨answered, by simp [swap], stance, rfl, axes, arb, by simp [*], openSet, others, wf⟩
  · exact ⟨answered, by simp [swap], stance, rfl, axes, arb, by simp [*], openSet, others, wf⟩

/-! ## Controlled stops of the dish (R105, R107) -/

/-- An axis as a controlled stop leaves it: a request withdrawn, a drive stopping. -/
def AxisState.halted (x : AxisState) : AxisState :=
  match x.phase with
  | .waiting => { x with phase := .atRest, target := x.position, next := none }
  | .driving =>
    { x with phase := .stopping, deadline := none, arrived := false, stop := some .controlled, next := none }
  | .releasing => { x with stop := some (x.stop.getD .controlled), next := none }
  | .atRest | .stopping | .engaging | .faulted => x

theorem withAxis_self (s : State) (a : Axis) : s.withAxis a (s.axis a) = s := by
  cases a <;> rfl

theorem controlledStop_eq (s : State) (a : Axis) (moving : (s.axis a).phase ≠ .waiting) :
    controlledStop s a = s.withAxis a (s.axis a).halted := by
  have self := withAxis_self s a
  cases phase : (s.axis a).phase <;> simp_all [controlledStop, AxisState.halted]

/-- A fold over distinct axes, each step of which turns its own axis alone. -/
theorem foldl_axis {F : State → Axis → State} {g : AxisState → AxisState} (own : ∀ s a, (F s a).axis a = g (s.axis a))
    (other : ∀ s a b, b ≠ a → (F s a).axis b = s.axis b) (l : List Axis) (distinct : l.Nodup) (s : State) (b : Axis) :
    (l.foldl F s).axis b = if b ∈ l then g (s.axis b) else s.axis b := by
  induction l generalizing s with
  | nil => simp
  | cons a l ih =>
    obtain ⟨fresh, rest⟩ := List.nodup_cons.mp distinct
    rw [List.foldl_cons, ih rest]
    by_cases same : b = a
    · subst same
      simp [fresh, own]
    · simp [same, other s a b same]

/-- A request withdrawn by a controlled stop, before the grant check. -/
def withdrawStep (t : State) (a : Axis) : State :=
  dropRequest (t.withAxis a { t.axis a with phase := .atRest, target := (t.axis a).position, next := none }) a

/-- Of some axes, those that wait, and those that do not. -/
def waitingOf (s : State) (l : List Axis) : List Axis := l.filter (fun a => (s.axis a).phase == .waiting)
def movingOf (s : State) (l : List Axis) : List Axis := l.filter (fun a => (s.axis a).phase != .waiting)

/-- Some axes with their requests withdrawn and their drives stopped, before the lock and the grant check. -/
def stopsOf (s : State) (l : List Axis) : State :=
  (waitingOf s l).foldl withdrawStep ((movingOf s l).foldl controlledStop s)

theorem mem_dishAxes (a : Axis) : a ∈ dishAxes ↔ a ≠ .mast := by
  cases a <;> decide

theorem mem_waitingOf (s : State) (l : List Axis) (a : Axis) :
    a ∈ waitingOf s l ↔ a ∈ l ∧ (s.axis a).phase = .waiting := by
  simp [waitingOf]

theorem mem_movingOf (s : State) (l : List Axis) (a : Axis) :
    a ∈ movingOf s l ↔ a ∈ l ∧ (s.axis a).phase ≠ .waiting := by
  simp [movingOf]

/-- Where no mast waits, the lock has no part in the stops. -/
theorem controlledStops_unlocked (s : State) (l : List Axis) (mast : Axis.mast ∉ waitingOf s l) :
    controlledStops s l = grantCheck (stopsOf s l) := by
  have noMast : ¬ ((waitingOf s l).contains .mast = true ∧ s.axes.lock = .released) := by
    rw [List.contains_iff_mem]
    exact fun h => mast h.1
  unfold controlledStops
  exact congrArg grantCheck (if_neg noMast)

theorem foldl_withdraw_waits (l : List Axis) (s : State) :
    (l.foldl withdrawStep s).arb.waits = s.arb.waits.filter (fun q => decide (q.axis ∉ l)) := by
  induction l generalizing s with
  | nil => simp
  | cons a l ih =>
    have step : (withdrawStep s a).arb.waits = s.arb.waits.filter (fun q => q.axis != a) := rfl
    rw [List.foldl_cons, ih, step, List.filter_filter]
    refine List.filter_congr fun q _ => ?_
    rw [Bool.eq_iff_iff]
    simp [and_comm]

theorem foldl_controlledStop_arb (l : List Axis) (s : State) : (l.foldl controlledStop s).arb = s.arb := by
  have step : ∀ (t : State) (a : Axis), (controlledStop t a).arb = t.arb := fun t a => by
    unfold controlledStop
    simp only []
    split <;> rfl
  induction l generalizing s with
  | nil => rfl
  | cons a l ih => rw [List.foldl_cons, ih, step]

theorem stopsOf_waits (s : State) (l : List Axis) :
    (stopsOf s l).arb.waits = s.arb.waits.filter (fun q => decide (q.axis ∉ waitingOf s l)) := by
  rw [stopsOf, foldl_withdraw_waits, foldl_controlledStop_arb]

theorem stopsOf_axis (s : State) (l : List Axis) (distinct : l.Nodup) (a : Axis) :
    (stopsOf s l).axis a = if a ∈ l then (s.axis a).halted else s.axis a := by
  have waits := foldl_axis (F := withdrawStep)
    (g := fun x => { x with phase := .atRest, target := x.position, next := none })
    (fun t b => axis_withAxis_same t b _) (fun t b c other => axis_withAxis_other t b c _ other) (waitingOf s l)
    (distinct.filter _) ((movingOf s l).foldl controlledStop s) a
  have moves := foldl_axis (F := controlledStop) (g := fun x => if x.phase = .waiting then x else x.halted)
    (fun t b => by
      by_cases w : (t.axis b).phase = .waiting
      · simp [controlledStop, w]
      · rw [controlledStop_eq t b w, axis_withAxis_same, if_neg w])
    (fun t b c other => by
      by_cases w : (t.axis b).phase = .waiting
      · simp [controlledStop, w]
      · rw [controlledStop_eq t b w, axis_withAxis_other _ _ _ _ other])
    (movingOf s l) (distinct.filter _) s a
  rw [stopsOf, waits, moves]
  simp only [mem_waitingOf, mem_movingOf]
  by_cases member : a ∈ l
  · by_cases w : (s.axis a).phase = .waiting
    · simp [member, w, AxisState.halted]
    · simp [member, w]
  · simp [member]

theorem stopsOf_dish (s : State) (a : Axis) :
    (stopsOf s dishAxes).axis a = if a = .mast then s.axis a else (s.axis a).halted := by
  rw [stopsOf_axis s dishAxes (by decide) a]
  by_cases mast : a = .mast <;> simp [mast, mem_dishAxes]

/-- What controlled stops of the dish make of the axes and the arbiter. -/
structure DishHalted (s u : State) : Prop where
  sound : requestsSound u
  dish : ∀ a, a ≠ .mast → u.axis a = (s.axis a).halted
  waits : ∀ q ∈ u.arb.waits, q.axis = .mast
  mast : (s.axis .mast).startedFrom .mast (u.axis .mast)

theorem controlledStops_halted (s : State) (sound : requestsSound s) : DishHalted s (controlledStops s dishAxes) := by
  have axis := stopsOf_dish s
  have waits := stopsOf_waits s dishAxes
  have unlocked : Axis.mast ∉ waitingOf s dishAxes := by
    rw [mem_waitingOf, mem_dishAxes]
    exact fun h => h.1 rfl
  rw [controlledStops_unlocked s dishAxes unlocked]
  set w := stopsOf s dishAxes with hw
  obtain ⟨waiting, distinct⟩ := sound
  have mastOnly : ∀ q ∈ w.arb.waits, q.axis = .mast ∧ (s.axis q.axis).phase = .waiting := fun q hq => by
    rw [waits, List.mem_filter, decide_eq_true_eq, mem_waitingOf, mem_dishAxes] at hq
    obtain ⟨member, other⟩ := hq
    exact ⟨by_contra fun dish => other ⟨dish, waiting q member⟩, waiting q member⟩
  have soundW : requestsSound w := by
    refine ⟨fun q hq => ?_, ?_⟩
    · obtain ⟨mast, phase⟩ := mastOnly q hq
      rw [axis, if_pos mast]
      exact phase
    · rw [waits]
      exact distinct.sublist (List.filter_sublist.map _)
  obtain ⟨-, made, left, started⟩ := grantCheck_made w soundW
  refine ⟨made, fun a dish => ?_, fun q hq => (mastOnly q (left q hq)).1, ?_⟩
  · have own := axis a
    rw [if_neg dish] at own
    rw [← own]
    refine (started a).settled ?_
    rw [own]
    cases phase : (s.axis a).phase <;> simp [AxisState.halted, phase]
  · have own := axis .mast
    rw [if_pos rfl] at own
    exact own ▸ started .mast

/-! ## The dish stands, and its goal NONE (R6) -/

/-- What a dish that stands leaves alone. -/
theorem dishStands_same (s : State) :
    let u := dishStands s
    u.axes = s.axes ∧ u.arb = s.arb ∧ u.mem = s.mem ∧ u.board = s.board ∧ u.swap = s.swap ∧ u.geo = s.geo := by
  unfold dishStands
  (repeat' split) <;> simp

theorem dishStands_ctl (s : State) :
    ∃ d x, (dishStands s).ctl = { s.ctl with dishState := d, dishShort := x } := by
  unfold dishStands
  split
  · exact ⟨s.ctl.dishState, none, rfl⟩
  split
  · exact ⟨restingDish s, none, by simp [State.withDishShort]⟩
  split
  · exact ⟨.parked, some .stop, by simp [State.withDishShort]⟩
  · exact ⟨s.ctl.dishState, some .stop, rfl⟩

/-- What a dish goal of NONE makes of the state. -/
structure GoalDropped (s u : State) : Prop where
  halted : requestsSound s → DishHalted s u
  stance : u.stance = { s.stance with dishGoal := .none }
  ctl : ∃ d x, u.ctl = { s.ctl with touchUpMark := false, signalLost := false, dishState := d, dishShort := x }
  search : u.level.search = s.level.search
  mem : u.mem = s.mem
  board : u.board = s.board
  swap : u.swap = s.swap

theorem requestsSound_congr {s u : State} (axes : u.axes = s.axes) (arb : u.arb = s.arb) (sound : requestsSound s) :
    requestsSound u := by
  simpa only [requestsSound, State.axis, axes, arb] using sound

theorem DishHalted.congr {s t u v : State} (h : DishHalted s u) (axes : t.axes = s.axes) (after : v.axes = u.axes)
    (arb : v.arb = u.arb) : DishHalted t v := by
  obtain ⟨sound, dish, waits, mast⟩ := h
  refine ⟨requestsSound_congr after arb sound, ?_, arb ▸ waits, ?_⟩
  · simpa only [State.axis, axes, after] using dish
  · simpa only [State.axis, axes, after] using mast

theorem dishToNone_dropped (s : State) : GoalDropped s (dishToNone s) := by
  have stops : onlyDrives (writeDishGoal s .none) (controlledStops (writeDishGoal s .none) dishAxes) :=
    aside_controlledStops ..
  have halts := controlledStops_halted (writeDishGoal s .none)
  have search := dishToNone_search s
  have stance := dishToNone_stance s
  have whole : dishToNone s = dishStands (controlledStops (writeDishGoal s .none) dishAxes) := rfl
  rw [whole] at search stance ⊢
  generalize controlledStops (writeDishGoal s .none) dishAxes = v at *
  obtain ⟨axes, arb, mem, board, swap, -⟩ := dishStands_same v
  obtain ⟨d, x, ctl⟩ := dishStands_ctl v
  refine ⟨fun sound => ?_, stance, ⟨d, x, ?_⟩, search, mem.trans stops.mem, board.trans stops.board, swap.trans stops.swap⟩
  · exact (halts (requestsSound_congr rfl rfl sound)).congr rfl axes arb
  · rw [ctl, stops.ctl]
    rfl

/-! ## The entry into HALTED (R25) -/

/-- The dish and the commands at the entry into HALTED, before the mast goal is fixed. -/
def haltStance (s0 : State) : State :=
  let s := swapEarlyEnd s0 .faulted
  let s1 := s.withCtl { s.ctl with
    returnMode := if s.ctl.mode = .recovery then .recovery else .normal, mode := .halted, upwardDue := false }
  dishToNone ((endWhere (stopSearch (controlledStops s1 dishAxes) .faulted false) (ofKinds stanceKinds) .faulted).withPeakPending
    false)

theorem enterHalted_eq (s : State) : enterHalted s = setEff (haltedGoal (haltStance s)) := rfl

/-- What an early end that a fault makes, if there is one, leaves of the rest. -/
structure FaultEnded (s u : State) : Prop where
  axes : u.axes = s.axes
  arb : u.arb = s.arb
  stance : u.stance = s.stance
  ctl : ∃ b, u.ctl = { s.ctl with resumeDue := b }
  idle : u.swap.phase = .idle
  wf : Memory.wf u.mem = true
  openSet : ∃ p : OpenCommand → Bool, u.board.openSet = s.board.openSet.filter (fun c => !p c) ∧
    ∀ c ∈ s.board.openSet, p c = true → Answered u c.slot Code.faulted.toNat

theorem swapEarlyEnd_faultEnded (s : State) (hw : Memory.wf s.mem = true) : FaultEnded s (swapEarlyEnd s .faulted) := by
  cases phase : s.swap.phase with
  | idle =>
    rw [swapEarlyEnd_idle s _ phase]
    exact ⟨rfl, rfl, rfl, ⟨s.ctl.resumeDue, rfl⟩, phase, hw, fun _ => false, by simp, fun _ _ h => by cases h⟩
  | quiesce =>
    obtain ⟨answered, swap, stance, ctl, axes, arb, -, openSet, -, wf⟩ := swapEarlyEnd_quiesce s .faulted phase hw
    refine ⟨axes, arb, stance, ⟨true, ctl⟩, by rw [swap], wf, fun c => c.slot == s.swap.slot, openSet, fun c _ own => ?_⟩
    rw [eq_of_beq own]
    exact answered

/-- What the entry into HALTED makes of the stance, the dish and the commands. -/
structure StanceHalted (s u : State) : Prop where
  mode : u.ctl.mode = .halted
  returnMode : u.ctl.returnMode = if s.ctl.mode = .recovery then .recovery else .normal
  upwardDue : u.ctl.upwardDue = false
  stance : u.stance = { s.stance with dishGoal := .none, peakPending := false }
  idle : u.swap.phase = .idle
  search : u.level.search = none
  dish : requestsSound s → ∀ a, a ≠ .mast → u.axis a = (s.axis a).halted.halted
  waits : requestsSound s → ∀ q ∈ u.arb.waits, q.axis = .mast
  mast : requestsSound s → (s.axis .mast).startedFrom .mast (u.axis .mast)
  sensed : (u.axis .mast).sensed = (s.axis .mast).sensed
  answered : (s.board.openSet.map (·.slot)).Nodup →
    ∀ c ∈ s.board.openSet, ofKinds stanceKinds c = true → Answered u c.slot Code.faulted.toNat
  left : (s.board.openSet.map (·.slot)).Nodup → ∀ c ∈ u.board.openSet, ofKinds stanceKinds c = false

/-- A search stopped with its outcome, and commands of some kinds ended after it. -/
def stopThenEnd (s : State) (o : SearchOutcome) (ks : List Kind) (code : Code) : State :=
  endWhere (stopSearch s o false) (ofKinds ks) code

/-- What that leaves alone. -/
theorem stopThenEnd_same (s : State) (o : SearchOutcome) (ks : List Kind) (code : Code) :
    let u := stopThenEnd s o ks code
    u.ctl = s.ctl ∧ u.axes = s.axes ∧ u.arb = s.arb ∧ u.swap = s.swap ∧ u.level.search = none ∧
      { u.stance with peakPending := false } = { s.stance with peakPending := false } := by
  obtain ⟨-, -, -, stance1, ctl1, -, level1, swap1, axes1, arb1, -⟩ := endWhere_same (stopSearch s o false) (ofKinds ks) code
  obtain ⟨-, -, -, -, ctl2, -, swap2, axes2, arb2, -⟩ := stopSearch_same s o false
  refine ⟨ctl1.trans ctl2, axes1.trans axes2, arb1.trans arb2, swap1.trans swap2, ?_, ?_⟩
  · rw [stopThenEnd, level1, stopSearch_search]
  · rw [stopThenEnd, stance1]
    exact stopSearch_stance s o false false

theorem stopThenEnd_answered (s : State) (o : SearchOutcome) (ks : List Kind) (code : Code)
    (hw : Memory.wf s.mem = true) :
    (∀ n, Answered s n code.toNat → Answered (stopThenEnd s o ks code) n code.toNat) ∧
    (∀ c ∈ s.board.openSet, ofKinds ks c = true → Answered (stopThenEnd s o ks code) c.slot code.toNat) ∧
    ((s.board.openSet.map (·.slot)).Nodup →
      ∀ c ∈ (stopThenEnd s o ks code).board.openSet, ofKinds ks c = false) := by
  obtain ⟨f, told, hf⟩ := stopSearch_openSet s o false
  obtain ⟨-, mem, -, -, -, -, -, -, -, -, -, -, -, -, notice, -⟩ := stopSearch_same s o false
  have wf : Memory.wf (stopSearch s o false).mem = true := mem ▸ hw
  refine ⟨fun n before => ?_, fun c hc kind => ?_, fun slots c hc => ?_⟩
  · refine answered_endWhere _ _ code n wf ?_
    simpa only [Answered, mem, notice] using before
  · have ended := (endWhere_ended (stopSearch s o false) (ofKinds ks) code wf).1 (f c)
      (told ▸ List.mem_map_of_mem hc) (by rw [ofKinds_told hf, kind])
    exact (hf c).1 ▸ ended
  · have toldSlots : ((stopSearch s o false).board.openSet.map (·.slot)).Nodup := by
      rw [told, map_slot_told hf]
      exact slots
    rw [stopThenEnd, endWhere_openSet _ _ _ toldSlots] at hc
    simpa using List.of_mem_filter hc

theorem haltStance_halted (s : State) (hw : Memory.wf s.mem = true) : StanceHalted s (haltStance s) := by
  have sensed : (haltStance s).kept = s.kept := by simp [haltStance]
  obtain ⟨axes0, arb0, stance0, ⟨due, ctl0⟩, idle0, wf0, p, open0, answered0⟩ := swapEarlyEnd_faultEnded s hw
  have whole : haltStance s = (let v := swapEarlyEnd s .faulted
      let v1 := v.withCtl { v.ctl with
        returnMode := if v.ctl.mode = .recovery then .recovery else .normal, mode := .halted, upwardDue := false }
      dishToNone ((stopThenEnd (controlledStops v1 dishAxes) .faulted stanceKinds .faulted).withPeakPending false)) := rfl
  rw [whole] at sensed ⊢
  generalize swapEarlyEnd s .faulted = v at *
  simp only [ctl0] at sensed ⊢
  set v1 := v.withCtl { s.ctl with
    resumeDue := due, returnMode := if s.ctl.mode = .recovery then .recovery else .normal, mode := .halted,
    upwardDue := false } with hv1
  have drives2 : onlyDrives v1 (controlledStops v1 dishAxes) := aside_controlledStops ..
  have halts2 := controlledStops_halted v1
  generalize controlledStops v1 dishAxes = v2 at *
  obtain ⟨ctl3, axes3, arb3, swap3, search3, stance3⟩ := stopThenEnd_same v2 .faulted stanceKinds .faulted
  obtain ⟨keeps3, answered3, left3⟩ := stopThenEnd_answered v2 .faulted stanceKinds .faulted (drives2.mem ▸ wf0)
  generalize stopThenEnd v2 .faulted stanceKinds .faulted = v3 at *
  obtain ⟨halts4, stance4, ⟨d, x, ctl4⟩, search4, mem4, board4, swap4⟩ := dishToNone_dropped (v3.withPeakPending false)
  generalize dishToNone (v3.withPeakPending false) = u at *
  have ctl : u.ctl = { v1.ctl with touchUpMark := false, signalLost := false, dishState := d, dishShort := x } := by
    rw [ctl4, withPeakPending_ctl, ctl3, drives2.ctl]
  have halted2 : requestsSound s → DishHalted v1 v2 := fun sound => halts2 (requestsSound_congr axes0 arb0 sound)
  have halted4 : requestsSound s → DishHalted (v3.withPeakPending false) u := fun sound =>
    halts4 (requestsSound_congr axes3 arb3 (halted2 sound).sound)
  have before : ∀ a, v1.axis a = s.axis a := fun a => congrArg (Axes.get · a) axes0
  have between : ∀ a, (v3.withPeakPending false).axis a = v2.axis a := fun a => congrArg (Axes.get · a) axes3
  have boards : v2.board = v.board := drives2.board
  have answered : ∀ n, Answered v3 n Code.faulted.toNat → Answered u n Code.faulted.toNat := fun n h => by
    unfold Answered
    rw [mem4, board4]
    exact h
  refine ⟨by simp [ctl, hv1], by simp [ctl, hv1], by simp [ctl, hv1], ?_, ?_, search4.trans search3,
    fun sound a dish => ?_, fun sound => ?_,
    fun sound => ?_, ?_, fun slots c hc kind => ?_, fun slots => ?_⟩
  · have stance1 : v2.stance = s.stance := drives2.stance.trans stance0
    have pending : (v3.withPeakPending false).stance = { s.stance with peakPending := false } := by
      rw [← stance1]
      exact stance3
    rw [stance4, pending]
  · rw [swap4]
    show v3.swap.phase = .idle
    rw [swap3, drives2.swap]
    exact idle0
  · rw [(halted4 sound).dish a dish, between, (halted2 sound).dish a dish, before]
  · exact (halted4 sound).waits
  · have first := (halted2 sound).mast
    rw [before] at first
    have second := (halted4 sound).mast
    rw [between] at second
    exact first.trans second
  · exact congrArg Kept.mast sensed
  · cases early : p c with
    | true =>
      have told : Answered v2 c.slot Code.faulted.toNat := by
        unfold Answered
        rw [drives2.mem, boards]
        exact answered0 c hc early
      exact answered _ (keeps3 _ told)
    | false =>
      have stays : c ∈ v2.board.openSet := by
        rw [boards, open0, List.mem_filter]
        exact ⟨hc, by rw [early]; rfl⟩
      exact answered _ (answered3 c stays kind)
  · have slots2 : (v2.board.openSet.map (·.slot)).Nodup := by
      rw [boards, open0]
      exact slots.sublist (List.filter_sublist.map _)
    rw [board4]
    exact left3 slots2

/-- The mast goal at the entry into HALTED (R25, step 6). -/
theorem haltedGoal_never (s : State) (h : s.axes.mast.everValid = false) :
    haltedGoal s = s.withCtl { s.ctl with goalOnReturn := true, goalAtRest := none } := by
  simp only [haltedGoal, h]
  rfl

theorem haltedGoal_moving (s : State) (h : s.axes.mast.everValid = true) (moving : s.axes.mast.inMove = true) :
    haltedGoal s = s.withCtl { s.ctl with goalAtRest := some .halted } := by
  simp only [haltedGoal, h, moving]
  rfl

theorem haltedGoal_rest (s : State) (h : s.axes.mast.everValid = true) (rest : s.axes.mast.inMove = false) :
    haltedGoal s = s.restedAt (adoptedHeight (haltedExtension s)) := by
  simp only [haltedGoal, h, rest]
  rfl

/-- What the fixing of the mast goal leaves alone. -/
theorem haltedGoal_same (s : State) :
    let u := haltedGoal s
    u.axes = s.axes ∧ u.arb = s.arb ∧ u.swap = s.swap ∧ u.level = s.level ∧ u.mem = s.mem ∧ u.board = s.board ∧
      u.ctl.mode = s.ctl.mode ∧ u.ctl.returnMode = s.ctl.returnMode ∧ u.ctl.upwardDue = s.ctl.upwardDue ∧
      u.stance.dishGoal = s.stance.dishGoal ∧ u.stance.peakPending = s.stance.peakPending ∧
      u.stance.site = s.stance.site := by
  unfold haltedGoal
  (repeat' split) <;> simp [State.withGoalAtRest, State.withMastGoal]

/-- A controlled stop made twice is made once (R105). -/
theorem halted_twice (x : AxisState) :
    (x.phase = .driving → x.halted.halted = { x with
      phase := .stopping, deadline := none, arrived := false, stop := some .controlled, next := none }) ∧
    (x.phase = .waiting → x.halted.halted.phase = .atRest ∧ x.halted.halted.target = x.position) := by
  constructor <;> intro phase <;> simp [AxisState.halted, phase]

/-! ## Bytes read back (R154, R89) -/

theorem readBytes_congr {m m' : Memory} {a n : Nat} (same : ∀ k < n, read8 m' (a + k) = read8 m (a + k)) :
    readBytes m' a n = readBytes m a n := by
  induction n generalizing a with
  | zero => rfl
  | succ n ih =>
    have rest : readBytes m' (a + 1) n = readBytes m (a + 1) n := ih fun k hk => by
      simpa only [Nat.add_assoc, Nat.add_comm 1 k] using same (k + 1) (by omega)
    have first := same 0 (by omega)
    rw [Nat.add_zero] at first
    rw [readBytes, readBytes, rest, first]

/-- Bytes stored read back. -/
theorem readBytes_writeBytes (bs : List Byte) (m : Memory) (a : Nat) (hw : Memory.wf m = true) :
    readBytes (writeBytes m a bs) a bs.length = bs := by
  have read : ∀ (cs : List Byte) (m : Memory) (b : Nat),
      (∀ k (hk : k < cs.length), read8 m (b + k) = cs[k]) → readBytes m b cs.length = cs := by
    intro cs
    induction cs with
    | nil => exact fun _ _ _ => rfl
    | cons c cs ih =>
      intro m b there
      have rest : readBytes m (b + 1) cs.length = cs := ih m (b + 1) fun k hk => by
        have next := there (k + 1) (by simpa using hk)
        rw [List.getElem_cons_succ] at next
        rw [Nat.add_assoc, Nat.add_comm 1 k]
        exact next
      have first := there 0 (by simp)
      rw [List.length_cons, readBytes, rest, ← Nat.add_zero b, first]
      rfl
  exact read bs _ a fun k hk => read8_writeBytes bs m a k hw hk

/-- A site record rests on its own 64 bytes. -/
theorem readSite_congr {m m' : Memory} {n : Nat} (same : ∀ k < 64, read8 m' (siteAddr n + k) = read8 m (siteAddr n + k)) :
    readSite m' n = readSite m n := by
  have u8 : ∀ k < 64, readU8 m' (siteAddr n + k) = readU8 m (siteAddr n + k) := fun k hk => by
    rw [readU8, readU8, same k hk]
  have u16 : ∀ k < 63, readU16 m' (siteAddr n + k) = readU16 m (siteAddr n + k) := fun k hk => by
    rw [readU16, readU16, u8 k (by omega), Nat.add_assoc, u8 (k + 1) (by omega)]
  have u32 : ∀ k < 61, readU32 m' (siteAddr n + k) = readU32 m (siteAddr n + k) := fun k hk => by
    rw [readU32, readU32, u16 k (by omega), Nat.add_assoc, u16 (k + 2) (by omega)]
  have zeros : ∀ k c, k + c ≤ 64 → zeroBytes m' (siteAddr n + k) c = zeroBytes m (siteAddr n + k) c := fun k c hk => by
    have bytes : readBytes m' (siteAddr n + k) c = readBytes m (siteAddr n + k) c :=
      readBytes_congr fun j hj => by rw [Nat.add_assoc, same (k + j) (by omega)]
    rw [zeroBytes, zeroBytes, bytes]
  have first := u8 0 (by omega)
  rw [Nat.add_zero] at first
  simp only [readSite, readS16, readS32, first, u8 1 (by omega), u32 4 (by omega), u32 8 (by omega), u32 12 (by omega),
    u16 16 (by omega), u16 18 (by omega), zeros 2 2 (by omega), zeros 20 12 (by omega), zeros 48 16 (by omega)]

/-! ## The write-out and the load (R89, R90) -/

theorem packageBytes_length (st : Stance) (t : Trim) (savedAt : Nat) : (packageBytes st t savedAt).length = 128 :=
  padBytes_length ..

theorem writeOut_mem (s : State) : (writeOut s).mem =
    writeBytes s.mem (packageAddr s.swap.number) (packageBytes s.stance (outgoingTrim s) s.geo.fixGen) := by
  rw [writeOut, withMem_mem]

theorem writeOut_same (s : State) : let u := writeOut s
    u.stance = s.stance ∧ u.ctl = s.ctl ∧ u.geo = s.geo ∧ u.swap = s.swap ∧ u.axes = s.axes ∧ u.board = s.board := by
  simp [writeOut]

theorem packageAddr_eq (n : Nat) : packageAddr n = 3072 + 128 * n := rfl

theorem siteAddr_eq (n : Nat) : siteAddr n = 1024 + 64 * n := rfl

theorem writeOut_wf (s : State) (hw : Memory.wf s.mem = true) : Memory.wf (writeOut s).mem = true := by
  rw [writeOut_mem]
  exact writeBytes_wf _ _ _ hw

/-- The write-out stores nothing below the packages. -/
theorem writeOut_below (s : State) (a : Nat) (below : a < 3072) : read8 (writeOut s).mem a = read8 s.mem a := by
  have addr := packageAddr_eq s.swap.number
  rw [writeOut_mem]
  exact read8_writeBytes_other _ _ _ _ (.inl (by omega))

theorem writeOut_site (s : State) (site : Nat) (inTable : site < 32) :
    readSite (writeOut s).mem site = readSite s.mem site := by
  refine readSite_congr fun k hk => writeOut_below s _ ?_
  have addr := siteAddr_eq site
  omega

theorem resultByte_below {n : Slot} {a : Nat} (h : resultByte n a) : a < 3072 := by
  have slot : slotAddr n = 256 + 64 * n.val := rfl
  have := n.isLt
  unfold resultByte at h
  omega

/-- The check of an AIM rests on the site records and the fix (R34). -/
theorem aimCheck_congr {s u : State} (site : Nat) (record : site < 32 → readSite u.mem site = readSite s.mem site)
    (fix : u.geo.fix = s.geo.fix) : aimCheck u site = aimCheck s site := by
  by_cases inTable : site < 32
  · rw [aimCheck, aimCheck, record inTable, fix]
  · have beyond : 32 ≤ site := not_lt.mp inTable
    simp [aimCheck, beyond]

theorem aimCheck_beyond (s : State) (site : Nat) (beyond : siteOfByte site = none) : (aimCheck s site).isSome = true := by
  have out : 32 ≤ site := by
    by_contra inTable
    simp [siteOfByte, not_le.mp inTable] at beyond
  simp [aimCheck, out]

/-- What the load of a package leaves of the rest of the module. -/
structure Loaded (w u : State) : Prop where
  goalAtRest : u.ctl.goalAtRest = none
  touchUpMark : u.ctl.touchUpMark = false
  signalLost : u.ctl.signalLost = false
  mode : u.ctl.mode = w.ctl.mode
  watch : u.level.watch = none
  board : u.board = w.board
  mem : u.mem = w.mem
  swap : u.swap = w.swap
  axes : u.axes = w.axes
  fix : u.geo.fix = w.geo.fix

theorem loadStance_loaded (w : State) (p : Package) :
    Loaded w (loadStance w p) ∧ (loadStance w p).stance = p.stance := by
  refine ⟨⟨?_, ?_, ?_, ?_, ?_, ?_, ?_, ?_, ?_, ?_⟩, ?_⟩ <;> simp [loadStance, State.withGoalAtRest]

theorem Loaded.adoptTrims {w u : State} (h : Loaded w u) (p : Package) :
    Loaded w (adoptTrims u p) ∧ (adoptTrims u p).stance = u.stance := by
  obtain ⟨goalAtRest, touchUpMark, signalLost, mode, watch, board, mem, swap, axes, fix⟩ := id h
  unfold Machine.adoptTrims
  split
  · exact ⟨h, rfl⟩
  · exact ⟨⟨goalAtRest, touchUpMark, signalLost, mode, watch, board, mem, swap, axes, fix⟩, rfl⟩

theorem Loaded.served {w u : State} (h : Loaded w u) (site : Fin 32) :
    Loaded w (deriveSite (obtainSolution u site)) ∧ (deriveSite (obtainSolution u site)).stance = u.stance := by
  obtain ⟨goalAtRest, touchUpMark, signalLost, mode, watch, board, mem, swap, axes, fix⟩ := id h
  have obtained : Loaded w (obtainSolution u site) ∧ (obtainSolution u site).stance = u.stance := by
    unfold obtainSolution
    split
    · exact ⟨h, rfl⟩
    · exact ⟨⟨goalAtRest, touchUpMark, signalLost, mode, watch, board, mem, swap, axes, fix⟩, rfl⟩
  generalize obtainSolution u site = v at obtained
  obtain ⟨⟨goalAtRest, touchUpMark, signalLost, mode, watch, board, mem, swap, axes, fix⟩, stance⟩ := obtained
  unfold deriveSite
  simp only []
  split
  · exact ⟨⟨goalAtRest, touchUpMark, signalLost, mode, watch, board, mem, swap, axes, fix⟩, stance⟩
  · exact ⟨⟨goalAtRest, touchUpMark, signalLost, mode, watch, board, mem, swap, axes, fix⟩, stance⟩

theorem Loaded.serveSite {w u : State} (h : Loaded w u) (p : Package) :
    Loaded w (serveSite u p).1 ∧ (serveSite u p).1.stance =
      if p.dishGoal = 2 ∧ (aimCheck u p.site).isSome = true then { u.stance with dishGoal := .none, peakPending := false }
      else u.stance := by
  have given : Loaded w ((writeDishGoal u .none).withPeakPending false) := by
    obtain ⟨goalAtRest, touchUpMark, signalLost, mode, watch, board, mem, swap, axes, fix⟩ := h
    exact ⟨goalAtRest, rfl, rfl, mode, watch, board, mem, swap, axes, fix⟩
  unfold Machine.serveSite
  by_cases goal : p.dishGoal = 2
  · simp only [goal, ne_eq, not_true_eq_false, if_false, true_and]
    cases live : siteOfByte p.site with
    | none =>
      have barred := aimCheck_beyond u p.site live
      exact ⟨given, by simp [barred]⟩
    | some n =>
      cases check : aimCheck u p.site with
      | none => exact h.served n
      | some code => exact ⟨given, by simp⟩
  · simp only [goal, ne_eq, not_false_eq_true, if_true, false_and, if_false]
    exact ⟨h, trivial⟩

/-- The package served at a load, before its commands end. -/
def servedLoad (w : State) : State :=
  (serveSite (adoptTrims (loadStance w w.swap.snapshot) w.swap.snapshot) w.swap.snapshot).1

theorem servedLoad_loaded (w : State) :
    let p := w.swap.snapshot
    Loaded w (servedLoad w) ∧ (servedLoad w).stance =
      if p.dishGoal = 2 ∧ (aimCheck w p.site).isSome = true then { p.stance with dishGoal := .none, peakPending := false }
      else p.stance := by
  intro p
  obtain ⟨loaded, stance⟩ := loadStance_loaded w p
  obtain ⟨adopted, adoptedStance⟩ := loaded.adoptTrims p
  obtain ⟨served, servedStance⟩ := adopted.serveSite p
  have check : aimCheck (adoptTrims (loadStance w p) p) p.site = aimCheck w p.site :=
    aimCheck_congr p.site (fun _ => by rw [adopted.mem]) adopted.fix
  rw [check, adoptedStance, stance] at servedStance
  exact ⟨served, servedStance⟩

/-- The load, its commands ended and its SWAP completed, before the stance is driven. -/
def loadedState (w : State) : State :=
  let p := w.swap.snapshot
  let r := serveSite (adoptTrims (loadStance w p) p) p
  let v := endWhere (servedLoad w) (ofKinds stanceKinds) .swappedOut
  let data := leBytes 1 (siteByte w.stance.site) ++ leBytes 1 p.site ++ flagByte (adopted (loadStance w p) p) ++
    leBytes 1 r.2.2
  let u := completeSwap v v.swap.slot .ok r.2.1 data
  u.withSwap { u.swap with phase := .idle }

/-- The first byte of the result data of a SWAP. -/
theorem completeSwap_firstByte (s : State) (n : Slot) (code : Code) (w : Warnings) (tail : List Byte) (b : Nat)
    (small : b < 256) (hw : Memory.wf s.mem = true) :
    readU8 (completeSwap s n code w (BitVec.ofNat 8 b :: tail)).mem (slotAddr n + 40) = b := by
  have stored := writeResult_data (closeSlot s n) n code w (BitVec.ofNat 8 b :: tail) hw 0 (by simp)
  have first : (padBytes 24 (BitVec.ofNat 8 b :: tail))[0]'(by simp) = BitVec.ofNat 8 b := rfl
  rw [first, Nat.add_zero] at stored
  rw [readU8, completeSwap, stored, BitVec.toNat_ofNat]
  omega

theorem siteByte_lt (site : Option (Fin 32)) : siteByte site < 256 := by
  cases site with
  | none => decide
  | some n => exact lt_trans n.isLt (by decide)

/-- What the load has made, when the stance is driven. -/
structure SwapLoaded (w u : State) : Prop where
  swap : u.swap = { w.swap with phase := .idle }
  stance : u.stance = (servedLoad w).stance
  loaded : u.ctl = (servedLoad w).ctl ∧ u.level = (servedLoad w).level ∧ u.axes = (servedLoad w).axes ∧
    u.geo = (servedLoad w).geo
  answered : Answered u w.swap.slot Code.ok.toNat
  outgoing : readU8 u.mem (slotAddr w.swap.slot + 40) = siteByte w.stance.site
  ended : ∀ c ∈ w.board.openSet, ofKinds stanceKinds c = true → c.slot ≠ w.swap.slot →
    Answered u c.slot Code.swappedOut.toNat
  left : ∀ c ∈ u.board.openSet, ofKinds stanceKinds c = false
  others : ∀ a, (∀ n, ¬ resultByte n a) → read8 u.mem a = read8 w.mem a

theorem loadedState_loaded (w : State) (hw : Memory.wf w.mem = true) (hs : (w.board.openSet.map (·.slot)).Nodup) :
    SwapLoaded w (loadedState w) := by
  obtain ⟨served, -⟩ := servedLoad_loaded w
  have only := endWhere_onlyEnded (servedLoad w) (ofKinds stanceKinds) .swappedOut (served.mem ▸ hw) (served.board ▸ hs)
  have swap : (endWhere (servedLoad w) (ofKinds stanceKinds) .swappedOut).swap = w.swap := by
    obtain ⟨-, -, -, swap, -⟩ := id only.drives
    exact swap.trans served.swap
  have axes : (endWhere (servedLoad w) (ofKinds stanceKinds) .swappedOut).axes = (servedLoad w).axes := by
    obtain ⟨-, -, -, -, axes, -⟩ := id only.drives
    exact axes
  unfold loadedState
  simp only []
  generalize endWhere (servedLoad w) (ofKinds stanceKinds) .swappedOut = v at *
  rw [swap]
  obtain ⟨ended, openSet, stance, ctl, geo, level, -, -, -, -, wf⟩ := only
  generalize (serveSite (adoptTrims (loadStance w w.swap.snapshot) w.swap.snapshot) w.swap.snapshot).2 = r
  set data := leBytes 1 (siteByte w.stance.site) ++ leBytes 1 w.swap.snapshot.site ++
    flagByte (adopted (loadStance w w.swap.snapshot) w.swap.snapshot) ++ leBytes 1 r.2 with hdata
  have answered := completeSwap_answered v w.swap.slot .ok r.1 data wf
  have out : readU8 (completeSwap v w.swap.slot .ok r.1 data).mem (slotAddr w.swap.slot + 40) = siteByte w.stance.site :=
    completeSwap_firstByte v w.swap.slot .ok r.1 _ (siteByte w.stance.site) (siteByte_lt _) wf
  have keeps := fun m k => completeSwap_keeps v m w.swap.slot .ok r.1 data k
  have other := completeSwap_other v w.swap.slot .ok r.1 data
  obtain ⟨stance', ctl', geo', level', drives', openSet'⟩ := completeSwap_same v w.swap.slot .ok r.1 data
  generalize completeSwap v w.swap.slot .ok r.1 data = u at *
  obtain ⟨-, -, -, swap', axes', -⟩ := id drives'
  refine ⟨?_, stance'.trans stance, ⟨ctl'.trans ctl, level'.trans level, axes'.trans axes, geo'.trans geo⟩, answered, out,
    fun c hc kind apart => ?_, fun c hc => ?_, fun a plain => ?_⟩
  · rw [withSwap_swap, swap', swap]
  · exact keeps c.slot _ (Ne.symm apart) (ended.1 c (served.board ▸ hc) kind)
  · rw [withSwap_board, openSet', openSet] at hc
    simpa using List.of_mem_filter (List.mem_of_mem_filter hc)
  · rw [withSwap_mem, other a (plain _), ended.2 a fun c _ _ => plain c.slot, served.mem]

end Sys2Proof.Machine

open Sys2Proof Sys2Proof.Machine

/-- The eleventh part of O20: the early end of an exchange (R92, R93). -/
theorem swapEarlyEnd_rule (s : State) (code : Code) : (s.swap.phase = .idle → swapEarlyEnd s code = s) ∧
    (s.swap.phase = .quiesce → Memory.wf s.mem = true →
      let u := swapEarlyEnd s code
      Answered u s.swap.slot code.toNat ∧ u.swap = { s.swap with phase := .idle } ∧ u.stance = s.stance ∧
      u.ctl = { s.ctl with resumeDue := true } ∧ u.axes = s.axes ∧
      u.level = (if s.ctl.dishState = .locked ∧ s.stance.watch = true then { s.level with watch := some 0 }
        else s.level) ∧
      u.board.openSet = s.board.openSet.filter (fun c => c.slot != s.swap.slot) ∧
      ∀ a, ¬ resultByte s.swap.slot a → read8 u.mem a = read8 s.mem a) := by
  refine ⟨swapEarlyEnd_idle s code, fun quiesce hw => ?_⟩
  obtain ⟨answered, swap, stance, ctl, axes, -, level, openSet, others, -⟩ := swapEarlyEnd_quiesce s code quiesce hw
  exact ⟨answered, swap, stance, ctl, axes, level, openSet, others⟩

/-- The tenth part: the entry into HALTED (R25). -/
theorem enterHalted_rule (s : State) (sound : Sound s) (requests : requestsSound s) :
    let u := enterHalted s
    u.ctl.mode = .halted ∧ u.ctl.returnMode = (if s.ctl.mode = .recovery then .recovery else .normal) ∧
    u.stance.dishGoal = .none ∧ u.stance.peakPending = false ∧ u.stance.site = s.stance.site ∧ u.swap.phase = .idle ∧
    u.level.search = none ∧ (s.axes.mast.phase ≠ .waiting → u.axes.mast = s.axes.mast) ∧
    (∀ a, a ≠ .mast → controlledStopMade s u a) ∧
    (s.axes.mast.everValid = true → s.axes.mast.inMove = false →
      u.stance.mastGoal = max 0 (min 15000 (if s.axes.mast.encValid then extension s else s.axes.mast.lastValid))) ∧
    u.ctl.upwardDue = false ∧
    (s.axes.mast.everValid = true → s.axes.mast.inMove = true →
      u.ctl.goalAtRest = some .halted ∧ u.stance.mastGoal = s.stance.mastGoal) ∧
    (s.axes.mast.everValid = false → u.ctl.goalOnReturn = true ∧ u.stance.mastGoal = s.stance.mastGoal) ∧
    (∀ c ∈ s.board.openSet, ofKinds stanceKinds c = true → Answered u c.slot 18) ∧
    ∀ c ∈ u.board.openSet, ofKinds stanceKinds c = false := by
  obtain ⟨hw, -, hs, -⟩ := sound
  obtain ⟨mode, returnMode, upwardDue, stance, idle, search, dish, waits, mast, sensed, answered, left⟩ :=
    haltStance_halted s hw
  rw [enterHalted_eq]
  generalize haltStance s = v at *
  have started := mast requests
  have inMove : v.axes.mast.inMove = s.axes.mast.inMove := started.inMove
  obtain ⟨position, encValid, everValid, lastValid⟩ : v.axes.mast.position = s.axes.mast.position ∧
      v.axes.mast.encValid = s.axes.mast.encValid ∧ v.axes.mast.everValid = s.axes.mast.everValid ∧
      v.axes.mast.lastValid = s.axes.mast.lastValid := by
    have shown : (v.axes.mast.position, v.axes.mast.encValid, v.axes.mast.everValid, v.axes.mast.lastValid) =
        (s.axes.mast.position, s.axes.mast.encValid, s.axes.mast.everValid, s.axes.mast.lastValid) := sensed
    simpa only [Prod.mk.injEq] using shown
  have goal : v.stance.mastGoal = s.stance.mastGoal := by rw [stance]
  obtain ⟨axes', arb', swap', level', mem', board', mode', return', upward', dishGoal', pending', site'⟩ := haltedGoal_same v
  refine ⟨mode'.trans mode, return'.trans returnMode, ?_, ?_, ?_, ?_, ?_, fun still => ?_, fun a other => ?_,
    fun ever rest => ?_, upward'.trans upwardDue, fun ever moving => ?_, fun never => ?_, fun c hc kind => ?_,
    fun c hc => ?_⟩
  · rw [setEff_stance, dishGoal', stance]
  · rw [setEff_stance, pending', stance]
  · rw [setEff_stance, site', stance]
  · rw [setEff_swap, swap', idle]
  · rw [setEff_level, level', search]
  · rw [setEff_axes, axes']
    exact started.settled still
  · have axis : (setEff (haltedGoal v)).axis a = (s.axis a).halted.halted := by
      rw [← dish requests a other]
      exact congrArg (Axes.get · a) axes'
    obtain ⟨driving, waiting⟩ := halted_twice (s.axis a)
    refine ⟨fun phase => axis.trans (driving phase), fun phase _ => ?_⟩
    rw [axis]
    obtain ⟨rest, target⟩ := waiting phase
    refine ⟨rest, target, fun q hq => ?_⟩
    rw [setEff_arb, arb'] at hq
    rw [waits requests q hq]
    exact Ne.symm other
  · rw [setEff_stance, haltedGoal_rest v (everValid.trans ever) (inMove.trans rest)]
    show adoptedHeight (haltedExtension v) = _
    rw [adoptedHeight_eq, haltedExtension, extension, extension, encValid, position, lastValid]
  · have fixed := haltedGoal_moving v (everValid.trans ever) (inMove.trans moving)
    rw [setEff_ctl, setEff_stance, fixed]
    exact ⟨rfl, goal⟩
  · have fixed := haltedGoal_never v (everValid.trans never)
    rw [setEff_ctl, setEff_stance, fixed]
    exact ⟨rfl, goal⟩
  · have told := answered hs c hc kind
    unfold Answered at told ⊢
    rw [setEff_mem, setEff_board, mem', board']
    exact told
  · rw [setEff_board, board'] at hc
    exact left hs c hc

/-- The twelfth part: the end of a quiesce that is complete (R87, R89, R90). -/
theorem quiesceEnd_rule (s : State) (sound : Sound s) (quiesce : s.swap.phase = .quiesce) (_number : s.swap.number < 4)
    (own : ∀ c ∈ s.board.openSet, c.slot = s.swap.slot → c.kind = .swap) :
    let p := s.swap.snapshot
    let refused := p.dishGoal = 2 ∧ (aimCheck s p.site).isSome = true
    let stance := p.stance
    (allQuiet s = false → quiesceEnd s = s) ∧
    (allQuiet s = true → ∃ u, quiesceEnd s = driveStance u ∧ u.swap = { s.swap with phase := .idle } ∧
      u.stance = (if refused then { stance with dishGoal := .none, peakPending := false } else stance) ∧
      readBytes u.mem (packageAddr s.swap.number) 128 = packageBytes s.stance (outgoingTrim s) s.geo.fixGen ∧
      Answered u s.swap.slot 0 ∧ readU8 u.mem (slotAddr s.swap.slot + 40) = siteByte s.stance.site ∧
      (∀ c ∈ s.board.openSet, ofKinds stanceKinds c = true → Answered u c.slot 17) ∧
      (∀ c ∈ u.board.openSet, ofKinds stanceKinds c = false) ∧ u.ctl.goalAtRest = none ∧ u.level.watch = none ∧
      u.ctl.touchUpMark = false ∧ u.ctl.signalLost = false ∧ u.ctl.mode = s.ctl.mode ∧ u.axes = s.axes ∧
      u.geo.fix = s.geo.fix) := by
  intro p refused stance
  obtain ⟨hw, -, hs, -⟩ := sound
  refine ⟨fun noisy => ?_, fun quiet => ?_⟩
  · simp [quiesceEnd, noisy]
  obtain ⟨stanceW, ctlW, geoW, swapW, axesW, boardW⟩ := writeOut_same s
  have wf := writeOut_wf s hw
  have sites := writeOut_site s
  have stored := writeOut_mem s
  have ends : quiesceEnd s = driveStance (loadedState (writeOut s)) := if_pos ⟨quiesce, quiet⟩
  rw [ends]
  generalize writeOut s = w at *
  have load := loadedState_loaded w wf (boardW ▸ hs)
  obtain ⟨served, servedStance⟩ := servedLoad_loaded w
  have check : aimCheck w p.site = aimCheck s p.site := aimCheck_congr p.site (sites p.site) (by rw [geoW])
  have package : readBytes w.mem (packageAddr s.swap.number) 128 = packageBytes s.stance (outgoingTrim s) s.geo.fixGen := by
    have read := readBytes_writeBytes (packageBytes s.stance (outgoingTrim s) s.geo.fixGen) s.mem
      (packageAddr s.swap.number) hw
    rwa [packageBytes_length, ← stored] at read
  obtain ⟨swap, stance', ⟨ctl, level, axes, geo⟩, answered, outgoing, ended, left, others⟩ := load
  rw [swapW] at swap answered outgoing ended servedStance
  generalize loadedState w = u at *
  refine ⟨u, rfl, swap, ?_, ?_, answered, stanceW ▸ outgoing, fun c hc kind => ?_, left, ?_, ?_, ?_, ?_, ?_, ?_, ?_⟩
  · rw [stance', servedStance, check]
  · rw [← package]
    refine readBytes_congr fun k _ => others _ fun n byte => ?_
    have below := resultByte_below byte
    have addr := packageAddr_eq s.swap.number
    omega
  · refine ended c (boardW ▸ hc) kind fun same => ?_
    have swapKind := own c hc same
    rw [ofKinds, swapKind] at kind
    cases kind
  · rw [ctl, served.goalAtRest]
  · rw [level, served.watch]
  · rw [ctl, served.touchUpMark]
  · rw [ctl, served.signalLost]
  · rw [ctl, served.mode, ctlW]
  · rw [axes, served.axes, axesW]
  · rw [geo, served.fix, geoW]

/-- Settles O20, by its parts. -/
theorem eventEnds : Obligations.EventEnds :=
  ⟨endEvent_rule, mastRest_rule, dishRest_rule, resumeStance_rule, completeOpen_rule, completeOpen_quiesce, arriveSite_rule,
    arrivePoint_rule, forcedStowEnd_rule, enterHalted_rule, swapEarlyEnd_rule, quiesceEnd_rule⟩

end

section
/-! PROOFS. The stops and the ended commands of a HALT (R21): the first half of O11. -/
namespace Sys2Proof.Machine

/-! ## Every axis stopped (R105, R107) -/

/-- No axis is started where no request waits. -/
theorem grantCheck_idle (s : State) (h : s.arb.waits = []) : grantCheck s = s := by
  rw [grantCheck, h]
  rfl

/-- A mast in its move stays in it at a grant check. -/
theorem grantLoop_mastMoves (l : List Request) (s : State) (h : s.axes.mast.inMove = true) :
    (grantLoop l s).axes.mast.inMove = true := by
  induction l generalizing s with
  | nil => exact h
  | cons r l ih =>
    rw [grantLoop]
    split
    · refine ih _ ?_
      cases axis : r.axis with
      | mast =>
        rw [grantHead, axis, startGranted]
        split <;> rfl
      | pan => rw [grantHead, axis]; exact h
      | tilt => rw [grantHead, axis]; exact h
      | pol => rw [grantHead, axis]; exact h
    · exact h

/-- What controlled stops of every axis make of the axes and the arbiter. -/
structure AllHalted (s u : State) : Prop where
  dish : ∀ a, a ≠ .mast → u.axis a = (s.axis a).halted
  waits : u.arb.waits = []
  mast : (s.axis .mast).phase ≠ .waiting → u.axis .mast = (s.axis .mast).halted

/-- The lock is the mast's own. -/
theorem engageLock_dish (s : State) (x : AxisState) (a : Axis) (dish : a ≠ .mast) :
    (engageLock (s.withAxis .mast x) false).axis a = s.axis a := by
  cases a with
  | mast => exact absurd rfl dish
  | pan => rfl
  | tilt => rfl
  | pol => rfl

theorem mem_allAxes (a : Axis) : a ∈ allAxes := by
  cases a <;> decide

theorem stopsOf_all (s : State) (a : Axis) : (stopsOf s allAxes).axis a = (s.axis a).halted := by
  rw [stopsOf_axis s allAxes (by decide) a, if_pos (mem_allAxes a)]

theorem stopsOf_all_waits (s : State) (sound : requestsSound s) : (stopsOf s allAxes).arb.waits = [] := by
  rw [stopsOf_waits, List.filter_eq_nil_iff]
  intro q hq
  simp [mem_waitingOf, mem_allAxes, sound.1 q hq]

theorem controlledStops_all (s : State) (sound : requestsSound s) : AllHalted s (controlledStops s allAxes) := by
  have waits := stopsOf_all_waits s sound
  by_cases mast : (s.axis .mast).phase = .waiting ∧ s.axes.lock = .released
  · have locked : controlledStops s allAxes = grantCheck (engageLock ((stopsOf s allAxes).withAxis .mast
        { (stopsOf s allAxes).axes.mast with stop := some .controlled }) false) := by
      have member : (waitingOf s allAxes).contains .mast = true ∧ s.axes.lock = .released := by
        rw [List.contains_iff_mem, mem_waitingOf]
        exact ⟨⟨mem_allAxes _, mast.1⟩, mast.2⟩
      unfold controlledStops
      exact congrArg grantCheck (if_pos member)
    have own := stopsOf_all s
    generalize stopsOf s allAxes = w at *
    rw [locked.trans (grantCheck_idle _ waits)]
    refine ⟨fun a dish => ?_, waits, fun still => absurd mast.1 still⟩
    rw [← own a]
    exact engageLock_dish _ _ a dish
  · have unlocked : controlledStops s allAxes = grantCheck (stopsOf s allAxes) := by
      have none : ¬ ((waitingOf s allAxes).contains .mast = true ∧ s.axes.lock = .released) := by
        rw [List.contains_iff_mem, mem_waitingOf]
        exact fun h => mast ⟨h.1.2, h.2⟩
      unfold controlledStops
      exact congrArg grantCheck (if_neg none)
    rw [unlocked, grantCheck_idle _ waits]
    exact ⟨fun a _ => stopsOf_all s a, waits, fun _ => stopsOf_all s .mast⟩

/-- A mast that drives is in its move after the stops, whatever is granted. -/
theorem controlledStops_all_driving (s : State) (driving : s.axes.mast.phase = .driving) :
    (controlledStops s allAxes).axes.mast.inMove = true := by
  have unwaiting : Axis.mast ∉ waitingOf s allAxes := by
    rw [mem_waitingOf]
    intro h
    cases driving.symm.trans h.2
  rw [controlledStops_unlocked s allAxes unwaiting]
  refine grantLoop_mastMoves _ _ ?_
  have stopped : (stopsOf s allAxes).axes.mast = s.axes.mast.halted := stopsOf_all s .mast
  rw [stopped]
  simp [AxisState.halted, AxisState.inMove, driving]

theorem controlledStops_dish_driving (s : State) (moves : s.axes.mast.inMove = true) :
    (controlledStops s dishAxes).axes.mast.inMove = true := by
  have unwaiting : Axis.mast ∉ waitingOf s dishAxes := by
    rw [mem_waitingOf, mem_dishAxes]
    exact fun h => h.1 rfl
  rw [controlledStops_unlocked s dishAxes unwaiting]
  refine grantLoop_mastMoves _ _ ?_
  have kept : (stopsOf s dishAxes).axes.mast = s.axes.mast := stopsOf_dish s .mast
  rw [kept]
  exact moves

/-! ## The commands ended by a HALT (R21) -/

/-- The commands of a HALT ended, with their search told to them, and the search abandoned. -/
def haltCommands (s : State) : State :=
  dropSearch (endWhere (tellSearch s .abandoned) (ofKinds stanceKinds) .halted) false

theorem tellSearch_same (s : State) (o : SearchOutcome) :
    let u := tellSearch s o
    u.ctl = s.ctl ∧ u.axes = s.axes ∧ u.arb = s.arb ∧ u.level = s.level ∧ u.stance = s.stance ∧ u.mem = s.mem := by
  unfold tellSearch
  (repeat' split) <;> simp

theorem tellSearch_told (s : State) (o : SearchOutcome) :
    ∃ f, (tellSearch s o).board.openSet = s.board.openSet.map f ∧ SearchTold f := by
  rw [← dropSearch_board _ false]
  exact stopSearch_openSet s o false

/-- What the end of the commands of a HALT makes. -/
structure CommandsHalted (s u : State) : Prop where
  ctl : u.ctl = s.ctl
  axes : u.axes = s.axes
  arb : u.arb = s.arb
  search : u.level.search = none
  stance : { u.stance with peakPending := false } = { s.stance with peakPending := false }
  wf : Memory.wf u.mem = true
  answered : ∀ c ∈ s.board.openSet, ofKinds stanceKinds c = true → Answered u c.slot Code.halted.toNat
  left : ∀ c ∈ u.board.openSet, ofKinds stanceKinds c = false

theorem haltCommands_halted (s : State) (hw : Memory.wf s.mem = true) (hs : (s.board.openSet.map (·.slot)).Nodup) :
    CommandsHalted s (haltCommands s) := by
  obtain ⟨ctl, axes, arb, level, stance, mem⟩ := tellSearch_same s .abandoned
  obtain ⟨f, told, hf⟩ := tellSearch_told s .abandoned
  have slots : ((tellSearch s .abandoned).board.openSet.map (·.slot)).Nodup := by
    rw [told, map_slot_told hf]
    exact hs
  have only := endWhere_onlyEnded (tellSearch s .abandoned) (ofKinds stanceKinds) .halted (mem ▸ hw) slots
  unfold haltCommands
  generalize endWhere (tellSearch s .abandoned) (ofKinds stanceKinds) .halted = v at *
  have answered : ∀ c ∈ s.board.openSet, ofKinds stanceKinds c = true → Answered v c.slot Code.halted.toNat :=
    fun c hc kind => (hf c).1 ▸ only.ended.1 (f c) (told ▸ List.mem_map_of_mem hc) (by rw [ofKinds_told hf, kind])
  have left : ∀ c ∈ v.board.openSet, ofKinds stanceKinds c = false := fun c hc => by
    rw [only.openSet] at hc
    simpa using List.of_mem_filter hc
  obtain ⟨-, -, -, -, sameAxes, sameArb, -⟩ := only.drives
  unfold dropSearch
  cases search : v.level.search with
  | none =>
    exact ⟨only.ctl.trans ctl, sameAxes.trans axes, sameArb.trans arb, search, by rw [only.stance, stance], only.wf,
      answered, left⟩
  | some c =>
    exact ⟨only.ctl.trans ctl, sameAxes.trans axes, sameArb.trans arb, rfl, by simp [only.stance, stance], only.wf,
      answered, left⟩

/-! ## The dish and the drives at a HALT -/

/-- The stance at a HALT, before its mast goal. -/
def haltDish (s : State) : State := dishToNone ((controlledStops (haltCommands s) allAxes).withPeakPending false)

theorem ownHalt_normal (s : State) (n : Slot) (mode : s.ctl.mode ≠ .halted) :
    ownHalt s n = writeResult (haltGoal (haltDish s)) n .ok Warnings.empty (haltData s) := if_neg mode

theorem ownHalt_halted (s : State) (n : Slot) (mode : s.ctl.mode = .halted) : ownHalt s n =
    writeResult (setEff (s.withMastGoal (adoptedHeight (extension s)))) n .ok Warnings.empty (haltData s) := if_pos mode

/-- What a HALT makes of stance, commands and axes, before its mast goal. -/
structure HaltMade (s u : State) : Prop where
  ctl : ∃ d x, u.ctl = { s.ctl with touchUpMark := false, signalLost := false, dishState := d, dishShort := x }
  stance : u.stance = { s.stance with dishGoal := .none, peakPending := false }
  search : u.level.search = none
  wf : Memory.wf u.mem = true
  answered : ∀ c ∈ s.board.openSet, ofKinds stanceKinds c = true → Answered u c.slot Code.halted.toNat
  left : ∀ c ∈ u.board.openSet, ofKinds stanceKinds c = false
  kept : u.kept = s.kept
  sound : requestsSound s → requestsSound u
  dish : requestsSound s → ∀ a, a ≠ .mast → u.axis a = (s.axis a).halted.halted
  waits : requestsSound s → ∀ q ∈ u.arb.waits, q.axis = .mast
  mast : requestsSound s → (s.axis .mast).phase ≠ .waiting → u.axis .mast = (s.axis .mast).halted
  driving : s.axes.mast.phase = .driving → u.axes.mast.inMove = true

theorem haltDish_made (s : State) (hw : Memory.wf s.mem = true) (hs : (s.board.openSet.map (·.slot)).Nodup) :
    HaltMade s (haltDish s) := by
  have kept : (haltDish s).kept = s.kept := by simp [haltDish, haltCommands]
  have commands := haltCommands_halted s hw hs
  have moves : s.axes.mast.phase = .driving → (haltDish s).axes.mast.inMove = true := fun driving => by
    have phase : (haltCommands s).axes.mast.phase = .driving := by rw [commands.axes, driving]
    have stopped := controlledStops_all_driving (haltCommands s) phase
    have whole : haltDish s = dishStands (controlledStops
        (writeDishGoal ((controlledStops (haltCommands s) allAxes).withPeakPending false) .none) dishAxes) := rfl
    obtain ⟨axes, -⟩ := dishStands_same (controlledStops
        (writeDishGoal ((controlledStops (haltCommands s) allAxes).withPeakPending false) .none) dishAxes)
    rw [whole, axes]
    exact controlledStops_dish_driving _ stopped
  unfold haltDish at *
  generalize haltCommands s = v at *
  have stops : onlyDrives v (controlledStops v allAxes) := aside_controlledStops ..
  have all := controlledStops_all v
  generalize controlledStops v allAxes = w at *
  obtain ⟨halted, stance, ⟨d, x, ctl⟩, search, mem, board, -⟩ := dishToNone_dropped (w.withPeakPending false)
  generalize dishToNone (w.withPeakPending false) = u at *
  have before : ∀ a, v.axis a = s.axis a := fun a => congrArg (Axes.get · a) commands.axes
  have soundV : requestsSound s → requestsSound v := requestsSound_congr commands.axes commands.arb
  have allV := fun sound => all (soundV sound)
  have soundW : requestsSound s → requestsSound (w.withPeakPending false) := fun sound => by
    have waits : (w.withPeakPending false).arb.waits = [] := (allV sound).waits
    rw [requestsSound, waits]
    simp
  have dropped := fun sound => halted (soundW sound)
  refine ⟨⟨d, x, ?_⟩, ?_, ?_, ?_, fun c hc kind => ?_, ?_, kept, fun sound => (dropped sound).sound,
    fun sound a dish => ?_, fun sound => (dropped sound).waits, fun sound still => ?_, moves⟩
  · rw [ctl, withPeakPending_ctl, stops.ctl, commands.ctl]
  · have pending : (w.withPeakPending false).stance = { s.stance with peakPending := false } := by
      rw [← commands.stance, ← stops.stance]
      rfl
    rw [stance, pending]
  · exact search.trans ((congrArg Level.search stops.level).trans commands.search)
  · rw [mem, withPeakPending_mem, stops.mem, commands.wf]
  · have told := commands.answered c hc kind
    unfold Answered at told ⊢
    rw [mem, board, withPeakPending_mem, withPeakPending_board, stops.mem, stops.board]
    exact told
  · rw [board, withPeakPending_board, stops.board]
    exact commands.left
  · rw [(dropped sound).dish a dish]
    show (w.axis a).halted = _
    rw [(allV sound).dish a dish, before]
  · have restless : ((w.withPeakPending false).axis .mast).phase ≠ .waiting := by
      show (w.axis .mast).phase ≠ .waiting
      rw [(allV sound).mast (before .mast ▸ still), before]
      cases phase : (s.axis .mast).phase <;> simp [AxisState.halted, phase]
    rw [(dropped sound).mast.settled restless]
    exact ((allV sound).mast (before .mast ▸ still)).trans (congrArg _ (before .mast))

end Sys2Proof.Machine

end

section
/-! PROOFS. The mast goal of a HALT (R21), with the limit fault that its recompute may find (R9, R108): O11. -/
namespace Sys2Proof.Machine

/-! ## A record written before or after the drives act -/

/-- The state with something stored in the memory and bits set in NOTICE. -/
def State.noted (s : State) (g : Memory → Memory) (k : Word16) : State :=
  (s.withMem (g s.mem)).withBoard { s.board with notice := s.board.notice ||| k }

/-- A result, as a record of that kind. -/
theorem writeResult_noted (s : State) (n : Slot) (c : Code) (w : Warnings) (data : List Byte) :
    writeResult s n c w data =
      s.noted (fun m => writeFields m (resultFields n c w data)) (BitVec.ofNat 16 (2 ^ n.val)) := rfl

section
variable (g : Memory → Memory) (k : Word16)

theorem startGranted_noted (s : State) (a : Axis) : startGranted (s.noted g k) a = (startGranted s a).noted g k := by
  cases a with
  | mast =>
    by_cases lock : s.axes.lock = .released
    · have lock' : (s.noted g k).axes.lock = .released := lock
      simp only [startGranted, lock, lock', if_true]
      rfl
    · have lock' : ¬ (s.noted g k).axes.lock = .released := lock
      simp only [startGranted, lock, lock', if_false]
      rfl
  | pan => rfl
  | tilt => rfl
  | pol => rfl

theorem grantLoop_noted (l : List Request) (s : State) : grantLoop l (s.noted g k) = (grantLoop l s).noted g k := by
  induction l generalizing s with
  | nil => rfl
  | cons r l ih =>
    have head : grantHead (s.noted g k) r l = (grantHead s r l).noted g k :=
      startGranted_noted g k (s.withArb { grants := s.arb.grants ++ [⟨r.axis, r.draw⟩], waits := l }) r.axis
    rw [grantLoop, grantLoop, head, ih]
    exact (apply_ite (State.noted · g k) _ _ _).symm

theorem controlledStop_noted (s : State) (a : Axis) :
    controlledStop (s.noted g k) a = (controlledStop s a).noted g k := by
  by_cases waiting : (s.axis a).phase = .waiting
  · have waiting' : ((s.noted g k).axis a).phase = .waiting := waiting
    simp only [controlledStop, waiting, waiting']
  · rw [controlledStop_eq s a waiting, controlledStop_eq (s.noted g k) a waiting]
    rfl

/-- What each step of a fold lets pass, the fold does. -/
theorem foldl_noted {α : Type} {f : State → α → State} (step : ∀ s x, f (s.noted g k) x = (f s x).noted g k)
    (l : List α) (s : State) : l.foldl f (s.noted g k) = (l.foldl f s).noted g k := by
  induction l generalizing s with
  | nil => rfl
  | cons x l ih => rw [List.foldl_cons, List.foldl_cons, step, ih]

theorem controlledStops_dish_noted (s : State) :
    controlledStops (s.noted g k) dishAxes = (controlledStops s dishAxes).noted g k := by
  have unlocked : ∀ t : State, Axis.mast ∉ waitingOf t dishAxes := fun t => by
    rw [mem_waitingOf, mem_dishAxes]
    exact fun h => h.1 rfl
  have stops : stopsOf (s.noted g k) dishAxes = (stopsOf s dishAxes).noted g k := by
    have step : ∀ (t : State) (a : Axis), withdrawStep (t.noted g k) a = (withdrawStep t a).noted g k := fun _ _ => rfl
    have moving : movingOf (s.noted g k) dishAxes = movingOf s dishAxes := rfl
    have waiting : waitingOf (s.noted g k) dishAxes = waitingOf s dishAxes := rfl
    rw [stopsOf, stopsOf, moving, waiting, foldl_noted g k (controlledStop_noted g k), foldl_noted g k step]
  rw [controlledStops_unlocked _ _ (unlocked _), controlledStops_unlocked _ _ (unlocked _), stops]
  exact grantLoop_noted g k _ _

theorem dishStands_noted (s : State) : dishStands (s.noted g k) = (dishStands s).noted g k := by
  have withDish : ∀ d, (s.noted g k).withDish d = (s.withDish d).noted g k := fun d => by
    by_cases locked : d = .locked <;> simp only [State.withDish, locked, if_true, if_false] <;> rfl
  have state : (s.noted g k).ctl.dishState = s.ctl.dishState := rfl
  have rest : dishAtRest (s.noted g k) = dishAtRest s := rfl
  have resting : restingDish (s.noted g k) = restingDish s := rfl
  unfold dishStands
  rw [state, rest, resting, withDish, withDish]
  split
  · rfl
  split
  · rfl
  split <;> rfl

theorem dishToNone_noted (s : State) : dishToNone (s.noted g k) = (dishToNone s).noted g k := by
  have written : writeDishGoal (s.noted g k) .none = (writeDishGoal s .none).noted g k := rfl
  rw [dishToNone, dishToNone, written, controlledStops_dish_noted, dishStands_noted]

theorem haltedGoal_noted (s : State) : haltedGoal (s.noted g k) = (haltedGoal s).noted g k := by
  have ever : (s.noted g k).axes.mast.everValid = s.axes.mast.everValid := rfl
  have moves : (s.noted g k).axes.mast.inMove = s.axes.mast.inMove := rfl
  unfold haltedGoal
  rw [ever, moves]
  split
  · rfl
  split <;> rfl

theorem setEff_noted (s : State) : setEff (s.noted g k) = (setEff s).noted g k := rfl

theorem setNotice_noted (s : State) (n : Nat) : setNotice (s.noted g k) n = (setNotice s n).noted g k := by
  have bits : s.board.notice ||| k ||| BitVec.ofNat 16 (2 ^ n) = s.board.notice ||| BitVec.ofNat 16 (2 ^ n) ||| k := by
    rw [BitVec.or_assoc, BitVec.or_comm k, ← BitVec.or_assoc]
  have board : { (s.noted g k).board with notice := (s.noted g k).board.notice ||| BitVec.ofNat 16 (2 ^ n) } =
      { s.board with notice := s.board.notice ||| BitVec.ofNat 16 (2 ^ n) ||| k } := by
    rw [← bits]
    rfl
  rw [setNotice, board]
  rfl

end

/-! ## A fault reported (R139 to R142) -/

/-- A change that the report of a fault does not read, and does not write. -/
structure FaultBlind (T : State → State) : Prop where
  ilk : ∀ s, (T s).ilk = s.ilk
  limits : ∀ s, (T s).limits = s.limits
  power : ∀ s, (T s).power = s.power
  spent : ∀ s, spent (T s) = spent s
  withIlk : ∀ s i, (T s).withIlk i = T (s.withIlk i)
  notice : ∀ s n, setNotice (T s) n = T (setNotice s n)

theorem FaultBlind.makeRoom {T : State → State} (h : FaultBlind T) (s : State) : makeRoom (T s) = T (makeRoom s) := by
  have oldest : oldestSpent (T s) = oldestSpent s := by rw [oldestSpent, oldestSpent, h.ilk, h.spent]
  unfold Machine.makeRoom
  rw [h.ilk, oldest]
  split
  · rfl
  · split
    · rfl
    · have faults : ∀ fs, (T s).withFaults fs = T (s.withFaults fs) := fun fs => by
        rw [State.withFaults, h.ilk, h.withIlk]
        rfl
      have alarm : ∀ t, alarmStop (T t) = T (alarmStop t) := fun t => by
        rw [alarmStop, h.ilk, h.withIlk]
        rfl
      simp only [faults, alarm]
      split <;> rfl

theorem FaultBlind.putFault {T : State → State} (h : FaultBlind T) (s : State) (f : FaultId) :
    putFault (T s) f = T (putFault s f) := by
  have alarm : ∀ t, alarmPeriodStart (T t) = T (alarmPeriodStart t) := fun t => by
    rw [alarmPeriodStart, h.ilk, h.limits, h.withIlk]
    rfl
  have first : firstAfter (T s) f = firstAfter s f := by rw [firstAfter, firstAfter, h.ilk, h.power]
  unfold Machine.putFault
  simp only [h.makeRoom, h.ilk, first, h.withIlk, h.notice, alarm]
  split
  · split <;> rfl
  · rfl

theorem putFault_swap (s : State) (f : FaultId) : (putFault s f).swap = s.swap := by
  unfold putFault makeRoom
  simp only []
  (repeat' split) <;> rfl

/-- Outside a quiesce the report of a fault is its entry in the set alone. -/
theorem reportFault_idle (s : State) (f : FaultId) (idle : s.swap.phase = .idle) :
    reportFault s f = if s.ilk.faults.contains f then s else putFault s f := by
  have after : (putFault s f).swap.phase = .idle := by rw [putFault_swap, idle]
  rw [reportFault, swapEarlyEnd_idle _ _ after]

theorem FaultBlind.reportFault {T : State → State} (h : FaultBlind T) (s : State) (f : FaultId)
    (idle : s.swap.phase = .idle) (idle' : (T s).swap.phase = .idle) :
    reportFault (T s) f = T (reportFault s f) := by
  rw [reportFault_idle _ _ idle, reportFault_idle _ _ idle', h.ilk, h.putFault]
  exact (apply_ite T _ _ _).symm

theorem noted_blind (g : Memory → Memory) (k : Word16) : FaultBlind (State.noted · g k) where
  ilk _ := rfl
  limits _ := rfl
  power _ := rfl
  spent _ := rfl
  withIlk _ _ := rfl
  notice := setNotice_noted g k

theorem withMastState_blind (m : MastState) : FaultBlind (State.withMastState · m) where
  ilk _ := rfl
  limits _ := rfl
  power _ := rfl
  spent _ := rfl
  withIlk _ _ := rfl
  notice _ _ := rfl

theorem putFault_ctl (s : State) (f : FaultId) : (putFault s f).ctl = s.ctl := by
  unfold putFault makeRoom
  simp only []
  (repeat' split) <;> rfl

theorem putFault_openSet (s : State) (f : FaultId) : (putFault s f).board.openSet = s.board.openSet := by
  unfold putFault makeRoom
  simp only []
  (repeat' split) <;> rfl

theorem putFault_axes (s : State) (f : FaultId) : (putFault s f).axes = s.axes := by
  unfold putFault makeRoom
  simp only []
  (repeat' split) <;> rfl

/-- What the report of a fault outside a quiesce leaves alone. -/
theorem reportFault_same (s : State) (f : FaultId) (idle : s.swap.phase = .idle) :
    let u := reportFault s f
    u.ctl = s.ctl ∧ u.swap = s.swap ∧ u.axes = s.axes ∧ u.board.openSet = s.board.openSet := by
  rw [reportFault_idle s f idle]
  split
  · exact ⟨rfl, rfl, rfl, rfl⟩
  · exact ⟨putFault_ctl s f, putFault_swap s f, putFault_axes s f, putFault_openSet s f⟩

/-! ## The entry into HALTED with no command open and no search (R25) -/

/-- The mode becomes HALTED, with nothing upward due. -/
def State.toHalted (s : State) : State := s.withCtl { s.ctl with
  returnMode := if s.ctl.mode = .recovery then .recovery else .normal, mode := .halted, upwardDue := false }

theorem toHalted_noted (g : Memory → Memory) (k : Word16) (s : State) :
    (s.noted g k).toHalted = s.toHalted.noted g k := rfl

theorem withPeakPending_noted (g : Memory → Memory) (k : Word16) (s : State) (b : Bool) :
    (s.noted g k).withPeakPending b = (s.withPeakPending b).noted g k := rfl

/-- The entry into HALTED where there is nothing to end but the moves of the dish. -/
def quietHalt (s : State) : State :=
  setEff (haltedGoal (dishToNone ((controlledStops s.toHalted dishAxes).withPeakPending false)))

theorem endWhere_none (s : State) (p : OpenCommand → Bool) (code : Code) (h : ∀ c ∈ s.board.openSet, p c = false) :
    endWhere s p code = s := by
  have none : openWhere s p = [] := List.eq_nil_iff_forall_not_mem.mpr fun c hc => by
    obtain ⟨member, meets⟩ := (mem_openWhere s p c).mp hc
    rw [h c member] at meets
    cases meets
  rw [endWhere, none]
  rfl

theorem stopSearch_none (s : State) (o : SearchOutcome) (keep : Bool) (h : s.level.search = none) :
    stopSearch s o keep = s := by
  simp [stopSearch, tellSearch, dropSearch, h]

theorem enterHalted_quiet (s : State) (idle : s.swap.phase = .idle) (search : s.level.search = none)
    (left : ∀ c ∈ s.board.openSet, ofKinds stanceKinds c = false) : enterHalted s = quietHalt s := by
  have whole : haltStance s = dishToNone ((endWhere (stopSearch (controlledStops (swapEarlyEnd s .faulted).toHalted dishAxes)
      .faulted false) (ofKinds stanceKinds) .faulted).withPeakPending false) := rfl
  have stops : onlyDrives s.toHalted (controlledStops s.toHalted dishAxes) := aside_controlledStops ..
  rw [enterHalted_eq, whole, swapEarlyEnd_idle s _ idle, quietHalt]
  generalize controlledStops s.toHalted dishAxes = v at *
  rw [stopSearch_none _ _ _ ((congrArg Level.search stops.level).trans search),
    endWhere_none _ _ _ (fun c hc => left c (stops.board ▸ hc))]

theorem quietHalt_noted (g : Memory → Memory) (k : Word16) (s : State) :
    quietHalt (s.noted g k) = (quietHalt s).noted g k := by
  rw [quietHalt, toHalted_noted, controlledStops_dish_noted, withPeakPending_noted, dishToNone_noted, haltedGoal_noted,
    setEff_noted, quietHalt]

/-! ## The mast finds a limit switch on its way (R108) -/

/-- The mast at rest is due its effective target, and finds a limit switch tripped on the way. -/
structure LimitFound (q : State) : Prop where
  issue : canIssue q = true
  settled : q.ctl.goalAtRest = none
  rest : q.axes.mast.phase = .atRest
  off : near .mast q.ctl.effTarget (extension q) = false
  free : heldBack q q.ctl.effTarget = false
  far : near .mast (clampTravel .mast q.ctl.effTarget) (extension q) = false
  tripped : towardTripped q .mast (clampTravel .mast q.ctl.effTarget) = true

/-- The mast FAILED at its limit switch, with the fault reported. -/
def limitState (q : State) : State :=
  (reportFault ((q.withUpwardDue false).withAxis .mast
    { q.axes.mast with target := clampTravel .mast q.ctl.effTarget, phase := .faulted }) (.limit .mast)).withMastState .failed

theorem canIssue_idle (q : State) (issue : canIssue q = true) : q.swap.phase = .idle := by
  simp only [canIssue, Bool.and_eq_true, beq_iff_eq] at issue
  exact issue.2.2

theorem LimitFound.changed {q : State} (h : LimitFound q) (g : Memory → Memory) (k : Word16) (m : MastState) :
    LimitFound ((q.withMastState m).noted g k) :=
  ⟨h.issue, h.settled, h.rest, h.off, h.free, h.far, h.tripped⟩

theorem limitState_changed (q : State) (g : Memory → Memory) (k : Word16) (m : MastState) (idle : q.swap.phase = .idle) :
    limitState ((q.withMastState m).noted g k) = (limitState q).noted g k := by
  set y := (q.withUpwardDue false).withAxis .mast
    { q.axes.mast with target := clampTravel .mast q.ctl.effTarget, phase := .faulted } with hy
  have marked := (withMastState_blind m).reportFault y (.limit .mast) idle idle
  have noted := (noted_blind g k).reportFault (y.withMastState m) (.limit .mast) idle idle
  have whole : limitState ((q.withMastState m).noted g k) =
      (reportFault ((y.withMastState m).noted g k) (.limit .mast)).withMastState .failed := rfl
  rw [whole, noted, marked]
  rfl

theorem driveMast_limit (q : State) (b : Bool) (found : LimitFound q) (due : (b || q.ctl.upwardDue) = true)
    (mode : q.ctl.mode = .normal) (search : q.level.search = none)
    (left : ∀ c ∈ q.board.openSet, ofKinds stanceKinds c = false) : driveMast q b = quietHalt (limitState q) := by
  obtain ⟨issue, settled, rest, off, free, far, tripped⟩ := found
  have idle := canIssue_idle q issue
  set t := clampTravel .mast q.ctl.effTarget with ht
  set x : AxisState := { q.axes.mast with target := t, phase := .faulted } with hx
  set m := mastStateFor (q.withUpwardDue false) q.ctl.effTarget with hm
  set y := (q.withUpwardDue false).withAxis .mast x with hy
  have given : axisGive ((q.withUpwardDue false).withMastState m) .mast q.ctl.effTarget
      (movePriority ((q.withUpwardDue false).withMastState m)) = (y.withMastState m, true) := by
    have phase : (((q.withUpwardDue false).withMastState m).axis .mast).phase = .atRest := rest
    have far' : near .mast t (((q.withUpwardDue false).withMastState m).axis .mast).position = false := far
    have tripped' : towardTripped ((q.withUpwardDue false).withMastState m) .mast t = true := tripped
    simp only [axisGive, phase, giveAtRest, ← ht, far', tripped', if_true, Bool.false_eq_true, if_false]
    rfl
  have drives : driveMast q b = giveMast (q.withUpwardDue false) q.ctl.effTarget := by
    simp [driveMast, issue, settled, due, rest, driveResting, off, issueMast, free]
  have faults : giveMast (q.withUpwardDue false) q.ctl.effTarget =
      axisFault (y.withMastState m) .mast (.limit .mast) := by
    have whole : giveMast (q.withUpwardDue false) q.ctl.effTarget =
      orLimit (axisGive ((q.withUpwardDue false).withMastState m) .mast q.ctl.effTarget
        (movePriority ((q.withUpwardDue false).withMastState m))) .mast := rfl
    rw [whole, given]
    rfl
  have idleY : y.swap.phase = .idle := idle
  have marked := (withMastState_blind m).reportFault y (.limit .mast) idleY idleY
  obtain ⟨ctl, swap, -, openSet⟩ := reportFault_same y (.limit .mast) idleY
  have searchR := reportFault_search y (.limit .mast)
  have reacts : axisFault (y.withMastState m) .mast (.limit .mast) =
      enterHalted ((reportFault y (.limit .mast)).withMastState .failed) := by
    have modeR : (reportFault y (.limit .mast)).ctl.mode = .normal := by
      rw [ctl]
      exact mode
    have reported : axisFault (y.withMastState m) .mast (.limit .mast) =
        axisReact ((reportFault y (.limit .mast)).withMastState m) .mast := by rw [axisFault, marked]
    have runs : running ((reportFault y (.limit .mast)).withMastState m) = true := by
      have same : running ((reportFault y (.limit .mast)).withMastState m) = running (reportFault y (.limit .mast)) := rfl
      rw [same, running, modeR]
    have modeM : ((reportFault y (.limit .mast)).withMastState m).ctl.mode ≠ .halted := by
      show (reportFault y (.limit .mast)).ctl.mode ≠ .halted
      rw [modeR]
      decide
    rw [reported, axisReact, if_pos runs, if_pos rfl, mastFaultReact, if_neg modeM]
    rfl
  rw [drives, faults, reacts]
  refine enterHalted_quiet _ ?_ ?_ ?_
  · show (reportFault y (.limit .mast)).swap.phase = .idle
    rw [swap]
    exact idle
  · exact searchR.trans search
  · intro c hc
    have member : c ∈ (reportFault y (.limit .mast)).board.openSet := hc
    rw [openSet] at member
    exact left c member

end Sys2Proof.Machine

end

section
/-! PROOFS. The recompute of a HALT at rest, and O11. -/
namespace Sys2Proof.Machine

/-! ## The recompute with no dish goal and no search -/

/-- The state in which a recompute drives the mast. -/
def effState (x : State) : State := if effectiveTarget x = x.ctl.effTarget then x else setEff x

/-- Whether a recompute acts on the mast, beside an upward target that is due. -/
def effActs (x : State) (acts : Bool) : Bool := if effectiveTarget x = x.ctl.effTarget then acts else true

theorem recompute_still (x : State) (acts : Bool) (search : x.level.search = none)
    (goal : (driveMast (effState x) (effActs x acts)).stance.dishGoal ≠ .site) :
    recompute x acts = driveMast (effState x) (effActs x acts) := by
  unfold recompute effActs effState at *
  by_cases same : effectiveTarget x = x.ctl.effTarget
  · simp only [same, if_true]
  · simp only [same, if_false] at goal ⊢
    rw [abandonForHeight_idle x search, recomputeSite]
    have slew : heightSlew x (driveMast (setEff x) true) = driveMast (setEff x) true := by simp [heightSlew, search]
    rw [slew, if_neg goal]

/-- What a recompute drives with is the state but for the effective target in force. -/
theorem effState_same (x : State) :
    let q := effState x
    q.stance = x.stance ∧ q.level = x.level ∧ q.board = x.board ∧ q.mem = x.mem ∧ q.axes = x.axes ∧ q.arb = x.arb ∧
      q.swap = x.swap ∧ ∃ e, q.ctl = { x.ctl with effTarget := e } := by
  unfold effState
  split
  · exact ⟨rfl, rfl, rfl, rfl, rfl, rfl, rfl, x.ctl.effTarget, rfl⟩
  · exact ⟨rfl, rfl, rfl, rfl, rfl, rfl, rfl, effectiveTarget x, rfl⟩

theorem effState_changed (x : State) (g : Memory → Memory) (k : Word16) (m : MastState) :
    effState ((x.withMastState m).noted g k) = ((effState x).withMastState m).noted g k := by
  have eff : effectiveTarget ((x.withMastState m).noted g k) = effectiveTarget x := rfl
  have force : ((x.withMastState m).noted g k).ctl.effTarget = x.ctl.effTarget := rfl
  unfold effState
  rw [eff, force]
  split <;> rfl

theorem effActs_changed (x : State) (acts : Bool) (g : Memory → Memory) (k : Word16) (m : MastState) :
    effActs ((x.withMastState m).noted g k) acts = effActs x acts := by
  have eff : effectiveTarget ((x.withMastState m).noted g k) = effectiveTarget x := rfl
  have force : ((x.withMastState m).noted g k).ctl.effTarget = x.ctl.effTarget := rfl
  rw [effActs, effActs, eff, force]

/-! ## The mast driven where no limit switch is found -/

/-- What driving the mast makes of the drives, with nothing else touched. -/
structure MastDriven (q v : State) : Prop where
  stance : v.stance = q.stance
  level : v.level = q.level
  board : v.board = q.board
  mem : v.mem = q.mem
  goalAtRest : v.ctl.goalAtRest = q.ctl.goalAtRest
  dish : requestsSound q → ∀ a, a ≠ .mast → (q.axis a).startedFrom a (v.axis a)
  waits : requestsSound q → ∀ r ∈ v.arb.waits, r ∈ q.arb.waits ∨ r.axis = .mast

theorem MastDriven.still (q : State) (c : Bool) : MastDriven q (q.withUpwardDue c) :=
  ⟨rfl, rfl, rfl, rfl, rfl, fun _ _ _ => .inl rfl, fun _ _ hr => .inl hr⟩

/-- An axis operation on the mast alone. -/
theorem MastDriven.mastOnly (q : State) (x : AxisState) : MastDriven q (q.withAxis .mast x) := by
  refine ⟨rfl, rfl, rfl, rfl, rfl, fun _ a dish => .inl ?_, fun _ _ hr => .inl hr⟩
  exact axis_withAxis_other _ _ _ _ dish

theorem MastDriven.of_eq {p q v : State} (h : MastDriven q v) (stance : q.stance = p.stance) (level : q.level = p.level)
    (board : q.board = p.board) (mem : q.mem = p.mem) (goalAtRest : q.ctl.goalAtRest = p.ctl.goalAtRest)
    (axes : q.axes = p.axes) (arb : q.arb = p.arb) : MastDriven p v := by
  obtain ⟨s, l, b, m, g, dish, waits⟩ := h
  refine ⟨s.trans stance, l.trans level, b.trans board, m.trans mem, g.trans goalAtRest, fun sound a other => ?_,
    fun sound => ?_⟩
  · have own : q.axis a = p.axis a := congrArg (Axes.get · a) axes
    exact own ▸ dish (requestsSound_congr axes arb sound) a other
  · exact arb ▸ waits (requestsSound_congr axes arb sound)

/-- A target given to the mast at rest or FAILED, with no limit switch found. -/
theorem axisGive_driven (y : State) (t : Int) (p : Priority) (rest : y.axes.mast.inMove = false)
    (free : y.axes.mast.phase = .atRest → near .mast (clampTravel .mast t) (extension y) = false →
      towardTripped y .mast (clampTravel .mast t) = false) :
    (axisGive y .mast t p).2 = false ∧ MastDriven y (axisGive y .mast t p).1 := by
  have own : y.axis .mast = y.axes.mast := rfl
  cases phase : y.axes.mast.phase with
  | atRest =>
    have given : axisGive y .mast t p = giveAtRest y .mast (clampTravel .mast t) p := by
      simp only [axisGive, own, phase]
    rw [given]
    cases close : near .mast (clampTravel .mast t) (extension y) with
    | true =>
      have close' : near .mast (clampTravel .mast t) (y.axis .mast).position = true := close
      have only : giveAtRest y .mast (clampTravel .mast t) p =
          (y.withAxis .mast { y.axes.mast with target := clampTravel .mast t }, false) := if_pos close'
      rw [only]
      exact ⟨rfl, .mastOnly ..⟩
    | false =>
      have close' : near .mast (clampTravel .mast t) (y.axis .mast).position = false := close
      set x : AxisState := { y.axes.mast with
        target := clampTravel .mast t, phase := .waiting, arrived := false, stop := none, faultStop := false,
        next := none } with hx
      set w := placeRequest (y.withAxis .mast x) (requestFor y .mast (clampTravel .mast t) p) with hw
      have waits : giveAtRest y .mast (clampTravel .mast t) p = (grantCheck w, false) := by
        simp only [giveAtRest, close', free phase close, Bool.false_eq_true, if_false]
        rfl
      have drives : onlyDrives y (grantCheck w) := by simp [onlyDrives, hw]
      rw [waits]
      refine ⟨rfl, drives.stance, drives.level, drives.board, drives.mem, by rw [drives.ctl], fun sound a dish => ?_,
        fun sound r hr => ?_⟩
      · obtain ⟨-, -, -, axes⟩ := grantCheck_made w (placeRequest_sound y .mast x _ sound phase rfl rfl)
        have kept : w.axis a = y.axis a := axis_withAxis_other _ _ _ _ dish
        exact kept ▸ axes a
      · obtain ⟨-, -, left, -⟩ := grantCheck_made w (placeRequest_sound y .mast x _ sound phase rfl rfl)
        have joined : r ∈ requestFor y .mast (clampTravel .mast t) p :: y.arb.waits :=
          (joinList_perm _ _).mem_iff.mp (left r hr)
        rcases List.mem_cons.mp joined with rfl | old
        · exact .inr rfl
        · exact .inl old
  | faulted =>
    have given : axisGive y .mast t p =
        (y.withAxis .mast { y.axes.mast with target := clampTravel .mast t }, false) := by
      simp only [axisGive, own, phase]
    rw [given]
    exact ⟨rfl, .mastOnly ..⟩
  | waiting => simp [AxisState.inMove, phase] at rest
  | releasing => simp [AxisState.inMove, phase] at rest
  | driving => simp [AxisState.inMove, phase] at rest
  | stopping => simp [AxisState.inMove, phase] at rest
  | engaging => simp [AxisState.inMove, phase] at rest

/-- The effective target issued to a mast that does not move, with no limit switch found. -/
theorem issueMast_driven (q : State) (rest : q.axes.mast.inMove = false)
    (free : q.axes.mast.phase = .atRest → heldBack q q.ctl.effTarget = false →
      near .mast (clampTravel .mast q.ctl.effTarget) (extension q) = false →
      towardTripped q .mast (clampTravel .mast q.ctl.effTarget) = false) :
    MastDriven q (issueMast q q.ctl.effTarget) := by
  cases held : heldBack q q.ctl.effTarget with
  | true =>
    rw [issueMast_held q _ held]
    exact .still q true
  | false =>
    rw [issueMast_given q _ held]
    set y := (q.withUpwardDue false).withMastState (mastStateFor (q.withUpwardDue false) q.ctl.effTarget) with hy
    have whole : giveMast (q.withUpwardDue false) q.ctl.effTarget =
      orLimit (axisGive y .mast q.ctl.effTarget (movePriority y)) .mast := rfl
    obtain ⟨sound, driven⟩ := axisGive_driven y q.ctl.effTarget (movePriority y) rest (fun phase => free phase held)
    rw [whole, orLimit, sound]
    exact driven.of_eq rfl rfl rfl rfl rfl rfl rfl

theorem driveMast_driven (q : State) (b : Bool) (rest : q.axes.mast.inMove = false)
    (unaimed : q.stance.dishGoal.aimed = false) (free : ¬ ((b || q.ctl.upwardDue) = true ∧ LimitFound q)) :
    MastDriven q (driveMast q b) := by
  by_cases skip : ((!canIssue q || q.ctl.goalAtRest.isSome) || !(b || q.ctl.upwardDue)) = true
  · rw [driveMast, if_pos skip]
    exact .still q q.ctl.upwardDue
  · rw [driveMast, if_neg skip]
    simp only [Bool.or_eq_true, Bool.not_eq_true', not_or, Bool.not_eq_false, Bool.not_eq_true,
      Option.isSome_eq_false_iff, Option.isNone_iff_eq_none] at skip
    obtain ⟨⟨issue, settled⟩, due⟩ := skip
    have found : ¬ LimitFound q := fun h => free ⟨by simpa using due, h⟩
    cases phase : q.axes.mast.phase with
    | atRest =>
      simp only []
      cases off : near .mast q.ctl.effTarget (extension q) with
      | true =>
        have level : risesThroughNest q = false := by simp [risesThroughNest, unaimed]
        have stays : driveResting q = q.withUpwardDue false := by simp [driveResting, off, level]
        rw [stays]
        exact .still q false
      | false =>
        have gives : driveResting q = issueMast q q.ctl.effTarget := by simp [driveResting, off]
        rw [gives]
        refine issueMast_driven q rest fun _ free' far => ?_
        rw [← Bool.not_eq_true]
        exact fun tripped => found ⟨issue, settled, phase, off, free', far, tripped⟩
    | faulted => exact issueMast_driven q rest fun still => by cases phase.symm.trans still
    | waiting => exact issueMast_driven q rest fun still => by cases phase.symm.trans still
    | releasing => exact issueMast_driven q rest fun still => by cases phase.symm.trans still
    | driving => exact issueMast_driven q rest fun still => by cases phase.symm.trans still
    | stopping => exact issueMast_driven q rest fun still => by cases phase.symm.trans still
    | engaging => exact issueMast_driven q rest fun still => by cases phase.symm.trans still

theorem noted_stance (s : State) (g : Memory → Memory) (k : Word16) : (s.noted g k).stance = s.stance := rfl

/-! ## The mast FAILED at its limit switch -/

/-- A grant check leaves the mast as it is, or in its move. -/
theorem grantLoop_mast (l : List Request) (s : State) :
    (grantLoop l s).axes.mast = s.axes.mast ∨ (grantLoop l s).axes.mast.inMove = true := by
  induction l generalizing s with
  | nil => exact .inl rfl
  | cons r l ih =>
    rw [grantLoop]
    split
    · cases axis : r.axis with
      | mast =>
        refine .inr (grantLoop_mastMoves l _ ?_)
        rw [grantHead, axis, startGranted]
        split <;> rfl
      | pan =>
        have kept : (grantHead s r l).axes.mast = s.axes.mast := by rw [grantHead, axis]; rfl
        exact kept ▸ ih _
      | tilt =>
        have kept : (grantHead s r l).axes.mast = s.axes.mast := by rw [grantHead, axis]; rfl
        exact kept ▸ ih _
      | pol =>
        have kept : (grantHead s r l).axes.mast = s.axes.mast := by rw [grantHead, axis]; rfl
        exact kept ▸ ih _
    · exact .inl rfl

theorem controlledStops_dish_mast (s : State) :
    (controlledStops s dishAxes).axes.mast = s.axes.mast ∨ (controlledStops s dishAxes).axes.mast.inMove = true := by
  have unwaiting : Axis.mast ∉ waitingOf s dishAxes := by
    rw [mem_waitingOf, mem_dishAxes]
    exact fun h => h.1 rfl
  have kept : (stopsOf s dishAxes).axes.mast = s.axes.mast := stopsOf_dish s .mast
  rw [controlledStops_unlocked s dishAxes unwaiting, ← kept]
  exact grantLoop_mast _ _

theorem dishToNone_mast (s : State) :
    (dishToNone s).axes.mast = s.axes.mast ∨ (dishToNone s).axes.mast.inMove = true := by
  have stops := controlledStops_dish_mast (writeDishGoal s .none)
  obtain ⟨axes, -⟩ := dishStands_same (controlledStops (writeDishGoal s .none) dishAxes)
  rw [dishToNone, axes]
  exact stops

/-- The end of an event finds nothing to do for a mast that has just FAILED and entered HALTED, or moves. -/
theorem mastRest_haltedGoal (v : State) (g : Memory → Memory) (k : Word16)
    (mast : v.axes.mast.phase = .faulted ∨ v.axes.mast.inMove = true) :
    mastRest ((setEff (haltedGoal v)).noted g k) = (setEff (haltedGoal v)).noted g k := by
  obtain ⟨axes, -⟩ := haltedGoal_same v
  have own : ((setEff (haltedGoal v)).noted g k).axes.mast = v.axes.mast := congrArg Axes.mast axes
  have goal : v.axes.mast.inMove = false → (haltedGoal v).ctl.goalAtRest = none := fun rest => by
    cases ever : v.axes.mast.everValid with
    | false => rw [haltedGoal_never v ever]; rfl
    | true => rw [haltedGoal_rest v ever rest]; rfl
  have goal' : v.axes.mast.inMove = false → ((setEff (haltedGoal v)).noted g k).ctl.goalAtRest = none := goal
  generalize (setEff (haltedGoal v)).noted g k = u at *
  obtain ⟨moving, -, -, -, still, -⟩ := mastRest_rule u
  rcases mast with phase | moves
  · exact still (by rw [own, phase]) (goal' (by simp [AxisState.inMove, phase]))
  · exact moving (by rw [own, moves])

theorem mastRest_quietHalt (s : State) (g : Memory → Memory) (k : Word16) (failed : s.axes.mast.phase = .faulted) :
    mastRest ((quietHalt s).noted g k) = (quietHalt s).noted g k := by
  have first := controlledStops_dish_mast s.toHalted
  have same : s.toHalted.axes.mast = s.axes.mast := rfl
  rw [same] at first
  rw [quietHalt]
  generalize controlledStops s.toHalted dishAxes = v at *
  refine mastRest_haltedGoal _ g k ?_
  have second := dishToNone_mast (v.withPeakPending false)
  have kept : (v.withPeakPending false).axes.mast = v.axes.mast := rfl
  rw [kept] at second
  rcases second with again | moves
  · rcases first with still | moves
    · exact .inl (by rw [again, still, failed])
    · exact .inr (by rw [again, moves])
  · exact .inr moves

theorem quietHalt_stance (s : State) : (quietHalt s).stance.dishGoal = .none := by
  obtain ⟨-, -, -, -, -, -, -, -, -, goal, -⟩ :=
    haltedGoal_same (dishToNone ((controlledStops s.toHalted dishAxes).withPeakPending false))
  have whole : (quietHalt s).stance.dishGoal =
    (haltedGoal (dishToNone ((controlledStops s.toHalted dishAxes).withPeakPending false))).stance.dishGoal := rfl
  rw [whole, goal, dishToNone_stance]

theorem limitState_failed (q : State) (idle : q.swap.phase = .idle) :
    (limitState q).axes.mast.phase = .faulted := by
  obtain ⟨-, -, axes, -⟩ := reportFault_same ((q.withUpwardDue false).withAxis .mast
    { q.axes.mast with target := clampTravel .mast q.ctl.effTarget, phase := .faulted }) (.limit .mast) idle
  have whole : (limitState q).axes.mast = (reportFault ((q.withUpwardDue false).withAxis .mast
    { q.axes.mast with target := clampTravel .mast q.ctl.effTarget, phase := .faulted }) (.limit .mast)).axes.mast := rfl
  rw [whole, axes]
  rfl

/-- A mast driven onto its limit switch, with a record written before it and the mast in any state. -/
theorem driveMast_changed (q : State) (b : Bool) (g : Memory → Memory) (k : Word16) (m : MastState) (found : LimitFound q)
    (due : (b || q.ctl.upwardDue) = true) (mode : q.ctl.mode = .normal) (search : q.level.search = none)
    (left : ∀ c ∈ q.board.openSet, ofKinds stanceKinds c = false) :
    driveMast ((q.withMastState m).noted g k) b = (quietHalt (limitState q)).noted g k := by
  have idle := canIssue_idle q found.issue
  rw [driveMast_limit _ b (found.changed g k m) due mode search left, limitState_changed q g k m idle, quietHalt_noted]

/-- The recompute that finds the mast's limit switch, with a record written before it and the mast in any state. -/
theorem recompute_limit (x : State) (acts : Bool) (g : Memory → Memory) (k : Word16) (m : MastState)
    (found : LimitFound (effState x)) (due : (effActs x acts || (effState x).ctl.upwardDue) = true)
    (mode : x.ctl.mode = .normal) (search : x.level.search = none)
    (left : ∀ c ∈ x.board.openSet, ofKinds stanceKinds c = false) :
    recompute ((x.withMastState m).noted g k) acts = (quietHalt (limitState (effState x))).noted g k := by
  obtain ⟨-, level, board, -, -, -, -, e, ctl⟩ := effState_same x
  have mode' : (effState x).ctl.mode = .normal := by rw [ctl, mode]
  have search' : (effState x).level.search = none := by rw [level, search]
  have left' : ∀ c ∈ (effState x).board.openSet, ofKinds stanceKinds c = false := by rwa [board]
  have driven := driveMast_changed (effState x) (effActs x acts) g k m found due mode' search' left'
  rw [← effState_changed, ← effActs_changed x acts g k m] at driven
  refine (recompute_still ((x.withMastState m).noted g k) acts search ?_).trans driven
  rw [driven, noted_stance, quietHalt_stance]
  decide

end Sys2Proof.Machine

end

section
/-! PROOFS. What HALT leaves, in NORMAL and in HALTED (R21): O11. -/
namespace Sys2Proof.Machine

/-! ## What a HALT leaves, whatever becomes of the mast goal -/

/-- The stance but for its mast goal, the commands and the stops of a HALT. -/
structure HaltKept (s v : State) : Prop where
  dishGoal : v.stance.dishGoal = .none
  peakPending : v.stance.peakPending = false
  site : v.stance.site = s.stance.site
  peakAfter : v.stance.peakAfter = s.stance.peakAfter
  watch : v.stance.watch = s.stance.watch
  search : v.level.search = none
  wf : Memory.wf v.mem = true
  answered : ∀ c ∈ s.board.openSet, ofKinds stanceKinds c = true → Answered v c.slot Code.halted.toNat
  left : ∀ c ∈ v.board.openSet, ofKinds stanceKinds c = false
  stops : requestsSound s → ∀ a, controlledStopMade s v a

/-- The stops of a HALT, read from the axes (R105, R107). -/
theorem HaltMade.stops {s u v : State} (h : HaltMade s u) (sound : requestsSound s)
    (dish : ∀ a, a ≠ .mast → v.axis a = u.axis a) (waits : ∀ q ∈ v.arb.waits, q.axis = .mast)
    (mast : s.axes.mast.phase = .driving → v.axis .mast = u.axis .mast) (a : Axis) : controlledStopMade s v a := by
  by_cases own : a = .mast
  · subst own
    refine ⟨fun driving => ?_, fun _ other => absurd rfl other⟩
    have moving : (s.axis .mast).phase ≠ .waiting := by
      rw [driving]
      decide
    rw [mast driving, h.mast sound moving]
    simp [AxisState.halted, driving]
  · have axis : v.axis a = (s.axis a).halted.halted := (dish a own).trans (h.dish sound a own)
    obtain ⟨driving, waiting⟩ := halted_twice (s.axis a)
    refine ⟨fun phase => axis.trans (driving phase), fun phase _ => ?_⟩
    rw [axis]
    obtain ⟨rest, target⟩ := waiting phase
    exact ⟨rest, target, fun q hq => by rw [waits q hq]; exact Ne.symm own⟩

/-- What is so before the mast goal of a HALT is so after it, where the drives but the mast's are left. -/
theorem HaltMade.keeps {s u v : State} (h : HaltMade s u)
    (stance : { v.stance with mastGoal := 0 } = { u.stance with mastGoal := 0 }) (level : v.level = u.level)
    (mem : v.mem = u.mem) (board : v.board = u.board)
    (dish : requestsSound s → ∀ a, a ≠ .mast → v.axis a = u.axis a)
    (waits : requestsSound s → ∀ q ∈ v.arb.waits, q.axis = .mast)
    (mast : s.axes.mast.phase = .driving → v.axis .mast = u.axis .mast) : HaltKept s v := by
  rw [h.stance] at stance
  simp only [Stance.mk.injEq, true_and] at stance
  obtain ⟨site, dishGoal, peakAfter, watch, peakPending⟩ := stance
  refine ⟨dishGoal, peakPending, site, peakAfter, watch, by rw [level, h.search], by rw [mem, h.wf], fun c hc kind => ?_,
    by rw [board]; exact h.left, fun sound => h.stops sound (dish sound) (waits sound) mast⟩
  have told := h.answered c hc kind
  unfold Answered at told ⊢
  rw [mem, board]
  exact told

/-- A mast goal set at once. -/
theorem HaltMade.goalSet {s u : State} (h : HaltMade s u) (goal : Int) (m : MastState) :
    HaltKept s ((setMastGoal u goal).withMastState m) :=
  h.keeps rfl rfl rfl rfl (fun _ _ _ => rfl) h.waits fun _ => rfl

/-- A mast goal that waits for the mast to come to rest. -/
theorem HaltMade.goalWaits {s u : State} (h : HaltMade s u) (why : GoalAtRest) :
    HaltKept s (u.withGoalAtRest (some why)) :=
  h.keeps rfl rfl rfl rfl (fun _ _ _ => rfl) h.waits fun _ => rfl

/-- A mast goal set at once, and the mast driven by it with no limit switch found. -/
theorem HaltMade.goalDriven {s u v : State} {goal : Int} (h : HaltMade s u) (driven : MastDriven (setMastGoal u goal) v)
    (rest : u.axes.mast.inMove = false) : HaltKept s v := by
  have sound : requestsSound s → requestsSound (setMastGoal u goal) := h.sound
  refine h.keeps (by rw [driven.stance]; rfl) driven.level driven.mem driven.board (fun requests a dish => ?_)
    (fun requests q hq => ?_) fun driving => ?_
  · refine (driven.dish (sound requests) a dish).settled ?_
    show (u.axis a).phase ≠ .waiting
    rw [h.dish requests a dish]
    cases phase : (s.axis a).phase <;> simp [AxisState.halted, phase]
  · rcases driven.waits (sound requests) q hq with old | mast
    · exact h.waits requests q old
    · exact mast
  · cases (h.driving driving).symm.trans rest

/-! ## The mast goal of a HALT at rest -/

/-- A stop leaves an axis that is not in its move. -/
theorem halted_resting (x : AxisState) (rest : x.inMove = false) : x.halted = x ∧ x.phase ≠ .waiting := by
  cases phase : x.phase <;> simp [AxisState.inMove, AxisState.halted, phase] at rest ⊢

/-- The state of a HALT with its mast goal set and nothing issued for it yet. -/
def haltedAt (v : State) : State := setMastGoal v (adoptedHeight (extension v))

theorem haltGoal_rest (v : State) (rest : v.axes.mast.inMove = false) : haltGoal v = recompute (haltedAt v) false := by
  simp only [haltGoal, rest, Bool.false_eq_true, if_false, recomputeEff, haltedAt]

theorem haltGoal_moving (v : State) (moves : v.axes.mast.inMove = true) :
    haltGoal v = v.withGoalAtRest (some .halt) := by
  rw [haltGoal, if_pos moves]

/-- What a later pass of the settling sees is the mast at rest alone. -/
theorem settleOnce_congr {s u : State} (h : mastRest s = mastRest u) : settleOnce s = settleOnce u := by
  have whole : ∀ t, settleOnce t = quiesceEnd (resumeStance (forcedStowEnd (completeOpen (judgeTriggers
      (searchPass (dishRest (stowStatusPass (mastRest t)))))))) := fun _ => rfl
  rw [whole, whole, h]

theorem endEvent_congr {s u : State} (before : State) (runs : running s = true) (runs' : running u = true)
    (h : mastRest s = mastRest u) : endEvent before s = endEvent before u := by
  rw [endEvent, endEvent, settle, settle, if_pos runs, if_pos runs', settleOnce_congr h]

theorem recompute_limit_found (x : State) (acts : Bool) (found : LimitFound (effState x))
    (due : (effActs x acts || (effState x).ctl.upwardDue) = true) (mode : x.ctl.mode = .normal)
    (search : x.level.search = none) (left : ∀ c ∈ x.board.openSet, ofKinds stanceKinds c = false) :
    recompute x acts = quietHalt (limitState (effState x)) := by
  obtain ⟨-, level, board, -, -, -, -, e, ctl⟩ := effState_same x
  have driven := driveMast_limit (effState x) (effActs x acts) found due (by rw [ctl, mode]) (by rw [level, search])
    (by rwa [board])
  refine (recompute_still x acts search ?_).trans driven
  rw [driven, quietHalt_stance]
  decide

theorem quietHalt_mode (s : State) : (quietHalt s).ctl.mode = .halted := by
  have stops : onlyDrives s.toHalted (controlledStops s.toHalted dishAxes) := aside_controlledStops ..
  rw [quietHalt]
  generalize controlledStops s.toHalted dishAxes = v at *
  obtain ⟨-, -, ⟨d, x, ctl⟩, -⟩ := dishToNone_dropped (v.withPeakPending false)
  obtain ⟨-, -, -, -, -, -, mode, -⟩ := haltedGoal_same (dishToNone (v.withPeakPending false))
  rw [setEff_ctl]
  show (haltedGoal (dishToNone (v.withPeakPending false))).ctl.mode = .halted
  rw [mode, ctl, withPeakPending_ctl, stops.ctl]
  rfl

/-- A mast that stands, taken as still rising, is put in force again as one that has come to rest. -/
theorem mastRest_rising (x : State) (g : Memory → Memory) (k : Word16) (rest : x.axes.mast.phase = .atRest)
    (settled : x.ctl.goalAtRest = none) :
    mastRest ((x.withMastState .rising).noted g k) = recompute ((x.withMastState (restingMast x)).noted g k) true := by
  have phase : ((x.withMastState .rising).noted g k).axes.mast.phase = .atRest := rest
  have state : ((x.withMastState .rising).noted g k).ctl.mastState = .rising := rfl
  have again : ((x.withMastState .rising).noted g k).withMastState (restingMast ((x.withMastState .rising).noted g k)) =
      (x.withMastState (restingMast x)).noted g k := rfl
  simp only [mastRest, phase, state, true_or, if_true]
  rw [again, fixGoal_none ((x.withMastState (restingMast x)).noted g k) settled, recomputeIssuing]

theorem running_noted (s : State) (g : Memory → Memory) (k : Word16) (mode : s.ctl.mode = .normal ∨ s.ctl.mode = .halted) :
    running (s.noted g k) = true := by
  have same : (s.noted g k).ctl = s.ctl := rfl
  rw [running, same]
  rcases mode with mode | mode <;> rw [mode]

/-- A limit switch found by a recompute: the end of the event finds it as well from the state before the recompute, with
the mast taken as still on its way. -/
theorem endEvent_limit (before x : State) (g : Memory → Memory) (k : Word16) (mode : x.ctl.mode = .normal)
    (search : x.level.search = none) (left : ∀ c ∈ x.board.openSet, ofKinds stanceKinds c = false)
    (found : LimitFound (effState x)) (due : (effActs x false || (effState x).ctl.upwardDue) = true) :
    endEvent before ((recompute x false).noted g k) = endEvent before ((x.withMastState .rising).noted g k) := by
  obtain ⟨-, -, -, -, axes, -, -, e, ctl⟩ := effState_same x
  have rest : x.axes.mast.phase = .atRest := by rw [← axes, found.rest]
  have settled : x.ctl.goalAtRest = none := by
    have waits := found.settled
    rwa [ctl] at waits
  have always : effActs x true = true := by
    rw [effActs]
    split <;> rfl
  have later := recompute_limit x true g k (restingMast x) found (by rw [always]; rfl) mode search left
  have failed := limitState_failed (effState x) (canIssue_idle _ found.issue)
  have stays := mastRest_quietHalt (limitState (effState x)) g k failed
  have halted := quietHalt_mode (limitState (effState x))
  rw [recompute_limit_found x false found due mode search left]
  generalize quietHalt (limitState (effState x)) = v at *
  refine endEvent_congr before (running_noted v g k (.inr halted)) (running_noted _ g k (.inl mode)) ?_
  rw [stays, mastRest_rising x g k rest settled, later]

/-- A recompute with the dish goal NONE that finds no limit switch drives the mast alone. -/
theorem recompute_driven (x : State) (rest : x.axes.mast.inMove = false) (goal : x.stance.dishGoal = .none)
    (search : x.level.search = none)
    (free : ¬ ((effActs x false || (effState x).ctl.upwardDue) = true ∧ LimitFound (effState x))) :
    MastDriven x (recompute x false) := by
  obtain ⟨stance, level, board, mem, axes, arb, -, e, ctl⟩ := effState_same x
  have driven := driveMast_driven (effState x) (effActs x false) (by rw [axes, rest])
    (by rw [stance, goal, DishGoal.aimed]) free
  rw [recompute_still x false search (by rw [driven.stance, stance, goal]; decide)]
  exact driven.of_eq stance level board mem (by rw [ctl]) axes arb

/-- Results are written last, into a slot that is not among those just answered. -/
theorem HaltKept.written {s v : State} (h : HaltKept s v) (n : Slot) (data : List Byte)
    (fresh : ∀ c ∈ s.board.openSet, c.slot ≠ n) :
    let u := writeResult v n .ok Warnings.empty data
    Answered u n 0 ∧ u.stance.dishGoal = .none ∧ u.stance.peakPending = false ∧ u.level.search = none ∧
    u.stance.site = s.stance.site ∧ u.stance.peakAfter = s.stance.peakAfter ∧ u.stance.watch = s.stance.watch ∧
    (∀ c ∈ s.board.openSet, ofKinds stanceKinds c = true → Answered u c.slot 19) ∧
    (∀ c ∈ u.board.openSet, ofKinds stanceKinds c = false) ∧
    (requestsSound s → ∀ a, controlledStopMade s u a) := by
  refine ⟨writeResult_answered v n .ok Warnings.empty data h.wf, h.dishGoal, h.peakPending, h.search, h.site, h.peakAfter,
    h.watch, fun c hc kind => ?_, fun c hc => ?_, h.stops⟩
  · exact answered_writeResult v n c.slot .ok Warnings.empty data _ (Ne.symm (fresh c hc)) (h.answered c hc kind)
  · rw [writeResult_openSet] at hc
    exact h.left c hc

end Sys2Proof.Machine

open Sys2Proof Sys2Proof.Machine

/-- The second part of O11: a HALT in HALTED. -/
theorem halt_halted (s : State) (n : Slot) (taken : Taken s .halt n) (sound : Sound s) (mode : s.ctl.mode = .halted) :
    ∃ u, exec .halt s = .next (endEvent s u) ∧ Answered u n 0 ∧
    u.stance = { s.stance with mastGoal := max 0 (min 15000 (extension s)) } ∧ u.board.openSet = s.board.openSet ∧
    u.axes = s.axes ∧ ∀ a, ¬ resultByte n a → read8 u.mem a = read8 s.mem a := by
  obtain ⟨hw, -⟩ := sound
  have own := takeEvent_passed s .halt ownHalt n taken
  rw [ownHalt_halted (popIntake s) n mode] at own
  set v := setEff ((popIntake s).withMastGoal (adoptedHeight (extension (popIntake s)))) with hv
  have wf : Memory.wf v.mem = true := hw
  obtain ⟨stance, -, -, -, ⟨-, -, -, -, axes, -⟩, openSet, -⟩ :=
    writeResult_same v n .ok Warnings.empty (haltData (popIntake s))
  refine ⟨writeResult v n .ok Warnings.empty (haltData (popIntake s)), congrArg Host.Outcome.next own,
    writeResult_answered v n .ok Warnings.empty _ wf, ?_, openSet, axes,
    fun a other => writeResult_other v n .ok Warnings.empty _ a other⟩
  rw [stance, ← adoptedHeight_eq]
  rfl

/-- The first part: a HALT in NORMAL. -/
theorem halt_normal (s : State) (n : Slot) (taken : Taken s .halt n) (sound : Sound s) (mode : s.ctl.mode ≠ .halted) :
    ∃ u, exec .halt s = .next (endEvent s u) ∧ Answered u n 0 ∧
    u.stance.dishGoal = .none ∧ u.stance.peakPending = false ∧ u.level.search = none ∧
    u.stance.site = s.stance.site ∧ u.stance.peakAfter = s.stance.peakAfter ∧ u.stance.watch = s.stance.watch ∧
    (∀ c ∈ s.board.openSet, ofKinds stanceKinds c = true → Answered u c.slot 19) ∧
    (∀ c ∈ u.board.openSet, ofKinds stanceKinds c = false) ∧
    (requestsSound s → ∀ a, controlledStopMade s u a) ∧
    (requestsSound s → s.axes.mast.inMove = false →
      u.stance.mastGoal = max 0 (min 15000 (extension s)) ∧ u.ctl.goalAtRest = none) ∧
    (s.axes.mast.phase = .driving → u.ctl.goalAtRest = some .halt ∧ u.stance.mastGoal = s.stance.mastGoal) := by
  obtain ⟨hw, -, hs, apart⟩ := sound
  obtain ⟨-, -, front, -, -, -, passed⟩ := id taken
  have normal : s.ctl.mode = .normal := by
    cases h : s.ctl.mode <;> simp_all [gate]
  have fresh : ∀ c ∈ s.board.openSet, c.slot ≠ n := fun c hc same =>
    apart n (List.mem_of_mem_head? front) (List.mem_map.mpr ⟨c, hc, same⟩)
  have own := takeEvent_passed s .halt ownHalt n taken
  rw [ownHalt_normal (popIntake s) n mode] at own
  have made : HaltMade (popIntake s) (haltDish (popIntake s)) := haltDish_made (popIntake s) hw hs
  generalize haltDish (popIntake s) = v at *
  generalize haltData (popIntake s) = data at *
  have height : extension v = extension s := congrArg (fun k => k.mast.1) made.kept
  have goal : (haltedAt v).stance.mastGoal = max 0 (min 15000 (extension s)) := by
    rw [← height, ← adoptedHeight_eq]
    rfl
  cases moves : v.axes.mast.inMove with
  | true =>
    rw [haltGoal_moving v moves] at own
    obtain ⟨ok, dishGoal, pending, search, site, peakAfter, watch, answered, left, stops⟩ :=
      (made.goalWaits .halt).written n data fresh
    refine ⟨_, congrArg Host.Outcome.next own, ok, dishGoal, pending, search, site, peakAfter, watch, answered, left, stops,
      fun requests rest => ?_, fun _ => ⟨rfl, ?_⟩⟩
    · obtain ⟨still, unwaiting⟩ := halted_resting s.axes.mast rest
      have kept : v.axes.mast = s.axes.mast.halted := made.mast requests unwaiting
      cases moves.symm.trans ((congrArg AxisState.inMove (kept.trans still)).trans rest)
    · show v.stance.mastGoal = s.stance.mastGoal
      rw [made.stance, popIntake_stance]
  | false =>
    have undriven : s.axes.mast.phase ≠ .driving := fun driving => by cases (made.driving driving).symm.trans moves
    rw [haltGoal_rest v moves] at own
    have unaimed : (haltedAt v).stance.dishGoal = .none := by
      show v.stance.dishGoal = .none
      rw [made.stance]
    have mode' : (haltedAt v).ctl.mode = .normal := by
      obtain ⟨d, x, ctl⟩ := made.ctl
      show v.ctl.mode = .normal
      rw [ctl]
      exact normal
    by_cases limit : (effActs (haltedAt v) false || (effState (haltedAt v)).ctl.upwardDue) = true ∧
        LimitFound (effState (haltedAt v))
    · obtain ⟨due, found⟩ := limit
      rw [writeResult_noted, endEvent_limit s (haltedAt v) _ _ mode' made.search made.left found due,
        ← writeResult_noted] at own
      obtain ⟨ok, dishGoal, pending, search, site, peakAfter, watch, answered, left, stops⟩ :=
        (made.goalSet (adoptedHeight (extension v)) .rising).written n data fresh
      exact ⟨_, congrArg Host.Outcome.next own, ok, dishGoal, pending, search, site, peakAfter, watch, answered, left, stops,
        fun _ _ => ⟨goal, rfl⟩, fun driving => absurd driving undriven⟩
    · have driven := recompute_driven (haltedAt v) moves unaimed made.search limit
      generalize recompute (haltedAt v) false = w at *
      obtain ⟨ok, dishGoal, pending, search, site, peakAfter, watch, answered, left, stops⟩ :=
        (made.goalDriven (goal := adoptedHeight (extension v)) driven moves).written n data fresh
      refine ⟨_, congrArg Host.Outcome.next own, ok, dishGoal, pending, search, site, peakAfter, watch, answered, left, stops,
        fun _ _ => ⟨?_, driven.goalAtRest⟩, fun driving => absurd driving undriven⟩
      show w.stance.mastGoal = _
      rw [driven.stance, goal]

/-- Settles O11, by mode. -/
theorem haltAccepted : Obligations.HaltAccepted :=
  fun s n taken sound => ⟨halt_normal s n taken sound, halt_halted s n taken sound⟩

end

section
/-! PROOFS. Where an event stores (R154, R158, R162): from any state on, what a command and its consequences write of
common memory lies in the slots of its commands, in the telemetry page or in the packages, the header write aside. -/
namespace Sys2Proof.Machine
set_option Elab.async false -- one lemma after another: elaborated at once they would each hold a thread

/-! ## Stores confined to some slots, the telemetry page and the packages -/

/-- A byte in one of the slots `ns`, in the telemetry page or from the packages on. -/
def moduleByte (ns : Slot → Prop) (a : Nat) : Prop :=
  (∃ n, ns n ∧ slotAddr n ≤ a ∧ a < slotAddr n + 64) ∨ (Config.telemetryBase ≤ a ∧ a < Config.siteBase) ∨
    Config.packageBase ≤ a

/-- `u` comes from `s` by stores to such bytes alone, in the canonical form, and its open commands and its exchange lie in
the slots `ns`. No NOTICE bit has been cleared, and no header write made. -/
structure Confined (ns : Slot → Prop) (s u : State) : Prop where
  wf : Memory.wf s.mem = true → Memory.wf u.mem = true
  bytes : ∀ a, ¬ moduleByte ns a → read8 u.mem a = read8 s.mem a
  opened : ∀ c ∈ u.board.openSet, ns c.slot
  exchange : u.swap.phase = .quiesce → ns u.swap.slot
  notice : ∀ k, s.board.notice.getLsbD k = true → u.board.notice.getLsbD k = true
  headerSeq : u.board.headerSeq = s.board.headerSeq

variable {ns : Slot → Prop} {s u v : State}

theorem Confined.refl (opened : ∀ c ∈ s.board.openSet, ns c.slot) (exchange : s.swap.phase = .quiesce → ns s.swap.slot) :
    Confined ns s s :=
  ⟨id, fun _ _ => rfl, opened, exchange, fun _ => id, rfl⟩

/-- With no slot barred every state is confined to itself. -/
theorem Confined.all (s : State) : Confined (fun _ => True) s s := .refl (fun _ _ => trivial) (fun _ => trivial)

/-- A change of other groups than memory, board and exchange. -/
theorem Confined.alike (h : Confined ns s u) (mem : v.mem = u.mem := by rfl) (board : v.board = u.board := by rfl)
    (swap : v.swap = u.swap := by rfl) : Confined ns s v := by
  obtain ⟨wf, bytes, opened, exchange, notice, headerSeq⟩ := h
  rw [← mem] at wf bytes
  rw [← board] at opened notice headerSeq
  rw [← swap] at exchange
  exact ⟨wf, bytes, opened, exchange, notice, headerSeq⟩

theorem Confined.drives (h : Confined ns s u) (only : onlyDrives u v) : Confined ns s v :=
  .alike h only.mem only.board only.swap

/-- A change of the board that opens commands in the slots alone and clears no NOTICE bit. -/
theorem Confined.withBoard (h : Confined ns s u) (b : Board) (opened : ∀ c ∈ b.openSet, ns c.slot)
    (notice : ∀ k, u.board.notice.getLsbD k = true → b.notice.getLsbD k = true)
    (headerSeq : b.headerSeq = u.board.headerSeq) : Confined ns s (u.withBoard b) :=
  ⟨h.wf, h.bytes, opened, h.exchange, fun k hk => notice k (h.notice k hk), headerSeq.trans h.headerSeq⟩

/-- A store of fields that lie in the bytes allowed. -/
theorem Confined.store (h : Confined ns s u) (fs : List (Nat × List Byte))
    (within : ∀ f ∈ fs, ∀ a, f.1 ≤ a → a < f.1 + f.2.length → moduleByte ns a) :
    Confined ns s (u.withMem (writeFields u.mem fs)) := by
  refine ⟨fun hw => writeFields_wf _ _ (h.wf hw), fun a ha => ?_, h.opened, h.exchange, h.notice, h.headerSeq⟩
  refine (read8_writeFields_other fs u.mem a fun f hf => ?_).trans (h.bytes a ha)
  by_contra inside
  exact ha (within f hf a (by omega) (by omega))

theorem Confined.storeBytes (h : Confined ns s u) (a : Nat) (bs : List Byte)
    (within : ∀ b, a ≤ b → b < a + bs.length → moduleByte ns b) : Confined ns s (u.withMem (writeBytes u.mem a bs)) :=
  h.store [(a, bs)] fun f hf => by
    rw [List.mem_singleton] at hf
    exact hf ▸ within

theorem Confined.foldl {α : Type} {f : State → α → State} (l : List α)
    (step : ∀ x ∈ l, ∀ t, Confined ns s t → Confined ns s (f t x)) (h : Confined ns s u) :
    Confined ns s (l.foldl f u) := by
  induction l generalizing u with
  | nil => exact h
  | cons x l ih =>
    exact ih (fun y hy => step y (List.mem_cons_of_mem x hy)) (step x List.mem_cons_self u h)

theorem Confined.withCtl (h : Confined ns s u) (x : Control) : Confined ns s (u.withCtl x) := .alike h

theorem Confined.withTelem (h : Confined ns s u) (x : Telemetry) : Confined ns s (u.withTelem x) := .alike h

theorem Confined.withDish (h : Confined ns s u) (d : DishState) : Confined ns s (u.withDish d) := by
  unfold State.withDish
  split
  · exact .alike h
  · exact .alike h

theorem Confined.ite {p : Prop} [Decidable p] (hu : Confined ns s u) (hv : Confined ns s v) :
    Confined ns s (if p then u else v) := by
  split
  · exact hu
  · exact hv

/-- An exchange that is over is held to no slot. -/
theorem Confined.exchangeOver (h : Confined ns s u) : Confined ns s (u.withSwap { u.swap with phase := .idle }) :=
  ⟨h.wf, h.bytes, h.opened, fun quiesce => (by cases quiesce), h.notice, h.headerSeq⟩

/-! ## Records (R158, R163) -/

theorem Confined.setNotice (h : Confined ns s u) (bit : Nat) : Confined ns s (setNotice u bit) :=
  h.withBoard _ h.opened (fun k hk => by rw [BitVec.getLsbD_or, hk, Bool.true_or]) rfl

theorem Confined.writeResult (h : Confined ns s u) {n : Slot} (hn : ns n) (c : Code) (w : Warnings) (data : List Byte) :
    Confined ns s (writeResult u n c w data) := by
  refine (h.store (resultFields n c w data) fun f hf a low high => .inl ⟨n, hn, ?_⟩).setNotice n.val
  simp only [resultFields, List.mem_cons, List.not_mem_nil, or_false] at hf
  rcases hf with rfl | rfl | rfl | rfl <;> simp at low high <;> omega

theorem Confined.refuse (h : Confined ns s u) {n : Slot} (hn : ns n) (c : Code) : Confined ns s (refuse u n c) :=
  h.writeResult hn c _ _

theorem Confined.popIntake (h : Confined ns s u) : Confined ns s (popIntake u) :=
  h.withBoard _ h.opened (fun _ => id) rfl

theorem Confined.openCommand (h : Confined ns s u) (c : OpenCommand) (hc : ns c.slot) :
    Confined ns s (openCommand u c) := by
  refine h.withBoard _ (fun d hd => ?_) (fun _ => id) rfl
  rcases List.mem_append.mp hd with old | new
  · exact h.opened d old
  · exact List.mem_singleton.mp new ▸ hc

theorem Confined.closeSlot (h : Confined ns s u) (n : Slot) : Confined ns s (closeSlot u n) :=
  h.withBoard _ (fun c hc => h.opened c (List.mem_of_mem_filter hc)) (fun _ => id) rfl

theorem Confined.complete (h : Confined ns s u) (c : OpenCommand) (hc : ns c.slot) (code : Code) :
    Confined ns s (complete u c code) :=
  (h.closeSlot c.slot).writeResult hc code _ _

theorem Confined.completeSwap (h : Confined ns s u) {n : Slot} (hn : ns n) (code : Code) (w : Warnings)
    (data : List Byte) : Confined ns s (completeSwap u n code w data) :=
  (h.closeSlot n).writeResult hn code w data

theorem Confined.openWhere (h : Confined ns s u) {p : OpenCommand → Bool} {c : OpenCommand} (hc : c ∈ openWhere u p) :
    ns c.slot :=
  h.opened c ((mem_openWhere u p c).mp hc).1

theorem Confined.endWhere (h : Confined ns s u) (p : OpenCommand → Bool) (code : Code) :
    Confined ns s (endWhere u p code) :=
  h.foldl _ fun c hc _ ht => ht.complete c (h.openWhere hc) code

theorem Confined.writeGeneration (h : Confined ns s u) (g : Word16) : Confined ns s (writeGeneration u g) := by
  refine (h.storeBytes Config.telemetryBase (leBytes 2 g.toNat) fun b low high => .inr (.inl ⟨low, ?_⟩)).withTelem _
  simp only [leBytes_length, Config.telemetryBase, Config.siteBase] at *
  omega

theorem Confined.startPage (h : Confined ns s u) : Confined ns s (startPage u) := by
  refine ((h.writeGeneration _).storeBytes (Config.telemetryBase + 2) (pageBytes u) fun b low high =>
    .inr (.inl ⟨by omega, ?_⟩)).withTelem _
  simp only [pageBytes, padBytes_length, Config.telemetryBase, Config.siteBase] at *
  omega

theorem Confined.endPage (h : Confined ns s u) : Confined ns s (endPage u) := by
  unfold Machine.endPage
  split
  · exact (h.writeGeneration _).withTelem _
  · exact h

/-! ## Faults (R92, R139 to R142) -/

theorem Confined.swapEarlyEnd (h : Confined ns s u) (code : Code) : Confined ns s (swapEarlyEnd u code) := by
  unfold Machine.swapEarlyEnd
  split
  next quiesce =>
    extract_lets data s1 s2 s3
    have ended : Confined ns s s1 := h.completeSwap (h.exchange quiesce) code Warnings.empty data
    clear_value s1
    exact .ite (.alike ended.exchangeOver) (.alike ended.exchangeOver)
  · exact h

theorem Confined.makeRoom (h : Confined ns s u) : Confined ns s (makeRoom u) := by
  unfold Machine.makeRoom
  split
  · exact h
  split
  · exact h
  · exact .ite (.alike h) (.alike h)

theorem Confined.putFault (h : Confined ns s u) (f : FaultId) : Confined ns s (putFault u f) := by
  have room := h.makeRoom
  unfold Machine.putFault
  generalize Machine.makeRoom u = t at room
  refine .ite ?_ room
  have put : Confined ns s (Machine.setNotice (t.withIlk { t.ilk with
      faults := t.ilk.faults ++ [f], first := firstAfter u f }) noticeFault) := .setNotice (.alike room) _
  exact .ite (.alike put) put

theorem Confined.addFault (h : Confined ns s u) (f : FaultId) : Confined ns s (addFault u f) :=
  .ite h (h.putFault f)

theorem Confined.reportFault (h : Confined ns s u) (f : FaultId) : Confined ns s (reportFault u f) :=
  .ite h ((h.putFault f).swapEarlyEnd .faulted)

/-! ## Reactions (R25, R26, R74, R110) -/

theorem Confined.updateOpen (h : Confined ns s u) (f : OpenCommand → OpenCommand) (slots : ∀ c, (f c).slot = c.slot) :
    Confined ns s (updateOpen u f) := by
  refine h.withBoard _ (fun c hc => ?_) (fun _ => id) rfl
  obtain ⟨d, hd, rfl⟩ := List.mem_map.mp hc
  exact slots d ▸ h.opened d hd

theorem Confined.tellSearch (h : Confined ns s u) (o : SearchOutcome) : Confined ns s (tellSearch u o) := by
  unfold Machine.tellSearch
  split
  · exact h
  · exact .ite (h.updateOpen _ fun d => by split <;> rfl) h

theorem Confined.dropSearch (h : Confined ns s u) (keep : Bool) : Confined ns s (dropSearch u keep) := by
  unfold Machine.dropSearch
  split
  · exact h
  · exact .ite (.alike h) (.alike h)

theorem Confined.stopSearch (h : Confined ns s u) (o : SearchOutcome) (keep : Bool) :
    Confined ns s (stopSearch u o keep) :=
  (h.tellSearch o).dropSearch keep

end Sys2Proof.Machine
end

section
/-! PROOFS. Where searches, the live site and the issue of moves store (R6 to R12, R25, R26, R35, R42 to R44, R64 to R77):
each shared operation keeps `Confined`. -/
namespace Sys2Proof.Machine
set_option Elab.async false -- one lemma after another: elaborated at once they would each hold a thread

variable {ns : Slot → Prop} {s u v : State}

theorem Confined.endSearch (h : Confined ns s u) (o : SearchOutcome) (code : Code) :
    Confined ns s (endSearch u o code) := by
  unfold Machine.endSearch
  split
  · exact h
  · exact .ite ((h.stopSearch o false).endWhere ownsSearch code) (h.stopSearch o false)

theorem Confined.dishStands (h : Confined ns s u) : Confined ns s (dishStands u) := by
  unfold Machine.dishStands
  split
  · exact .alike h
  split
  · exact .alike (h.withDish _)
  split
  · exact .alike (h.withDish .parked)
  · exact .alike h

theorem Confined.controlledStops (h : Confined ns s u) (l : List Axis) : Confined ns s (controlledStops u l) :=
  h.drives (aside_controlledStops u l)

theorem Confined.dishToNone (h : Confined ns s u) : Confined ns s (dishToNone u) :=
  (Confined.controlledStops (.alike h) dishAxes).dishStands

theorem Confined.haltedGoal (h : Confined ns s u) : Confined ns s (haltedGoal u) := by
  unfold Machine.haltedGoal
  split
  · exact .alike h
  · exact .ite (.alike h) (.alike h)

theorem Confined.enterHalted (h : Confined ns s u) : Confined ns s (enterHalted u) := by
  unfold Machine.enterHalted
  extract_lets ended ctl halted stopped silent told still
  have left : Confined ns s ended := h.swapEarlyEnd .faulted
  clear_value ended
  have answered : Confined ns s told :=
    ((Confined.controlledStops (.alike left) dishAxes).stopSearch .faulted false).endWhere (ofKinds stanceKinds) .faulted
  clear_value told
  have stands : Confined ns s still := .dishToNone (.alike answered)
  clear_value still
  exact .alike stands.haltedGoal

theorem Confined.mastFaultReact (h : Confined ns s u) : Confined ns s (mastFaultReact u) :=
  .ite (.alike h) (.enterHalted (.alike h))

theorem Confined.dishFaultReact (h : Confined ns s u) : Confined ns s (dishFaultReact u) := by
  unfold Machine.dishFaultReact
  split
  · exact h.withDish .failed
  extract_lets stopped silent failed
  have search : Confined ns s silent := .alike ((h.controlledStops dishAxes).stopSearch .faulted false)
  clear_value silent
  have given : Confined ns s failed := .alike (search.withDish .failed)
  exact given.endWhere _ _

theorem Confined.axisReact (h : Confined ns s u) (a : Axis) : Confined ns s (axisReact u a) :=
  .ite (.ite h.mastFaultReact h.dishFaultReact) h

theorem Confined.axisFault (h : Confined ns s u) (a : Axis) (f : FaultId) : Confined ns s (axisFault u a f) :=
  (h.reportFault f).axisReact a

theorem Confined.orLimit {r : State × Bool} (h : Confined ns s r.1) (a : Axis) : Confined ns s (orLimit r a) :=
  .ite (h.axisFault a (.limit a)) h

theorem Confined.axisGive (h : Confined ns s u) (a : Axis) (t : Int) (p : Priority) :
    Confined ns s (axisGive u a t p).1 :=
  h.drives (axisGive_drives u a t p)

theorem Confined.giveTarget (h : Confined ns s u) (a : Axis) (t : Int) : Confined ns s (giveTarget u a t) :=
  (h.axisGive a t _).orLimit a

theorem Confined.giveDishAxis (h : Confined ns s u) (a : Axis) (t : Int) : Confined ns s (giveDishAxis u a t) :=
  .ite h (h.giveTarget a t)

theorem Confined.giveDish (h : Confined ns s u) (t : Targets) : Confined ns s (giveDish u t) :=
  ((h.giveDishAxis .pan t.pan).giveDishAxis .tilt t.tilt).giveDishAxis .pol t.pol

theorem Confined.giveMast (h : Confined ns s u) (t : Int) : Confined ns s (giveMast u t) :=
  .giveTarget (.alike h) .mast t

/-! ## Searches (R64 to R77) -/

theorem Confined.nestWait (h : Confined ns s u) : Confined ns s (nestWait u) := .alike (h.withDish .nestWait)

theorem Confined.slewTo (h : Confined ns s u) (t : Targets) : Confined ns s (slewTo u t) :=
  .ite h.dishStands (.ite h.nestWait (.giveDish (.alike (h.withDish .slewing)) t))

theorem Confined.returnToSite (h : Confined ns s u) : Confined ns s (returnToSite u) :=
  .ite (h.withDish .onSolution) (h.slewTo _)

theorem Confined.searchSensor (h : Confined ns s u) : Confined ns s (searchSensor u) := by
  unfold Machine.searchSensor
  split
  · exact h
  · exact (h.endSearch .sensor .faulted).slewTo _

theorem Confined.searchLock (h : Confined ns s u) (c : Search) (lc : Int) : Confined ns s (searchLock u c lc) := by
  unfold Machine.searchLock
  extract_lets s1 s2 ctl s3 s4
  have trimmed : Confined ns s s1 := by
    unfold s1
    split
    · exact h
    · exact .alike h
  have locked : Confined ns s s3 := .alike (.withDish (.alike trimmed) .locked)
  exact .endSearch (.ite (.alike locked) locked) _ _

theorem Confined.searchNoSignal (h : Confined ns s u) (c : Search) : Confined ns s (searchNoSignal u c) :=
  .slewTo (.alike (h.endSearch .noSignal .ok)) _

theorem Confined.touchUpNoSignal (h : Confined ns s u) (c : Search) : Confined ns s (touchUpNoSignal u c) :=
  .slewTo (.alike (.setNotice (.alike (h.endSearch .noSignal .ok)) noticeCondition)) _

theorem Confined.searchFinish (h : Confined ns s u) (c : Search) : Confined ns s (searchFinish u c) := by
  have searching : Confined ns s (u.withSearch c) := .alike h
  unfold Machine.searchFinish
  refine .ite (searching.searchLock c _) ?_
  split
  · exact searching.searchNoSignal c
  · exact searching.touchUpNoSignal c

theorem Confined.askTargets (h : Confined ns s u) (c : Search) (t : Targets) : Confined ns s (askTargets u c t) :=
  .ite (.alike h) (.giveDish (.alike h) t)

theorem Confined.compareAxis (h : Confined ns s u) (c : Search) (ax : ProbeAxis) : Confined ns s (compareAxis u c ax) :=
  h.askTargets _ _

theorem Confined.tryMinus (h : Confined ns s u) (c : Search) (ax : ProbeAxis) : Confined ns s (tryMinus u c ax) :=
  .ite (h.compareAxis _ ax) (h.askTargets _ _)

theorem Confined.tryPlus (h : Confined ns s u) (c : Search) (ax : ProbeAxis) : Confined ns s (tryPlus u c ax) :=
  .ite (h.tryMinus _ ax) (h.askTargets _ _)

theorem Confined.startRound (h : Confined ns s u) (c : Search) : Confined ns s (startRound u c) := h.tryPlus _ .pan

theorem Confined.roundEnd (h : Confined ns s u) (c : Search) : Confined ns s (roundEnd u c) :=
  .ite (h.startRound c) (.ite (h.searchFinish _) (h.startRound _))

theorem Confined.afterBack (h : Confined ns s u) (c : Search) (ax : ProbeAxis) : Confined ns s (afterBack u c ax) := by
  unfold Machine.afterBack
  refine .ite (h.searchFinish c) ?_
  cases ax with
  | pan => exact h.tryPlus c .tilt
  | tilt => exact h.roundEnd c

theorem Confined.searchGo (h : Confined ns s u) (n : Nat) : Confined ns s (searchGo n u) := by
  induction n generalizing u with
  | zero => exact h
  | succ n ih =>
    unfold Machine.searchGo
    split
    · exact h
    split
    · refine .ite ?_ h
      split
      · exact ih (h.afterBack _ _)
      · exact .ite (.alike h) h
      · exact .ite (.alike h) h
    · exact .ite h (.alike h)
    · exact .ite h (.alike h)

theorem Confined.measured (h : Confined ns s u) (c : Search) (m : Int) : Confined ns s (measured u c m) := by
  unfold Machine.measured
  split
  · exact h.startRound _
  · exact .ite (h.tryMinus _ _) (h.compareAxis _ _)
  · exact h

theorem Confined.searchSample (h : Confined ns s u) (level : Int) : Confined ns s (searchSample u level) := by
  unfold Machine.searchSample
  split
  · exact h
  split
  · exact h
  · exact h
  · exact .ite (.alike h) (h.measured _ _)

theorem Confined.freshSolution (h : Confined ns s u) {site : Fin 32} (fresh : freshSolution u site = some v) :
    Confined ns s v := by
  unfold Machine.freshSolution at fresh
  split at fresh
  · exact Option.some.inj fresh ▸ h
  split at fresh
  · cases fresh
  · obtain ⟨-, stored⟩ := Option.ite_none_right_eq_some.mp fresh
    exact Option.some.inj stored ▸ .alike h

theorem Confined.startSearch (h : Confined ns s u) (kind : SearchKind) : Confined ns s (startSearch u kind) := by
  unfold Machine.startSearch
  split
  · exact h
  next site _ =>
    extract_lets c s1
    have begun : Confined ns s s1 := .alike (h.withDish .peaking)
    clear_value s1
    split
    · exact (begun.endSearch .abandoned .ok).returnToSite
    next s2 usable =>
      have solved := begun.freshSolution (Option.ite_none_right_eq_some.mp usable).2
      exact .ite solved.searchSensor (solved.askTargets _ _)

/-! ## The live site (R35, R42 to R44) -/

theorem Confined.obtainSolution (h : Confined ns s u) (site : Fin 32) : Confined ns s (obtainSolution u site) := by
  unfold Machine.obtainSolution
  split
  · exact h
  · exact .alike h

theorem Confined.deriveSite (h : Confined ns s u) : Confined ns s (deriveSite u) := .ite h (.alike h)

theorem Confined.retargetDish (h : Confined ns s u) (old t : Targets) : Confined ns s (retargetDish u old t) := by
  have pan : Confined ns s (if t.pan = old.pan then u else Machine.giveDishAxis u .pan t.pan) :=
    .ite h (h.giveDishAxis _ _)
  have tilt := Confined.ite (p := t.tilt = old.tilt) pan (pan.giveDishAxis .tilt t.tilt)
  exact .ite tilt (tilt.giveDishAxis .pol t.pol)

theorem Confined.reslew (h : Confined ns s u) (old : Targets) : Confined ns s (reslew u old) := by
  unfold Machine.reslew
  split
  · exact .ite h (.ite (.ite h h.nestWait) (h.retargetDish _ _))
  · exact .ite (.slewTo (.alike h) _) (.alike h)
  · exact .ite (.slewTo (.alike h) _) (.alike h)
  · exact .slewTo (.alike (h.endSearch .abandoned .ok)) _
  all_goals exact h

theorem Confined.notRecomputed (h : Confined ns s u) (site : Fin 32) (force : Bool) :
    Confined ns s (notRecomputed u site force) :=
  .ite ((h.endSearch .abandoned .ok).slewTo _) h

theorem Confined.recomputeLive (h : Confined ns s u) (force : Bool) : Confined ns s (recomputeLive u force).1 := by
  unfold Machine.recomputeLive
  split
  · exact h
  split
  · exact h.notRecomputed _ _
  extract_lets e s1 t
  split
  · exact .reslew (.alike h) _
  · exact .alike h

theorem Confined.recomputeSite (h : Confined ns s u) : Confined ns s (recomputeSite u) := .ite (h.recomputeLive false) h

/-! ## Issue of moves (R6, R7, R9 to R11) -/

theorem Confined.issueDish (h : Confined ns s u) : Confined ns s (issueDish u) := by
  unfold Machine.issueDish
  split
  · exact .ite (h.giveDish _) h
  split
  · exact h
  · exact .giveDish (.alike (h.withDish .stowing)) _
  · exact .ite h.nestWait (.giveDish (.alike (h.deriveSite.withDish .slewing)) _)
  · exact .ite h.nestWait (.giveDish (.alike (h.withDish .slewing)) _)

theorem Confined.holdDish (h : Confined ns s u) : Confined ns s (holdDish u) := by
  unfold Machine.holdDish
  refine .ite h ?_
  split
  · exact h.dishStands
  · exact h.dishStands
  · exact .ite h.nestWait h.dishStands
  · exact .ite h.nestWait h.dishStands

theorem Confined.pursueDish (h : Confined ns s u) : Confined ns s (pursueDish u) := .ite h.issueDish h.holdDish

theorem Confined.setDishGoal (h : Confined ns s u) (g : DishGoal) : Confined ns s (setDishGoal u g) := by
  cases g with
  | none => exact h.dishToNone
  | stow => exact .pursueDish (.alike h)
  | site => exact .pursueDish (.alike h)
  | point t => exact .pursueDish (.alike h)

theorem Confined.reissueDish (h : Confined ns s u) : Confined ns s (reissueDish u) :=
  .ite (.ite (h.deriveSite.startSearch .full) (.ite (h.deriveSite.startSearch .touchUp) h.deriveSite)) h.issueDish

theorem Confined.issueMast (h : Confined ns s u) (t : Int) : Confined ns s (issueMast u t) :=
  .ite (.alike h) (.giveMast (.alike h) t)

theorem Confined.driveResting (h : Confined ns s u) : Confined ns s (driveResting u) :=
  .ite (.ite (h.issueMast _) (.alike h)) (h.issueMast _)

theorem Confined.driveMast (h : Confined ns s u) (acts : Bool) : Confined ns s (driveMast u acts) := by
  unfold Machine.driveMast
  refine .ite h ?_
  split
  · exact h.driveResting
  all_goals exact h.issueMast _

theorem Confined.abandonForHeight (h : Confined ns s u) : Confined ns s (abandonForHeight u) :=
  .ite (.alike (h.endSearch .abandoned .ok)) h

theorem Confined.heightSlew (h : Confined ns s u) (before : State) : Confined ns s (heightSlew before u) :=
  .ite (h.slewTo _) h

theorem Confined.recompute (h : Confined ns s u) (acts : Bool) : Confined ns s (recompute u acts) :=
  .ite (h.driveMast acts) ((Confined.driveMast (.alike h.abandonForHeight) true).heightSlew u).recomputeSite

theorem Confined.recomputeEff (h : Confined ns s u) : Confined ns s (recomputeEff u) := h.recompute false

theorem Confined.recomputeIssuing (h : Confined ns s u) : Confined ns s (recomputeIssuing u) := h.recompute true

theorem Confined.takeRecorded (h : Confined ns s u) (before : State) (a : Axis) :
    Confined ns s (takeRecorded before u a) := by
  unfold Machine.takeRecorded
  split
  · exact h
  · exact .ite h (.ite (.alike h) (.ite ((h.axisGive a _ _).orLimit a) h))

theorem Confined.downCrossing (h : Confined ns s u) : Confined ns s (downCrossing u) := by
  unfold Machine.downCrossing
  split
  · exact h
  extract_lets t
  have stopped : Confined ns s t := h.controlledStops (straying u)
  clear_value t
  refine .ite stopped ?_
  split
  · exact stopped
  · exact stopped
  · exact .alike stopped
  · exact .alike stopped

theorem Confined.upCrossing (h : Confined ns s u) : Confined ns s (upCrossing u) := by
  unfold Machine.upCrossing
  refine .ite h (.ite h.issueDish ?_)
  split
  · exact h
  · exact .ite (h.giveDish _) h

theorem Confined.nestCrossings (h : Confined ns s u) (old : Int) : Confined ns s (nestCrossings old u) :=
  .ite h.upCrossing (.ite h.downCrossing h)

end Sys2Proof.Machine
end

section
/-! PROOFS. Where the consequences of an event store (R87 to R93, R143 to R148) and the Wind Monitor (R125 to R133). -/
namespace Sys2Proof.Machine
set_option Elab.async false -- one lemma after another: elaborated at once they would each hold a thread

variable {ns : Slot → Prop} {s u v : State}

/-! ## Forced stow (R143, R145, R148) -/

theorem Confined.forcedStowStart (h : Confined ns s u) : Confined ns s (forcedStowStart u) := by
  unfold Machine.forcedStowStart
  extract_lets mode silent told low goal ctl stow
  have left : Confined ns s mode := .alike (h.swapEarlyEnd .interlock)
  clear_value mode
  have answered : Confined ns s told := (left.stopSearch .abandoned false).endWhere _ _
  clear_value told
  have lowered : Confined ns s low := .alike answered
  clear_value low
  have stows : Confined ns s stow := .alike lowered
  clear_value stow
  exact .ite (.alike stows) (Confined.driveMast (.alike stows) true).pursueDish

theorem Confined.takeTrigger (h : Confined ns s u) (f : Option FaultId) : Confined ns s (takeTrigger u f) := by
  unfold Machine.takeTrigger
  extract_lets t
  have added : Confined ns s t := by
    unfold t
    split
    · exact h
    · exact h.addFault _
  split
  · exact added.forcedStowStart
  · exact added.forcedStowStart
  all_goals exact added

theorem Confined.takeTriggers (h : Confined ns s u) (t : Triggers) : Confined ns s (takeTriggers u t) := by
  have step : ∀ {w : State} (b : Bool) (f : Option FaultId), Confined ns s w →
      Confined ns s (if b then Machine.takeTrigger w f else w) := fun _ f hw => .ite (hw.takeTrigger f) hw
  exact step _ _ (step _ _ (step _ _ (step _ _ h)))

theorem Confined.judgeTriggers (h : Confined ns s u) : Confined ns s (judgeTriggers u) :=
  .ite (.takeTriggers (.alike h) _) h

theorem Confined.takeAll (h : Confined ns s u) : Confined ns s (takeAll u) := .takeTriggers (.alike h) _

theorem Confined.forcedStowEnd (h : Confined ns s u) : Confined ns s (forcedStowEnd u) :=
  .ite h (.ite (Confined.endWhere (.alike h) (ofKinds [.stow]) .ok).recomputeEff (.ite h.enterHalted h))

/-! ## The exchange (R87 to R93) -/

theorem Confined.quiesceStart (h : Confined ns s u) : Confined ns s (quiesceStart u) := by
  unfold Machine.quiesceStart
  extract_lets searching kept level stopped
  have left : Confined ns s kept := .ite (.alike (h.stopSearch .abandoned true)) h
  clear_value kept
  have stops : Confined ns s stopped := .controlledStops (.alike left) allAxes
  clear_value stopped
  exact .ite stops.dishStands (.ite stops stops.dishStands)

theorem Confined.writeOut (h : Confined ns s u) : Confined ns s (writeOut u) :=
  h.storeBytes _ _ fun _ low _ => .inr (.inr ((Nat.le_add_right _ _).trans low))

theorem Confined.driveStance (h : Confined ns s u) : Confined ns s (driveStance u) := by
  unfold Machine.driveStance
  extract_lets t
  have driven : Confined ns s t := h.driveMast true
  split
  · exact driven.dishStands
  all_goals exact driven.pursueDish

theorem Confined.loadPackage (h : Confined ns s u) (quiesce : u.swap.phase = .quiesce) :
    Confined ns s (loadPackage u) := by
  obtain ⟨served, -⟩ := servedLoad_loaded u
  have load : Confined ns s (servedLoad u) := h.alike served.mem served.board served.swap
  have stays : (servedLoad u).swap.phase = .quiesce := served.swap ▸ quiesce
  show Confined ns s (Machine.driveStance (loadedState u))
  unfold loadedState
  generalize servedLoad u = t at load stays
  extract_lets p r told data ended
  have answered : Confined ns s told := load.endWhere (ofKinds stanceKinds) .swappedOut
  obtain ⟨-, -, -, -, -, -, -, swap, -⟩ := endWhere_same t (ofKinds stanceKinds) .swappedOut
  have slot : ns told.swap.slot := answered.exchange (swap ▸ stays)
  have completed : Confined ns s ended := answered.completeSwap slot _ _ _
  clear_value ended
  exact completed.exchangeOver.driveStance

theorem Confined.quiesceEnd (h : Confined ns s u) : Confined ns s (quiesceEnd u) := by
  unfold Machine.quiesceEnd
  split
  next due => exact h.writeOut.loadPackage due.1
  · exact h

theorem Confined.resumeStance (h : Confined ns s u) : Confined ns s (resumeStance u) := by
  unfold Machine.resumeStance
  split
  · extract_lets ctl t
    have left : Confined ns s t := .alike h
    clear_value t
    exact .ite (.ite left.recomputeIssuing.reissueDish left.recomputeIssuing) left
  · exact h

/-! ## What every event brings about -/

theorem Confined.unaim (h : Confined ns s u) (why : GoalAtRest) : Confined ns s (unaim u why) := by
  have silent : Confined ns s ((Machine.stopSearch u .abandoned false).withPeakPending false) :=
    .alike (h.stopSearch .abandoned false)
  cases why with
  | halt => exact (silent.endWhere _ _).setDishGoal .none
  | overhead => exact (silent.endWhere _ _).setDishGoal .stow
  | halted => exact (silent.endWhere _ _).setDishGoal .none

theorem Confined.fixGoal (h : Confined ns s u) : Confined ns s (fixGoal u) := by
  unfold Machine.fixGoal
  split
  · exact h
  · exact .ite (.unaim (.alike h) _) (.alike h)

theorem Confined.mastRest (h : Confined ns s u) : Confined ns s (mastRest u) := by
  unfold Machine.mastRest
  split
  · exact .ite (Confined.fixGoal (.alike h)).recomputeIssuing (.ite h.fixGoal.recomputeIssuing h)
  · exact .ite h.fixGoal.recomputeEff h
  all_goals exact h

theorem Confined.stowStatusPass (h : Confined ns s u) : Confined ns s (stowStatusPass u) :=
  .ite h (.recomputeEff (.alike h))

theorem Confined.arriveSite (h : Confined ns s u) : Confined ns s (arriveSite u) := by
  unfold Machine.arriveSite
  extract_lets marked t
  have answered : Confined ns s t := .endWhere (.alike (h.withDish .onSolution)) _ _
  exact .ite (answered.startSearch .full) (.ite (answered.startSearch .touchUp) answered)

theorem Confined.arriveDish (h : Confined ns s u) : Confined ns s (arriveDish u) := by
  unfold Machine.arriveDish
  split
  · exact h.arriveSite
  · exact .endWhere (.alike (h.withDish .parked)) _ _
  · exact h.withDish _
  · exact h.withDish _

theorem Confined.shortRest (h : Confined ns s u) (k : StopShort) : Confined ns s (shortRest u k) := by
  have rested : Confined ns s (u.withDishShort none) := .alike h
  cases k with
  | stop => exact rested.withDish _
  | nest => exact .ite rested.nestWait rested.pursueDish

theorem Confined.dishRest (h : Confined ns s u) : Confined ns s (dishRest u) := by
  unfold Machine.dishRest
  refine .ite h ?_
  split
  · exact h.shortRest _
  split
  · exact h.withDish _
  · exact .ite h.arriveDish (h.withDish _)
  · exact .ite h (h.withDish _)
  all_goals exact h

theorem Confined.completeHeights (h : Confined ns s u) : Confined ns s (completeHeights u) :=
  h.foldl _ fun c hc _ ht => ht.complete (c.atHeight u) (h.openWhere (c := c) hc) .ok

theorem Confined.completeOpen (h : Confined ns s u) : Confined ns s (completeOpen u) := by
  unfold Machine.completeOpen
  refine .ite h ?_
  split
  · exact h.endWhere _ _
  · have heights : Confined ns s (if heightReached u then Machine.completeHeights u else u) := .ite h.completeHeights h
    exact .ite (heights.endWhere _ _) heights
  all_goals exact h

theorem Confined.settleOnce (h : Confined ns s u) : Confined ns s (settleOnce u) :=
  (Confined.searchGo h.mastRest.stowStatusPass.dishRest
    searchFuel).judgeTriggers.completeOpen.forcedStowEnd.resumeStance.quiesceEnd

/-- What an event brings about is confined to the slots of its commands. -/
theorem Confined.settle (h : Confined ns s u) : Confined ns s (settle u) :=
  .ite h.settleOnce.settleOnce.settleOnce h

/-! ## Wind, standby and start-up (R125 to R133, R166 to R171) -/

theorem Confined.judgeFigure (h : Confined ns s u) (figure : Nat) (mayFall off : Bool) :
    Confined ns s (judgeFigure u figure mayFall off) :=
  .ite (.alike h) (.ite (.alike h) (.ite (.alike h) h))

theorem Confined.handOff (h : Confined ns s u) (before : State) : Confined ns s (handOff before u) := by
  have handed : Confined ns s (if effCeiling before = effCeiling u then u
      else Machine.recomputeEff (Machine.judgeTriggers u)) := .ite h h.judgeTriggers.recomputeEff
  exact .ite handed (handed.setNotice _)

theorem Confined.sampleWindow (h : Confined ns s u) (pulses : Nat) : Confined ns s (sampleWindow u pulses) :=
  .ite (.alike h) h

theorem Confined.sampleFigure (h : Confined ns s u) (pulses : Nat) : Confined ns s (sampleFigure u pulses) := by
  have sampled := h.sampleWindow pulses
  unfold Machine.sampleFigure
  split
  · exact .ite (.alike sampled) sampled
  · exact h
  · exact .alike h
  · exact .ite (.alike sampled) (.alike sampled)

theorem Confined.windSample (h : Confined ns s u) (pulses : Nat) : Confined ns s (windSample u pulses) := by
  have second : Confined ns s (newSecond (ageHold (ageResidency (Machine.sampleFigure u pulses)))) :=
    .alike (h.sampleFigure pulses)
  exact (second.judgeFigure _ true false).handOff _

theorem Confined.primingLoss (h : Confined ns s u) : Confined ns s (primingLoss u) := .alike (h.reportFault _)

theorem Confined.startPriming (h : Confined ns s u) : Confined ns s (startPriming u) :=
  .ite (.alike h) (.primingLoss (.alike h))

theorem Confined.primingSample (h : Confined ns s u) (pulses : Nat) : Confined ns s (primingSample u pulses) :=
  .alike (h.sampleWindow pulses)

theorem Confined.endPriming (h : Confined ns s u) (pulses : Nat) : Confined ns s (endPriming u pulses) := by
  have sampled := h.primingSample pulses
  unfold Machine.endPriming
  extract_lets t w judged
  have band : Confined ns s judged := .ite (.alike sampled) (.alike sampled)
  clear_value judged
  exact .alike band

end Sys2Proof.Machine
end

section
/-! PROOFS. Where standby, start-up, the axes, the lines and the commands store (R15 to R22, R61 to R64, R85, R99 to R112,
R138, R149, R164, R170). -/
namespace Sys2Proof.Machine
set_option Elab.async false -- one lemma after another: elaborated at once they would each hold a thread

variable {ns : Slot → Prop} {s u v : State}

theorem Confined.wakeIfAsleep (h : Confined ns s u) : Confined ns s (wakeIfAsleep u) :=
  .ite (.startPriming (.alike h)) h

theorem Confined.stopTelemetry (h : Confined ns s u) : Confined ns s (stopTelemetry u) := h.endPage.withTelem _

theorem Confined.enterStandby (h : Confined ns s u) : Confined ns s (enterStandby u) := by
  unfold Machine.enterStandby
  extract_lets goal sleeping power asleep silent
  have unaimed : Confined ns s goal := .ite (.alike h) h
  clear_value goal
  have lowered : Confined ns s sleeping := .alike unaimed
  clear_value sleeping
  have sleeps : Confined ns s asleep := .alike lowered
  clear_value asleep
  have quiet : Confined ns s (stopWind (stopLevel asleep)) := .alike sleeps
  have stops : Confined ns s silent := quiet.stopTelemetry.withCtl _
  clear_value silent
  exact .ite stops (.startPriming (.alike stops))

theorem Confined.readyStates (h : Confined ns s u) : Confined ns s (readyStates u) :=
  ((h.withDish _).withCtl _).withCtl _

theorem Confined.signalReady (h : Confined ns s u) : Confined ns s (signalReady u) := .setNotice (.alike h) _

theorem Confined.readyHalted (h : Confined ns s u) : Confined ns s (readyHalted u) := .ite h.enterHalted h

theorem Confined.warmAxis (h : Confined ns s u) (a : Axis) : Confined ns s (warmAxis u a) :=
  .ite h (.alike (h.reportFault _))

theorem Confined.warmUpEnded (h : Confined ns s u) : Confined ns s (warmUpEnded u) := by
  unfold Machine.warmUpEnded
  extract_lets sensed axes read power
  have folded : Confined ns s (allAxes.foldl Machine.warmAxis u) := h.foldl _ fun a _ _ ht => ht.warmAxis a
  have senses : Confined ns s sensed := .ite folded (folded.reportFault _)
  clear_value sensed
  exact .startPriming (.alike senses)

theorem Confined.warmUpReading (h : Confined ns s u) : Confined ns s (warmUpReading u) := .ite h.warmUpEnded h

/-! ## Axes (R99 to R110) -/

theorem Confined.putReading (h : Confined ns s u) (a : Axis) (v : Int) : Confined ns s (putReading u a v) :=
  .ite (.alike h) (.alike h)

theorem Confined.readingMoves (h : Confined ns s u) (a : Axis) (old : Int) : Confined ns s (readingMoves u a old) :=
  .ite (.nestCrossings (.ite (.alike h) h) old) h

theorem Confined.stopFault (h : Confined ns s u) (a : Axis) (f : FaultId) :
    Confined ns s (Machine.axisFault (immediateStop u a true) a f) :=
  (h.drives (aside_immediateStop u a true)).axisFault a f

theorem aside_axisEnd (s : State) (a : Axis) : (axisEnd s a).aside = s.aside := by
  rw [axisEnd, aside_releaseGrant, aside_withAxis]

theorem aside_standstillAxis (s : State) (a : Axis) : (standstillAxis s a).aside = s.aside := by
  cases a with
  | mast =>
    unfold standstillAxis
    simp only []
    (repeat' split) <;> simp [aside_axisEnd]
  | _ =>
    unfold standstillAxis
    simp only []
    (repeat' split) <;> simp [aside_axisEnd]

theorem aside_lockEngaged (s : State) : (lockEngaged s).aside = s.aside := by
  unfold lockEngaged
  simp only []
  split
  · rfl
  · rw [aside_axisEnd, aside_withLock]

theorem aside_lockReleased (s : State) : (lockReleased s).aside = s.aside := by
  unfold lockReleased
  simp only []
  (repeat' split) <;> simp

theorem aside_holdAxes (s : State) : (holdAxes s).aside = s.aside :=
  aside_foldl _ (fun u a => aside_immediateStop u a false) allAxes (s.withArb ⟨[], []⟩)

/-! ## Level and attitude (R61 to R64, R78, R138) -/

theorem Confined.takeSample (h : Confined ns s u) (code : Nat) : Confined ns s (takeSample u code) := by
  have recorded : Confined ns s (recordSample u code) := .alike h
  exact .ite (recorded.reportFault _).searchSensor (recorded.searchSample _)

theorem Confined.openSamples (h : Confined ns s u) : Confined ns s (openSamples u) := by
  unfold Machine.openSamples
  split
  · exact h
  split
  · exact h
  · exact .alike h
  · exact h

theorem Confined.watchCheck (h : Confined ns s u) : Confined ns s (watchCheck u) := by
  unfold Machine.watchCheck
  split
  · exact h
  · exact .ite (.startSearch (.alike h) .touchUp) (.alike h)

theorem Confined.takeReading (h : Confined ns s u) (r : Tilts) : Confined ns s (takeReading u r) :=
  .ite (.alike h) (.ite (.alike h) (.reportFault (.alike h) _))

/-! ## Lines (R27, R112, R137, R144) -/

theorem Confined.overheadStop (h : Confined ns s u) : Confined ns s (overheadStop u) :=
  (((h.reportFault .overhead).controlledStops [.mast]).endWhere (ofKinds [.raise]) .faulted).withCtl _

theorem Confined.holdStance (h : Confined ns s u) (before : State) : Confined ns s (holdStance before u) := by
  have answered := (h.stopSearch .abandoned true).endWhere (ofKinds [.peak]) .halted
  unfold Machine.holdStance
  extract_lets silent told pending
  have kept : Confined ns s pending := .ite answered (.alike answered)
  clear_value pending
  exact .ite kept.dishStands kept

theorem Confined.releaseStance (h : Confined ns s u) : Confined ns s (releaseStance u) :=
  .ite h.recomputeIssuing.reissueDish h.recomputeIssuing

/-! ## Commands (R15 to R22, R32, R85, R149, R164, R170) -/

theorem Confined.ownSwap (h : Confined ns s u) {n : Slot} (hn : ns n) : Confined ns s (ownSwap u n) := by
  unfold Machine.ownSwap
  extract_lets number p
  split
  · exact h.refuse hn _
  · have opened := h.openCommand (.new n .swap Warnings.empty) hn
    exact .quiesceStart ⟨opened.wf, opened.bytes, opened.opened, fun _ => hn, opened.notice, opened.headerSeq⟩

theorem Confined.fixLive (h : Confined ns s u) (before : State) (f : Fix) : Confined ns s (fixLive before u f).1 := by
  unfold Machine.fixLive
  split
  · exact h.recomputeLive _
  · exact h

/-- SET_FIX up to its result. -/
theorem Confined.fixTaken (h : Confined ns s u) (f : Fix) :
    Confined ns s (Machine.fixLive u (putFix (unlockDish u f) f) f).1 := by
  have unlocked : Confined ns s (unlockDish u f) := .ite (h.withDish .onSolution) h
  exact .fixLive (.alike unlocked) u f

theorem Confined.ownSetFix (h : Confined ns s u) {n : Slot} (hn : ns n) : Confined ns s (ownSetFix u n) :=
  .ite (h.refuse hn _) ((h.fixTaken _).writeResult hn _ _ _)

theorem Confined.putLimits (h : Confined ns s u) (l : Limits) : Confined ns s (putLimits u l) := by
  unfold Machine.putLimits
  extract_lets staled granted
  have stale : Confined ns s staled := .ite (.alike h) (.alike h)
  clear_value staled
  have budget : Confined ns s granted := .ite stale (stale.drives (aside_grantCheck staled))
  clear_value granted
  have wind : Confined ns s (windChange u granted) := .handOff (.ite budget (budget.judgeFigure _ _ _)) u
  exact .ite wind wind.recomputeSite

theorem limitsBytes_length (l : Limits) : (limitsBytes l).length = 32 := by
  delta limitsBytes
  simp only [List.length_append, leBytes_length]

theorem Confined.writeBackLimits (h : Confined ns s u) {n : Slot} (hn : ns n) : Confined ns s (writeBackLimits u n) := by
  refine h.storeBytes (argAddr n 0) (limitsBytes u.limits) fun b low high => .inl ⟨n, hn, ?_⟩
  rw [limitsBytes_length] at high
  simp only [argAddr] at low high
  omega

theorem Confined.ownSetLimits (h : Confined ns s u) {n : Slot} (hn : ns n) : Confined ns s (ownSetLimits u n) := by
  unfold Machine.ownSetLimits
  extract_lets asked l written
  have back : Confined ns s written := (h.putLimits l).writeBackLimits hn
  clear_value written
  exact .ite (h.refuse hn _) (back.writeResult hn _ _ _)

theorem Confined.returnDish (h : Confined ns s u) : Confined ns s (returnDish u) := by
  have rested := h.withDish (restingDish u)
  exact .ite (.ite rested.pursueDish (.dishStands (.ite rested (.alike rested)))) h

theorem Confined.haltedReturn (h : Confined ns s u) : Confined ns s (haltedReturn u) :=
  .ite (Confined.recomputeEff (.alike h)).takeAll h

theorem Confined.returnMast (h : Confined ns s u) : Confined ns s (returnMast u) := .ite (.ite (.alike h) (.alike h)) h

theorem Confined.ownClearFault (h : Confined ns s u) {n : Slot} (hn : ns n) : Confined ns s (ownClearFault u n) := by
  have removed : Confined ns s (removeFaults u) := .ite (.alike h) (.alike h)
  unfold Machine.ownClearFault
  extract_lets returned dish
  have axes : Confined ns s returned := removed.foldl _ fun a _ _ ht => .ite (.alike ht) ht
  clear_value returned
  exact (axes.returnMast.returnDish.writeResult hn _ _ _).haltedReturn

theorem Confined.ownStandby (h : Confined ns s u) {n : Slot} (hn : ns n) : Confined ns s (ownStandby u n) :=
  .ite (h.refuse hn _) (.ite (h.refuse hn _) (h.writeResult hn _ _ _).enterStandby)

theorem Confined.ownRaise (h : Confined ns s u) {n : Slot} (hn : ns n) : Confined ns s (ownRaise u n) := by
  unfold Machine.ownRaise
  extract_lets asked height goal
  have told := h.endWhere (ofKinds [.raise, .lower]) .superseded
  have set : Confined ns s goal := .alike told
  clear_value goal
  exact .ite (h.refuse hn _) (.ite (h.refuse hn _) (set.openCommand _ hn).recomputeEff)

theorem Confined.lowerBelowNest (h : Confined ns s u) : Confined ns s (lowerBelowNest u) := by
  unfold Machine.lowerBelowNest
  extract_lets ended
  have told : Confined ns s ended := (h.stopSearch .abandoned false).endWhere _ _
  clear_value ended
  exact .alike told

theorem Confined.setMastGoal (h : Confined ns s u) (x : Int) : Confined ns s (setMastGoal u x) := .alike h

theorem Confined.ownLower (h : Confined ns s u) {n : Slot} (hn : ns n) : Confined ns s (ownLower u n) := by
  unfold Machine.ownLower
  extract_lets asked height c ended
  have told : Confined ns s ended := h.endWhere _ _
  clear_value ended
  exact .ite ((h.endWhere _ _).openCommand c hn) (.ite (h.refuse hn _)
    (.ite ((told.lowerBelowNest.setMastGoal _).openCommand c hn).recomputeEff.pursueDish
      ((told.setMastGoal _).openCommand c hn).recomputeEff))

theorem Confined.ownStow (h : Confined ns s u) {n : Slot} (hn : ns n) : Confined ns s (ownStow u n) := by
  unfold Machine.ownStow
  extract_lets c ended goal
  have normal : Confined ns s (u.withMode .normal) := .alike h
  have told : Confined ns s ended := (normal.stopSearch .abandoned false).endWhere _ _
  clear_value ended
  have set : Confined ns s goal := .alike told
  clear_value goal
  exact .ite ((h.endWhere _ _).openCommand c hn) (.ite (h.refuse hn _)
    (set.openCommand c hn).recomputeEff.pursueDish)

theorem Confined.acceptAim (h : Confined ns s u) {n : Slot} (hn : ns n) (site : Fin 32) :
    Confined ns s (acceptAim u n site) := by
  unfold Machine.acceptAim
  extract_lets solved c ended
  have told : Confined ns s ended := ((h.obtainSolution site).stopSearch .abandoned false).endWhere _ _
  clear_value ended
  exact ((Confined.deriveSite (.alike told)).openCommand c hn).pursueDish

theorem Confined.ownAim (h : Confined ns s u) {n : Slot} (hn : ns n) : Confined ns s (ownAim u n) := by
  unfold Machine.ownAim
  refine .ite (h.refuse hn _) (.ite (h.refuse hn _) ?_)
  split
  · exact h.refuse hn _
  · exact h.refuse hn _
  · exact h.acceptAim hn _

theorem Confined.ownPeak (h : Confined ns s u) {n : Slot} (hn : ns n) : Confined ns s (ownPeak u n) := by
  unfold Machine.ownPeak
  extract_lets ended opened
  have told : Confined ns s ended := (h.stopSearch .abandoned false).endWhere _ _
  clear_value ended
  have opens : Confined ns s opened := .openCommand (.alike told) _ hn
  exact .ite (h.refuse hn _) (.ite (opens.startSearch .full) opens)

theorem Confined.ownPoint (h : Confined ns s u) {n : Slot} (hn : ns n) : Confined ns s (ownPoint u n) := by
  unfold Machine.ownPoint
  extract_lets asked t ended warned new c
  have told : Confined ns s ended := (h.stopSearch .abandoned false).endWhere _ _
  clear_value ended
  have opened : Confined ns s (Machine.openCommand (ended.withPeakPending false) c) := .openCommand (.alike told) c hn
  exact .ite (h.refuse hn _) (.ite (h.refuse hn _) (.pursueDish (.alike opened)))

theorem Confined.haltGoal (h : Confined ns s u) : Confined ns s (haltGoal u) := .ite (.alike h) (.recomputeEff (.alike h))

theorem Confined.haltDish (h : Confined ns s u) : Confined ns s (haltDish u) := by
  have told : Confined ns s (haltCommands u) := ((h.tellSearch .abandoned).endWhere _ _).dropSearch false
  unfold Machine.haltDish
  generalize haltCommands u = t at told
  exact .dishToNone (.alike (told.controlledStops allAxes))

theorem Confined.ownHalt (h : Confined ns s u) {n : Slot} (hn : ns n) : Confined ns s (ownHalt u n) := by
  by_cases mode : u.ctl.mode = .halted
  · rw [ownHalt_halted u n mode]
    exact .writeResult (.alike h) hn _ _ _
  · rw [ownHalt_normal u n mode]
    exact h.haltDish.haltGoal.writeResult hn _ _ _

theorem Confined.ownRecoverHold (h : Confined ns s u) {n : Slot} (hn : ns n) : Confined ns s (ownRecoverHold u n) := by
  unfold Machine.ownRecoverHold
  extract_lets g held data
  have holds : Confined ns s held := .alike h
  clear_value held
  exact .ite (h.refuse hn _) ((holds.recomputeEff.setDishGoal g).writeResult hn _ _ _)

end Sys2Proof.Machine
end

section
/-! PROOFS. No command but a host write, the end of SETTLE and a reset stores in the site table (R28, R154): O27. -/
namespace Sys2Proof.Machine
set_option Elab.async false -- one lemma after another: elaborated at once they would each hold a thread

variable {ns : Slot → Prop} {s u v : State}

/-! ## The header write (R162) -/

theorem headerFields_within (s : State) : ∀ f ∈ headerFields s, f.1 + f.2.length ≤ 256 := by
  simp [headerFields, flagByte, faultBytes, limitsBytes_length]

theorem changedFields_mem {before : State} {f : Nat × List Byte} (h : f ∈ changedFields before s) :
    f ∈ headerFields s := by
  obtain ⟨⟨old, new⟩, zipped, changed⟩ := List.mem_filterMap.mp h
  obtain ⟨-, rfl⟩ := Option.ite_none_left_eq_some.mp changed |>.imp_right Option.some.inj
  exact (List.of_mem_zip zipped).2

/-- The header write of an event stores nothing beyond the header. -/
theorem updateHeaderWith_beyond (before s : State) (also : List (Nat × List Byte))
    (within : ∀ f ∈ also, f.1 + f.2.length ≤ 256) (a : Nat) (ha : 256 ≤ a) :
    read8 (updateHeaderWith before s also).mem a = read8 s.mem a := by
  unfold updateHeaderWith
  split
  · rfl
  · refine read8_writeFields_other _ s.mem a fun f hf => .inr (le_trans ?_ ha)
    rcases List.mem_append.mp hf with field | count
    · rcases List.mem_append.mp field with changed | named
      · exact headerFields_within s f (changedFields_mem changed)
      · exact within f named
    · simp [List.mem_singleton.mp count]

/-! ## The site table (R28) -/

/-- No byte of the site table has changed. -/
def sitesKept (s t : State) : Prop := ∀ a, 0x400 ≤ a → a < 0xC00 → read8 t.mem a = read8 s.mem a

theorem sitesKept.of_mem (mem : u.mem = s.mem) : sitesKept s u := fun a _ _ => by rw [mem]

theorem sitesKept.ite {p : Prop} [Decidable p] (hu : sitesKept s u) (hv : sitesKept s v) :
    sitesKept s (if p then u else v) := by
  split
  · exact hu
  · exact hv

theorem moduleByte_site (a : Nat) (low : 0x400 ≤ a) (high : a < 0xC00) : ¬ moduleByte ns a := by
  rintro (⟨n, -, -, slot⟩ | ⟨-, page⟩ | packages)
  · simp only [slotAddr, Config.slotBase] at slot
    omega
  · exact absurd page (not_lt.mpr low)
  · exact absurd packages (not_le.mpr high)

theorem Confined.sites (h : Confined ns s u) : sitesKept s u := fun a low high => h.bytes a (moduleByte_site a low high)

theorem Confined.headerWith (h : Confined ns s u) (before : State) (also : List (Nat × List Byte))
    (within : ∀ f ∈ also, f.1 + f.2.length ≤ 256) : sitesKept s (updateHeaderWith before u also) := fun a low high =>
  (updateHeaderWith_beyond before u also within a (by omega)).trans (h.sites a low high)

theorem Confined.header (h : Confined ns s u) (before : State) : sitesKept s (updateHeader before u) :=
  h.headerWith before [] (by simp)

theorem Confined.event (h : Confined ns s u) (before : State) : sitesKept s (endEvent before u) :=
  h.settle.header before

/-- The owning block of a command stores in the slot of the command it is handed, where it stores a result. -/
def ownConfined (own : State → Slot → State) : Prop :=
  ∀ (s u : State) (n : Slot), Confined (fun _ => True) s u → Confined (fun _ => True) s (own u n)

theorem take_confined {k : Kind} {own : State → Slot → State} (confined : ownConfined own) (s : State) :
    Confined (fun _ => True) s (take k own s) := by
  have popped := (Confined.all s).popIntake
  unfold take
  split
  · exact .all s
  · exact popped
  · exact popped.refuse trivial _
  · exact confined _ _ _ popped

theorem takeEvent_sites {k : Kind} {own : State → Slot → State} (confined : ownConfined own) (s : State) :
    sitesKept s (takeEvent k own s) :=
  (take_confined confined s).event s

theorem takeWriting_sites {k : Kind} {own : State → Slot → State} (confined : ownConfined own) (s : State)
    (accepts : Slot → Bool) (fields : State → List (Nat × List Byte))
    (within : ∀ t, ∀ f ∈ fields t, f.1 + f.2.length ≤ 256) : sitesKept s (takeWriting k accepts own fields s) := by
  obtain ⟨also, writes, cases⟩ := takeWriting_spec k accepts own fields s
  rw [writes]
  refine (take_confined confined s).settle.headerWith s also ?_
  rcases cases with rfl | ⟨n, -, -, rfl⟩
  · simp
  · exact within _

theorem lineEvent_sites (s : State) (l : Lines) (wakes : Bool) {act : State → State}
    (confined : ∀ u, Confined (fun _ => True) s u → Confined (fun _ => True) s (act u)) :
    sitesKept s (lineEvent s l wakes act) := by
  have recorded : Confined (fun _ => True) s (s.withLines l) := .alike (.all s)
  exact .ite (Confined.all s).sites
    (.ite ((confined _ recorded).event s) (.ite (recorded.wakeIfAsleep.header s) recorded.sites))

theorem takeEncoder_sites (s : State) (a : Axis) (v : Int) : sitesKept s (takeEncoder s a v) := by
  have put := (Confined.all s).putReading a v
  exact .ite ((put.readingMoves a _).event s) (put.warmUpReading.header s)

/-! ## Events that are no commands -/

theorem Confined.notifyBits (h : Confined (fun _ => True) s u) (v : Word16) :
    Confined (fun _ => True) s (notifyBits u v) :=
  h.foldl _ fun _ _ _ ht => .ite (ht.withBoard _ (fun _ _ => trivial) (fun _ => id) rfl) ht

theorem Confined.anemoLoss (h : Confined ns s u) : Confined ns s (anemoLoss u) := by
  have reported := h.reportFault (.sensor .anemo)
  unfold Machine.anemoLoss
  refine .ite h.primingLoss ?_
  unfold lossState
  split
  · exact .alike reported
  · split
    · exact .alike reported
    · exact .alike reported
  · exact reported
  · exact reported

theorem Confined.returnState (h : Confined ns s u) : Confined ns s (returnState u) := by
  unfold Machine.returnState
  split
  · exact .alike h
  · exact .alike h
  · exact h
  · exact h

theorem Confined.returnSlots (h : Confined (fun _ => True) s u) : Confined (fun _ => True) s (returnSlots u) := by
  have returned : Confined (fun _ => True) s (u.power.resetSet.foldl (fun t n => Machine.refuse t n .reset) u) :=
    h.foldl _ fun _ _ _ ht => ht.refuse trivial .reset
  unfold Machine.returnSlots
  extract_lets t
  exact .alike returned

theorem Confined.readyEvent (h : Confined (fun _ => True) s u) (pulses : Nat) :
    Confined (fun _ => True) s (readyEvent u pulses) := by
  unfold Machine.readyEvent
  extract_lets ready mode taken
  have states : Confined (fun _ => True) s ready := (h.endPriming pulses).readyStates
  clear_value ready
  have halted : Confined (fun _ => True) s mode := .readyHalted (.alike states)
  clear_value mode
  have takes : Confined (fun _ => True) s taken := halted.returnSlots.signalReady.takeAll
  clear_value taken
  exact .recomputeEff (.alike takes)

theorem Confined.wakeAxis (h : Confined ns s u) (a : Axis) (v : Option Int) : Confined ns s (wakeAxis u a v) := by
  cases v with
  | some p => exact h.putReading a p
  | none => exact .alike (h.reportFault _)

theorem Confined.wakeSensors (h : Confined ns s u) (r : WakeReadings) : Confined ns s (wakeSensors u r) := by
  unfold Machine.wakeSensors
  extract_lets t
  have axes : Confined ns s t := (((h.wakeAxis _ _).wakeAxis _ _).wakeAxis _ _).wakeAxis _ _
  clear_value t
  exact .ite (.alike axes) (.reportFault (.alike axes) _)

theorem Confined.wakeMode (h : Confined ns s u) : Confined ns s (wakeMode u) :=
  .readyHalted (.ite (.alike h) (.alike h))

theorem Confined.wakeEvent (h : Confined ns s u) (r : WakeReadings) : Confined ns s (wakeEvent u r) := by
  unfold Machine.wakeEvent
  extract_lets mode level
  have modes : Confined ns s mode := (h.wakeSensors r).readyStates.wakeMode
  clear_value mode
  have levels : Confined ns s level := .alike modes.signalReady.takeAll
  clear_value level
  exact .ite levels.recomputeIssuing.pursueDish levels.recomputeIssuing

/-- A page started after the event of a wake lies in the telemetry page. -/
theorem wakeTelemetry_sites (h : sitesKept s u) : sitesKept s (wakeTelemetry u) :=
  fun a low high => by
    have page : Confined (fun _ => True) u (wakeTelemetry u) := .ite (Confined.all u).startPage (.all u)
    rw [page.sites a low high, h a low high]

/-- Every command but a host write, the end of SETTLE and a reset keeps the site table, by the constructors. -/
theorem exec_sites (c : Instr) (s t : State) (notHost : ∀ o d, c ≠ .hostMemoryWrite o d)
    (notSettle : ∀ l b, c ≠ .settleEnd l b) (notReset : ∀ k, c ≠ .reset k) (run : exec c s = .next t) :
    sitesKept s t := by
  have all := Confined.all s
  have still : sitesKept s s := all.sites
  have kept : ∀ {u}, sitesKept s u → Host.Outcome.next u = (.next t : Host.Outcome State Fault Refusal) → sitesKept s t :=
    fun hu same => Host.Outcome.next.inj same ▸ hu
  cases c with
  | raise => exact kept (takeEvent_sites (fun _ _ _ h => h.ownRaise trivial) s) run
  | lower => exact kept (takeEvent_sites (fun _ _ _ h => h.ownLower trivial) s) run
  | stow => exact kept (takeEvent_sites (fun _ _ _ h => h.ownStow trivial) s) run
  | aim => exact kept (takeEvent_sites (fun _ _ _ h => h.ownAim trivial) s) run
  | peak => exact kept (takeEvent_sites (fun _ _ _ h => h.ownPeak trivial) s) run
  | point => exact kept (takeEvent_sites (fun _ _ _ h => h.ownPoint trivial) s) run
  | halt => exact kept (takeEvent_sites (fun _ _ _ h => h.ownHalt trivial) s) run
  | recoverHold => exact kept (takeEvent_sites (fun _ _ _ h => h.ownRecoverHold trivial) s) run
  | swap => exact kept (takeEvent_sites (fun _ _ _ h => h.ownSwap trivial) s) run
  | clearFault => exact kept (takeEvent_sites (fun _ _ _ h => h.ownClearFault trivial) s) run
  | standby => exact kept (takeEvent_sites (fun _ _ _ h => h.ownStandby trivial) s) run
  | setFix =>
    exact kept (takeWriting_sites (fun _ _ _ h => h.ownSetFix trivial) s _ fixFields fun _ => by simp [fixFields]) run
  | setLimits =>
    exact kept (takeWriting_sites (fun _ _ _ h => h.ownSetLimits trivial) s _ _ fun _ => by
      simp [limitsBytes_length]) run
  | notifyWrite w =>
    have noted := all.notifyBits (portValue w)
    exact kept (.ite noted.sites (noted.wakeIfAsleep.header s)) run
  | noticeWrite w => exact kept (.of_mem (withBoard_mem s _)) run
  | controlWrite w =>
    have written := all.withBoard { s.board with control := portValue w &&& controlMask } all.opened (fun _ => id) rfl
    have page : Confined (fun _ => True) s (telemetryAfterControl s (s.withBoard { s.board with
      control := portValue w &&& controlMask })) := .ite (.ite written.startPage written) (written.withTelem _)
    exact kept page.sites run
  | otherRegisterWrite o w => exact kept still run
  | hostMemoryWrite o d => exact absurd rfl (notHost o d)
  | parkChange b => exact kept (lineEvent_sites s _ _ fun _ h => .ite h.recomputeEff h) run
  | overheadChange b =>
    exact kept (lineEvent_sites s _ _ fun _ h => .ite h.recomputeEff (.ite h.overheadStop h)) run
  | stowLineChange b => exact kept (lineEvent_sites s _ _ fun _ h => h) run
  | holdLineAssert =>
    exact kept (lineEvent_sites s _ _ fun u h =>
      have axes := h.drives (aside_holdAxes u)
      .ite axes (axes.holdStance u)) run
  | holdLineRelease => exact kept (lineEvent_sites s _ _ fun _ h => h.releaseStance) run
  | anemoOkLow =>
    have line : Confined (fun _ => True) s (s.withAnemoLine false) := .alike all
    exact kept (.ite still (.ite (line.anemoLoss.event s) line.sites)) run
  | anemoOkHigh =>
    have line : Confined (fun _ => True) s (s.withAnemoLine true) := .alike all
    exact kept (.ite still (.ite line.returnState.sites line.sites)) run
  | windSample pulses =>
    exact kept (.ite still (.ite (all.primingSample pulses).sites ((all.windSample pulses).event s))) run
  | holdTimerExpiry => exact kept (.ite (.of_mem (withWind_mem s _)) still) run
  | primingEnd pulses =>
    exact kept (.ite (((all.endPriming pulses).handOff s).event s) still) run
  | levelSample code => exact kept (.ite ((all.takeSample _).event s) still) run
  | settleTimeExpiry => exact kept all.openSamples.sites run
  | watchCheck => exact kept (all.watchCheck.event s) run
  | inclinometerReading r => exact kept (.ite still ((all.takeReading r).warmUpReading.event s)) run
  | encoderReading a v => exact kept (.ite still (takeEncoder_sites s a v)) run
  | encoderInvalid a =>
    have clear : Confined (fun _ => True) s (clearValid s a) := .alike all
    exact kept (.ite still (.ite clear.sites ((clear.stopFault a _).event s))) run
  | encoderValidReturn a v => exact kept (.ite still (takeEncoder_sites s a v)) run
  | limitSwitchTrip sw =>
    have put : Confined (fun _ => True) s (putSwitch s sw true) := .alike all
    exact kept (.ite still (.ite ((put.stopFault _ _).event s) put.sites)) run
  | limitSwitchOpen sw => exact kept (.of_mem (withAxes_mem s _)) run
  | standstill a =>
    exact kept (((all.drives (aside_standstillAxis s a)).takeRecorded s a).event s) run
  | lockReleaseEnd => exact kept (.ite ((all.drives (aside_lockReleased s)).event s) still) run
  | lockEngageEnd =>
    exact kept (.ite (((all.drives (aside_lockEngaged s)).takeRecorded s .mast).event s) still) run
  | deadlineExpiry a => exact kept (.ite ((all.stopFault a _).event s) still) run
  | controlledStopTimeout a => exact kept (.ite ((all.stopFault a _).event s) still) run
  | immediateStopTimeout a => exact kept (.ite ((all.stopFault a _).event s) still) run
  | alarmOnExpiry => exact kept (.ite (.of_mem (withIlk_mem s _)) still) run
  | alarmPeriodExpiry => exact kept (.ite (.of_mem (withIlk_mem s _)) still) run
  | telemetryPeriodExpiry => exact kept (.ite all.startPage.sites still) run
  | telemetryPageWriteEnd => exact kept all.endPage.sites run
  | uptimeTick =>
    have ticked : Confined (fun _ => True) s (s.withPower { s.power with uptime := s.power.uptime + 1 }) := .alike all
    exact kept (.ite still (ticked.header s)) run
  | reset k => exact absurd rfl (notReset k)
  | settleEnd l b => exact absurd rfl (notSettle l b)
  | warmUpEnd => exact kept (.ite (all.warmUpEnded.header s) still) run
  | ready pulses => exact kept (.ite ((all.readyEvent pulses).event s) still) run
  | wakeWarmUpEnd r => exact kept (.ite (wakeTelemetry_sites ((all.wakeEvent r).event s)) still) run

end Sys2Proof.Machine

open Sys2Proof Sys2Proof.Machine

/-- Settles O27, by the constructors of the commands. -/
theorem siteTableReadOnly : Obligations.SiteTableReadOnly :=
  fun c s t a notHost notSettle notReset run low high => exec_sites c s t notHost notSettle notReset run a low high
end

section
/-! PROOFS. The checks of an AIM (R34), the cable-wrap choice (R41), the targets and the reported range and bearing
(R37 to R40, R48): O8, O53, O54. -/
namespace Sys2Proof.Machine

/-! ## The cable-wrap choice (R40, R41) -/

theorem otherWay_eq (p : Int) : otherWay p =
    if p ≤ -9000 then some (p + 36000) else if 9000 ≤ p then some (p - 36000) else none := rfl

/-- The pan travel holds a candidate and its other way, and no third way (R41). -/
theorem wrapCandidate_iff (p c : Int) (low : -18000 < p) (high : p ≤ 18000) :
    ((c = p ∨ c = p + 36000 ∨ c = p - 36000) ∧ -27000 ≤ c ∧ c ≤ 27000) ↔ c = p ∨ otherWay p = some c := by
  rw [otherWay_eq]
  split
  · simp only [Option.some.injEq]
    omega
  split
  · simp only [Option.some.injEq]
    omega
  · simp only [reduceCtorEq, or_false]
    omega

/-- The choice between a pan and the other way to reach it. -/
theorem wrapPan_other (p q present : Int) (other : otherWay p = some q) : wrapPan p present =
    if dist q present < dist p present then q
    else if dist q present = dist p present ∧ q.natAbs < p.natAbs then q else p := by
  simp only [wrapPan, other]

theorem wrapPan_only (p present : Int) (other : otherWay p = none) : wrapPan p present = p := by
  simp only [wrapPan, other]

/-- The choice is a candidate. -/
theorem wrapPan_candidate (p present : Int) : wrapPan p present = p ∨ otherWay p = some (wrapPan p present) := by
  cases other : otherWay p with
  | none => exact .inl (wrapPan_only p present other)
  | some q =>
    rw [wrapPan_other p q present other]
    split
    · exact .inr rfl
    split
    · exact .inr rfl
    · exact .inl rfl

/-- The choice is the nearest candidate, then the smaller, then the given one. -/
theorem wrapPan_best (p c present : Int) (candidate : c = p ∨ otherWay p = some c) :
    dist (wrapPan p present) present ≤ dist c present ∧ (dist (wrapPan p present) present = dist c present →
      (wrapPan p present).natAbs ≤ c.natAbs ∧
        ((wrapPan p present).natAbs = c.natAbs → wrapPan p present = p ∨ wrapPan p present = c)) := by
  cases other : otherWay p with
  | none =>
    obtain rfl : c = p := by simpa [other] using candidate
    simp [wrapPan_only c present other]
  | some q =>
    have either : c = p ∨ c = q := by simpa [other, eq_comm] using candidate
    rw [wrapPan_other p q present other]
    split
    next nearer => rcases either with rfl | rfl <;> omega
    next notNearer =>
      split
      next smaller => rcases either with rfl | rfl <;> omega
      next notSmaller => rcases either with rfl | rfl <;> omega

/-! ## Targets within travel (R48) -/

theorem foldPan_range (p : Int) : -18000 < foldPan p ∧ foldPan p ≤ 18000 := by
  unfold foldPan
  omega

theorem foldPol_range (q : Int) : -9000 < foldPol q ∧ foldPol q ≤ 9000 := by
  unfold foldPol
  omega

theorem wrapPan_travel (p present : Int) (low : -18000 < p) (high : p ≤ 18000) :
    -27000 ≤ wrapPan p present ∧ wrapPan p present ≤ 27000 :=
  ((wrapCandidate_iff p _ low high).mpr (wrapPan_candidate p present)).2

theorem deriveTargets_travel (sol : Solution) (trimPan trimTilt present : Int) :
    let t := deriveTargets sol trimPan trimTilt present
    (-27000 ≤ t.pan ∧ t.pan ≤ 27000) ∧ (-1000 ≤ t.tilt ∧ t.tilt ≤ 3000) ∧ -9000 ≤ t.pol ∧ t.pol ≤ 9000 := by
  obtain ⟨low, high⟩ := foldPan_range (sol.pan + trimPan)
  obtain ⟨polLow, polHigh⟩ := foldPol_range sol.pol
  have tilt : clampInt (-1000) 3000 (trialTilt sol trimTilt) = max (-1000) (min 3000 (trialTilt sol trimTilt)) :=
    clampInt_eq _ _ _ (by decide)
  refine ⟨wrapPan_travel _ present low high, ?_, polLow.le, polHigh⟩
  show -1000 ≤ clampInt (-1000) 3000 (trialTilt sol trimTilt) ∧ clampInt (-1000) 3000 (trialTilt sol trimTilt) ≤ 3000
  rw [tilt]
  omega

/-! ## The integer square root (R37) -/

/-- One step of Newton's iteration from above the root stays above it. -/
theorem newton_above (n x : Nat) (above : Nat.sqrt n ≤ x) : Nat.sqrt n ≤ (x + n / x) / 2 := by
  have square := Nat.sqrt_le n
  generalize Nat.sqrt n = r at *
  rcases Nat.eq_zero_or_pos x with rfl | pos
  · omega
  · have far : 2 * r - x ≤ n / x := by
      rw [Nat.le_div_iff_mul_le pos]
      refine le_trans ?_ square
      rcases Nat.le_total (2 * r) x with low | high
      · simp [Nat.sub_eq_zero_of_le low]
      · obtain ⟨e, he⟩ := Nat.exists_eq_add_of_le high
        obtain ⟨d, rfl⟩ := Nat.exists_eq_add_of_le above
        have apart : r = d + e := by omega
        rw [he, Nat.add_sub_cancel_left, apart]
        nlinarith
    omega

/-- From above the root it at least halves the way to it. -/
theorem newton_halves (n x : Nat) (above : Nat.sqrt n < x) : (x + n / x) / 2 - Nat.sqrt n ≤ (x - Nat.sqrt n) / 2 := by
  have below : n / x < Nat.sqrt n + 1 := (Nat.div_lt_iff_lt_mul (by omega)).mpr
    (lt_of_lt_of_le (Nat.lt_succ_sqrt n) (Nat.mul_le_mul_left _ above))
  omega

/-- From above the root, within `2 ^ k` of it, the iteration reaches it in `k` steps. -/
theorem isqrtLoop_eq (k n x : Nat) (above : Nat.sqrt n ≤ x) (within : x - Nat.sqrt n < 2 ^ k) :
    isqrtLoop k n x = Nat.sqrt n := by
  induction k generalizing x with
  | zero =>
    have here : x = Nat.sqrt n := by omega
    exact here
  | succ k ih =>
    have stays := newton_above n x above
    rcases above.eq_or_lt with here | higher
    · have still : ¬ (x + n / x) / 2 < x := by omega
      simp only [isqrtLoop, still, if_false, here]
    · have halves := newton_halves n x higher
      have falls : (x + n / x) / 2 < x := by omega
      simp only [isqrtLoop, falls, if_true]
      exact ih _ stays (by omega)

/-- The integer square root of a number below 2^62, whose 32 steps are enough. -/
theorem isqrt_eq (n : Nat) (small : n < 2 ^ 62) : isqrt n = Nat.sqrt n := by
  unfold isqrt
  split
  next zero => rw [zero, Nat.sqrt_zero]
  next nonzero =>
    have log : Nat.log2 n < 62 := (Nat.log2_lt nonzero).mpr small
    have above : Nat.sqrt n < 2 ^ (Nat.log2 n / 2 + 1) := by
      rw [Nat.sqrt_lt, ← pow_add]
      exact lt_of_lt_of_le Nat.lt_log2_self (Nat.pow_le_pow_right (by decide) (by omega))
    have start : 2 ^ (Nat.log2 n / 2 + 1) < 2 ^ 32 := Nat.pow_lt_pow_right (by decide) (by omega)
    exact isqrtLoop_eq 32 n _ above.le (lt_of_le_of_lt (Nat.sub_le _ _) start)

/-! ## Range (R37) -/

/-- The reported range is the nearest metre to the root of the square of the distance. -/
theorem reportedRange_nearest (dE dN : Int) (east : dE.natAbs ≤ 4000000) (north : dN.natAbs ≤ 4000000) :
    let r := reportedRange dE dN
    let n := 4 * distSquare dE dN
    n < (2 * r + 1) * (2 * r + 1) ∧ (0 < r → (2 * r - 1) * (2 * r - 1) ≤ n) := by
  intro r n
  have small : n < 2 ^ 62 := by
    have e := Nat.mul_le_mul east east
    have m := Nat.mul_le_mul north north
    simp only [n, distSquare]
    omega
  have range : r = (Nat.sqrt n + 1) / 2 := by rw [← isqrt_eq n small]; rfl
  refine ⟨lt_of_lt_of_le (Nat.lt_succ_sqrt n) (Nat.mul_le_mul ?_ ?_), fun _ => le_trans (Nat.mul_le_mul ?_ ?_) (Nat.sqrt_le n)⟩
    <;> omega

theorem distSquare_eq (dE dN : Int) : (distSquare dE dN : Int) = dE * dE + dN * dN := by
  simp [distSquare]

/-! ## Due bearings (R37) -/

theorem atanUnit_zero : atanUnit 0 = 0 := by decide +kernel

theorem toCdeg_zero : toCdeg 0 = 0 := by simp [toCdeg]

/-- A whole number rounds to itself, the tie being far off. -/
theorem fxRound_whole (k : Nat) : fxRound ((k * fxOne : Nat) : Int) = k := by
  have snap : 2 * fxSnap < fxOne := by decide +kernel
  have whole : (2 * (k * fxOne) + fxOne + 2 * fxSnap) / (2 * fxOne) = k := by
    rw [Nat.div_eq_iff (by omega)]
    have twice : 2 * (k * fxOne) = k * (2 * fxOne) := Nat.mul_left_comm 2 k fxOne
    omega
  simp only [fxRound, Int.natAbs_natCast, whole]
  rw [if_neg (by omega)]

/-- The angle of a bearing within its quadrant, along an axis (R37). -/
theorem axisAngle_zero (d : Nat) : toCdeg (atanUnit (0 * fxOne / d)) = 0 := by
  rw [Nat.zero_mul, Nat.zero_div, atanUnit_zero, toCdeg_zero]

/-- On an axis the bearing is a whole quarter turn. -/
theorem bearing100_due (d : Int) :
    (0 < d → bearing100 0 d = ((0 * fxOne : Nat) : Int)) ∧ (0 < d → bearing100 d 0 = ((9000 * fxOne : Nat) : Int)) ∧
      (d < 0 → bearing100 0 d = ((18000 * fxOne : Nat) : Int)) ∧
      (d < 0 → bearing100 d 0 = ((27000 * fxOne : Nat) : Int)) := by
  have off : d ≠ 0 → ¬ d.natAbs ≤ 0 := by omega
  refine ⟨fun h => ?_, fun h => ?_, fun h => ?_, fun h => ?_⟩
  · simp only [bearing100, Int.natAbs_zero, Nat.zero_le, if_true, le_refl, h.le, axisAngle_zero]
    rfl
  · simp only [bearing100, if_neg (off h.ne'), Int.natAbs_zero, if_true, le_refl, h.le, axisAngle_zero]
    omega
  · simp only [bearing100, Int.natAbs_zero, Nat.zero_le, if_true, le_refl, if_neg (not_le.mpr h), axisAngle_zero]
    omega
  · simp only [bearing100, if_neg (off h.ne), Int.natAbs_zero, if_true, le_refl, if_neg (not_le.mpr h), axisAngle_zero]
    omega

theorem reportedBearing_due (dE dN : Int) (k : Nat) (turn : k < 36000)
    (due : bearing100 dE dN = ((k * fxOne : Nat) : Int)) : reportedBearing dE dN = k := by
  rw [reportedBearing, due, fxRound_whole]
  omega

/-- The worked case of 2.9 of the manual: the solution reads four fields of the site record. -/
theorem solve_worked (r : SiteRecord) (east : r.east = 13000) (north : r.north = 7000) (altitude : r.altitude = 2150)
    (polarisation : r.polarisation = 0) :
    solve r ⟨7, 1000, 2000, 1200, 4500⟩ 120 (-80) 3400 12000 = ⟨2238, -111, 28, 6738, 31, 13000, false⟩ := by
  have same : solve r ⟨7, 1000, 2000, 1200, 4500⟩ 120 (-80) 3400 12000 =
      solve ⟨1, 1, 13000, 7000, 2150, 0, -700, true⟩ ⟨7, 1000, 2000, 1200, 4500⟩ 120 (-80) 3400 12000 := by
    unfold solve
    rw [east, north, altitude, polarisation]
  exact same.trans (by decide +kernel)

end Sys2Proof.Machine

open Sys2Proof Sys2Proof.Machine

/-- Settles O54. -/
theorem wrapChoice : Obligations.WrapChoice := by
  intro p present low high q candidate
  have candidates := fun c => wrapCandidate_iff p c low high
  refine ⟨(candidates q).mpr (wrapPan_candidate p present), fun c hc => ?_⟩
  exact wrapPan_best p c present ((candidates c).mp hc)

/-- Settles O8: each refusal is a branch of `aimCheck`, reached when the checks before it pass. -/
theorem aimChecks : Obligations.AimChecks := by
  rintro s n index taken hw sound high rfl
  have notLow : ¬ s.stance.mastGoal < Config.nestHeight := not_lt.mpr high
  have refused : ∀ code, aimCheck s (readU8 s.mem (argAddr n 0)) = some code →
      ∃ u, exec .aim s = .next (endEvent s u) ∧ Refused s u n code := fun code check => by
    have popped : aimCheck (popIntake s) (readU8 s.mem (argAddr n 0)) = some code := check
    exact takeEvent_refused s .aim ownAim n code taken hw (by simp [ownAim, sound, notLow, popped])
  have inTable : ∀ {i}, i < 32 → (readSite s.mem i).inUse ≠ 0 → ¬ (32 ≤ i ∨ (readSite s.mem i).inUse = 0) := by
    omega
  have used : ∀ {i}, (readSite s.mem i).acceptable = true → (readSite s.mem i).inUse ≠ 0 := fun ok => by
    rw [acceptable_inUse _ ok]
    decide
  refine ⟨fun absent => refused _ ?_, fun low used' bad => refused _ ?_, fun low ok none => refused _ ?_,
    fun f low ok fix near => refused _ ?_⟩
  · simp only [aimCheck, absent, if_true]
  · simp [aimCheck, inTable low used', bad]
  · simp [aimCheck, inTable low (used ok), ok, none]
  · simp [aimCheck, inTable low (used ok), ok, fix, near]

/-- Settles O53. -/
theorem targetsInTravel : Obligations.TargetsInTravel := by
  refine ⟨deriveTargets_travel, ?_, solve_worked⟩
  intro r f pitch roll roof eff sol dE dN square
  have range : sol.range = (reportedRange dE dN : Int) := rfl
  refine ⟨fun east north => ?_, ?_, fun e n => ?_, fun e n => ?_, fun e n => ?_, fun e n => ?_⟩
  · obtain ⟨below, above⟩ := reportedRange_nearest dE dN east north
    have root : ((4 * distSquare dE dN : Nat) : Int) = square := by
      rw [Nat.cast_mul, distSquare_eq]
      rfl
    rw [← root, range]
    refine ⟨by exact_mod_cast below, fun positive => ?_⟩
    have odd : ((2 * reportedRange dE dN - 1 : Nat) : Int) = 2 * (reportedRange dE dN : Int) - 1 := by omega
    rw [← odd]
    exact_mod_cast above (by omega)
  · rw [range]
    exact (decide_eq_true_iff (p := 80000 < reportedRange dE dN)).trans (by omega)
  · exact reportedBearing_due dE dN 0 (by decide) (e ▸ (bearing100_due dN).1 n)
  · exact reportedBearing_due dE dN 9000 (by decide) (n ▸ (bearing100_due dE).2.1 e)
  · exact reportedBearing_due dE dN 18000 (by decide) (e ▸ (bearing100_due dN).2.2.1 n)
  · exact reportedBearing_due dE dN 27000 (by decide) (n ▸ (bearing100_due dE).2.2.2 e)
end

section
/-! PROOFS. SET_FIX (R31, R32, R53 to R55): O17. -/
namespace Sys2Proof.Machine
set_option Elab.async false -- one lemma after another: elaborated at once they would each hold a thread

/-! ## Fields read back (R154) -/

theorem writeFields_append (fs gs : List (Nat × List Byte)) (m : Memory) :
    writeFields m (fs ++ gs) = writeFields (writeFields m fs) gs := by
  induction fs generalizing m with
  | nil => rfl
  | cons f fs ih => exact ih _

theorem padBytes_getD (n k : Nat) (l : List Byte) (h : k < (padBytes n l).length) : (padBytes n l)[k] = l.getD k 0 := by
  induction n generalizing k l with
  | zero => simp at h
  | succ n ih =>
    cases l with
    | nil => exact padBytes_nil_get (n + 1) k h
    | cons b l =>
      cases k with
      | zero => rfl
      | succ k => exact (ih k l (by simpa using h)).trans (List.getD_cons_succ ..).symm

/-- A byte of the result data of a slot. -/
theorem writeResult_getD (s : State) (n : Slot) (c : Code) (w : Warnings) (data : List Byte)
    (hw : Memory.wf s.mem = true) (k : Nat) (hk : k < 24) :
    read8 (writeResult s n c w data).mem (slotAddr n + 40 + k) = data.getD k 0 := by
  have inData : k < (padBytes 24 data).length := by simpa using hk
  rw [writeResult_data s n c w data hw k inData, padBytes_getD]

/-- A 16-bit field reads as the number stored, cut to its 16 bits. -/
theorem readU16_stored {m : Memory} {a v : Nat} (low : read8 m a = BitVec.ofNat 8 v)
    (high : read8 m (a + 1) = BitVec.ofNat 8 (v / 256)) : readU16 m a = v % 65536 := by
  simp only [readU16, readU8, low, high, BitVec.toNat_ofNat]
  omega

theorem flag_toNat (b : Bool) : (if b then 1 else 0 : Byte).toNat = 1 ↔ b = true := by cases b <;> decide

/-! ## The fix of the record (R31) -/

theorem readFix_acceptable (m : Memory) (n : Slot) : (readFix m n).acceptable = true ↔
    -2000000 ≤ (readFix m n).east ∧ (readFix m n).east ≤ 2000000 ∧ -2000000 ≤ (readFix m n).north ∧
      (readFix m n).north ≤ 2000000 ∧ -5000 ≤ (readFix m n).ground ∧ (readFix m n).ground ≤ 60000 ∧
      (readFix m n).heading ≤ 35999 := by
  have heading : 0 ≤ (readFix m n).heading := Int.natCast_nonneg _
  simp only [Fix.acceptable, within, Bool.and_eq_true, decide_eq_true_eq]
  tauto

theorem readFix_datum_lt (m : Memory) (n : Slot) : (readFix m n).datum < 256 := BitVec.isLt _

/-! ## Trims kept by a fix (R53, R54) -/

theorem datumChanged_iff (s : State) (f : Fix) :
    datumChanged s f = true ↔ ∀ old, s.geo.fix = some old → old.datum ≠ f.datum := by
  cases fix : s.geo.fix <;> simp [datumChanged, fix]

theorem trimKept_iff (t : Trim) (f : Fix) : trimKept t f = true ↔ t.datum = f.datum ∧
    (f.east - t.east) * (f.east - t.east) + (f.north - t.north) * (f.north - t.north) < 25 ∧
    min (t.heading - f.heading).natAbs (36000 - (t.heading - f.heading).natAbs) < 100 := by
  have square := distSquare_eq (f.east - t.east) (f.north - t.north)
  simp only [trimKept, Bool.and_eq_true, decide_eq_true_eq]
  rw [← square]
  norm_cast

/-- A valid block that the fix does not discard is kept. -/
theorem discards_eq (changed : Bool) (f : Fix) (e : Entry) :
    discards changed f e = (e.trim.valid && !(!changed && trimKept e.trim f)) := by
  rw [discards, Bool.not_and, Bool.not_not]

theorem afterFix_trim (changed : Bool) (f : Fix) (e : Entry) :
    (e.afterFix changed f).trim = { e.trim with valid := e.trim.valid && (!changed && trimKept e.trim f) } := by
  cases changed
  · rfl
  · simp [Entry.afterFix, Entry.flushed]

theorem afterFix_revision (changed : Bool) (f : Fix) (e : Entry) : (e.afterFix changed f).revision = e.revision := by
  cases changed
  · show e.staled.revision = e.revision
    unfold Entry.staled
    split <;> rfl
  · rfl

/-! ## The state a fix is put into (R32, steps 1 and 2) -/

/-- The state in which the live site is recomputed. -/
def fixedState (s : State) (f : Fix) : State := putFix (unlockDish s f) f

theorem unlockDish_cases (s : State) (f : Fix) :
    unlockDish s f = s ∨ (s.ctl.dishState = .locked ∧ unlockDish s f = s.withDish .onSolution) := by
  unfold unlockDish
  split
  next unlocks => exact .inr ⟨unlocks.2, rfl⟩
  · exact .inl rfl

/-- What the fix leaves alone before the recompute, a dish that searches included. -/
theorem fixedState_same (s : State) (f : Fix) : let u := fixedState s f
    u.stance = s.stance ∧ u.axes = s.axes ∧ u.ilk = s.ilk ∧ u.limits = s.limits ∧ u.mem = s.mem ∧
      u.ctl.siteTargets = s.ctl.siteTargets ∧ u.ctl.effTarget = s.ctl.effTarget ∧
      (u.ctl.dishState = .peaking ↔ s.ctl.dishState = .peaking) ∧ u.geo = (putFix s f).geo := by
  unfold fixedState
  rcases unlockDish_cases s f with same | ⟨locked, same⟩
  · rw [same]
    exact ⟨rfl, rfl, rfl, rfl, rfl, rfl, rfl, Iff.rfl, rfl⟩
  · rw [same]
    refine ⟨rfl, rfl, rfl, rfl, rfl, rfl, rfl, ?_, rfl⟩
    rw [locked]
    exact ⟨fun h => (by cases h), fun h => (by cases h)⟩

theorem fixedState_entry (s : State) (f : Fix) (site : Fin 32) :
    (fixedState s f).entry site = (s.entry site).afterFix (datumChanged s f) f := by
  obtain ⟨-, -, -, -, -, -, -, -, geo⟩ := fixedState_same s f
  have empty : Entry.zero.afterFix (datumChanged s f) f = Entry.zero := by cases datumChanged s f <;> rfl
  rw [State.entry, geo]
  show (s.geo.table.map _).getD site.val Entry.zero = _
  rw [← empty, List.getD_map]
  rfl

theorem fixedState_kept (s : State) (f : Fix) :
    (fixedState s f).kept = { s.kept with fix := some f, fixGen := nextGeneration s.geo.fixGen } := by
  have put : ∀ t : State, t.geo.fixGen = s.geo.fixGen → t.kept = s.kept →
      (putFix t f).kept = { s.kept with fix := some f, fixGen := nextGeneration s.geo.fixGen } := fun t gen same => by
    rw [← gen, ← same]
    rfl
  rcases unlockDish_cases s f with same | ⟨-, same⟩
  · rw [fixedState, same]
    exact put s rfl rfl
  · rw [fixedState, same]
    exact put _ rfl rfl

theorem kept_fixLive (before s : State) (f : Fix) : (fixLive before s f).1.kept = s.kept := by
  unfold fixLive
  split
  · exact kept_recomputeLive s _
  · rfl

/-! ## The re-slew of the live site (R43, R44, R55) -/

theorem recomputeLive_reslews (s : State) (force : Bool) (site : Fin 32) (f : Fix) (live : s.stance.site = some site)
    (inputs : recomputeInputs s site = some (readSite s.mem site.val, f)) :
    (recomputeLive s force).2 = (force || movesEnough s.ctl.siteTargets
      (((s.entry site).computed s (readSite s.mem site.val) f).targets s.axes.pan.position)) := by
  simp only [recomputeLive, live, inputs]
  split
  next turns => exact turns.symm
  next stays => exact (Bool.not_eq_true _ ▸ stays).symm

theorem recomputeLive_notMade (s : State) (force : Bool) (site : Fin 32) (live : s.stance.site = some site)
    (inputs : recomputeInputs s site = none) : (recomputeLive s force).2 = false := by
  simp only [recomputeLive, live, inputs]

/-- Whether a valid block of an entry outlasts a fix (R53, R54). -/
def heldTrim (s : State) (f : Fix) (e : Entry) : Bool := e.trim.valid && (!datumChanged s f && trimKept e.trim f)

/-- The targets of a site for a new fix, with the trims that outlast it. -/
def fixTargets (s : State) (f : Fix) (site : Fin 32) : Targets :=
  let e := s.entry site
  deriveTargets (solve (readSite s.mem site.val) f s.ilk.pitch s.ilk.roll s.limits.roof s.ctl.effTarget)
    (if heldTrim s f e then e.trim.pan else 0) (if heldTrim s f e then e.trim.tilt else 0) s.axes.pan.position

/-- The live site is re-slewed by a fix: its recompute can be made, and moves it or discards the trims of a search. -/
theorem fixLive_reslews (s : State) (f : Fix) : (fixLive s (fixedState s f) f).2 = true ↔
    ∃ site, s.stance.dishGoal = .site ∧ s.stance.site = some site ∧
      (readSite s.mem site.val).acceptable = true ∧
      (readSite s.mem site.val).revision = (s.entry site).revision ∧ 50 ≤ rangeOf (readSite s.mem site.val) f ∧
      (2 ≤ (s.ctl.siteTargets.pan - (fixTargets s f site).pan).natAbs ∨
        2 ≤ (s.ctl.siteTargets.tilt - (fixTargets s f site).tilt).natAbs ∨
        (s.ctl.dishState = .peaking ∧ (s.entry site).trim.valid = true ∧ heldTrim s f (s.entry site) = false)) := by
  obtain ⟨stance, axes, ilk, limits, mem, siteTargets, effTarget, peaking, geo⟩ := fixedState_same s f
  have entry := fixedState_entry s f
  generalize fixedState s f = u at *
  have fix : u.geo.fix = some f := by rw [geo]; rfl
  unfold fixLive
  rw [stance]
  by_cases goal : s.stance.dishGoal = .site
  swap
  · simp [goal]
  rw [if_pos goal]
  cases live : s.stance.site with
  | none =>
    have noSite : u.stance.site = none := by rw [stance, live]
    simp [recomputeLive, noSite]
  | some site =>
    have live' : u.stance.site = some site := by rw [stance, live]
    have revision : (u.entry site).revision = (s.entry site).revision := by rw [entry, afterFix_revision]
    have targets : ((u.entry site).computed u (readSite u.mem site.val) f).targets u.axes.pan.position =
        fixTargets s f site := by
      simp only [Entry.computed, Entry.targets, computeSolution, Trim.panInForce, Trim.tiltInForce, entry, afterFix_trim,
        ilk, limits, mem, effTarget, axes]
      rfl
    have force : (discardsLive s f && u.ctl.dishState == .peaking) = true ↔
        s.ctl.dishState = .peaking ∧ (s.entry site).trim.valid = true ∧ heldTrim s f (s.entry site) = false := by
      have liveIs : liveEntry s = s.entry site := by simp only [liveEntry, live]
      rw [Bool.and_eq_true, beq_iff_eq, peaking, discardsLive, goal, liveIs, discards_eq, heldTrim]
      cases (s.entry site).trim.valid <;> cases datumChanged s f <;> simp [and_comm]
    by_cases made : (readSite s.mem site.val).acceptable = true ∧
        (readSite s.mem site.val).revision = (s.entry site).revision ∧ 50 ≤ rangeOf (readSite s.mem site.val) f
    · obtain ⟨ok, same, far⟩ := made
      have inputs := recomputeInputs_some u site f fix (mem ▸ ok) (by rw [mem, revision, same]) (mem ▸ far)
      rw [recomputeLive_reslews u _ site f live' inputs, targets, Bool.or_eq_true, force, movesEnough_iff, siteTargets]
      simp [goal, ok, same, far, or_comm, or_assoc]
    · have inputs : recomputeInputs u site = none := recomputeInputs_none u site fun g h => made (by
        obtain ⟨known, ok, same, far⟩ := h
        obtain rfl : f = g := Option.some.inj (fix.symm.trans known)
        exact ⟨mem ▸ ok, by rw [← revision, ← mem, same], mem ▸ far⟩)
      rw [recomputeLive_notMade u _ site live' inputs]
      simp only [Bool.false_eq_true, false_iff, not_exists]
      rintro site' ⟨-, here, ok, same, far, -⟩
      obtain rfl : site = site' := Option.some.inj here
      exact made ⟨ok, same, far⟩

/-! ## The header write of a fix (R162) -/

/-- A stored field that no later field covers reads back. -/
theorem read8_writeFields_head (a : Nat) (bs : List Byte) (fs : List (Nat × List Byte)) (m : Memory)
    (hw : Memory.wf m = true) (k : Nat) (hk : k < bs.length)
    (after : ∀ g ∈ fs, a + k < g.1 ∨ g.1 + g.2.length ≤ a + k) :
    read8 (writeFields m ((a, bs) :: fs)) (a + k) = bs[k] := by
  rw [writeFields, read8_writeFields_other fs _ _ after, read8_writeBytes bs m a k hw hk]

theorem updateHeaderWith_fix (before w : State) (hw : Memory.wf w.mem = true) :
    let t := updateHeaderWith before w (fixFields w)
    readU16 t.mem 16 = w.geo.fixGen % 65536 ∧ readU8 t.mem 18 = headerDatum w % 256 ∧
      t.board.headerSeq = w.board.headerSeq + 2#16 ∧ readU16 t.mem 10 = t.board.headerSeq.toNat ∧
      t.board.notice = w.board.notice := by
  have some : ¬ changedFields before w ++ fixFields w = [] := by simp [fixFields]
  have changed := writeFields_wf (changedFields before w) w.mem hw
  simp only [updateHeaderWith, if_neg some, writeHeaderFields, withBoard_mem, withMem_mem, withBoard_board,
    List.append_assoc, writeFields_append (changedFields before w)]
  generalize writeFields w.mem (changedFields before w) = m at changed
  generalize w.board.headerSeq + 2#16 = q
  have datum := writeBytes_wf (leBytes 2 w.geo.fixGen) m 16 changed
  have count := writeBytes_wf (leBytes 1 (headerDatum w)) _ 18 datum
  have gen : ∀ k (hk : k < (leBytes 2 w.geo.fixGen).length), read8 (writeFields m (fixFields w ++ [(10, leBytes 2 q.toNat)]))
      (16 + k) = (leBytes 2 w.geo.fixGen)[k] := fun k hk =>
    read8_writeFields_head 16 _ [(18, leBytes 1 (headerDatum w)), (10, leBytes 2 q.toNat)] m changed k hk (by
      rw [leBytes_length] at hk
      simp only [List.mem_cons, List.not_mem_nil, or_false, forall_eq_or_imp, forall_eq, leBytes_length]
      omega)
  have seq : ∀ k (hk : k < (leBytes 2 q.toNat).length), read8 (writeFields m (fixFields w ++ [(10, leBytes 2 q.toNat)]))
      (10 + k) = (leBytes 2 q.toNat)[k] := fun k hk =>
    read8_writeFields_head 10 _ [] _ count k hk (by simp)
  refine ⟨readU16_stored (gen 0 (by simp)) (gen 1 (by simp)), ?_, trivial, ?_, trivial⟩
  · have byte := read8_writeFields_head 18 (leBytes 1 (headerDatum w)) [(10, leBytes 2 q.toNat)] _ datum 0 (by simp)
      (by simp)
    exact (congrArg BitVec.toNat byte).trans (BitVec.toNat_ofNat ..)
  · rw [readU16_stored (seq 0 (by simp)) (seq 1 (by simp))]
    exact Nat.mod_eq_of_lt q.isLt

/-! ## SET_FIX as a take (R31, R32) -/

theorem setFix_taken (s : State) (n : Slot) (taken : Taken s .setFix n) :
    let w := settle (ownSetFix (popIntake s) n)
    exec .setFix s = .next (updateHeaderWith s w (if (readFix s.mem n).acceptable then fixFields w else [])) := by
  show Host.Outcome.next (takeWriting .setFix _ ownSetFix fixFields s) = _
  simp only [takeWriting, takeSteps_passed s .setFix n taken, take_passed s .setFix ownSetFix n taken]

/-- The result data of an accepted fix (R32, 10.2). -/
def fixData (s : State) (f : Fix) (reslewed : Bool) : List Byte :=
  leBytes 2 (nextGeneration s.geo.fixGen) ++ flagByte (datumChanged s f) ++ flagByte reslewed ++
    leBytes 1 (keptCount s f) ++ leBytes 1 (discardCount s f)

theorem ownSetFix_accepted (s : State) (n : Slot) (ok : (readFix s.mem n).acceptable = true) :
    let r := fixLive s (fixedState s (readFix s.mem n)) (readFix s.mem n)
    ownSetFix s n = writeResult r.1 n .ok Warnings.empty (fixData s (readFix s.mem n) r.2) := by
  intro r
  have gen : r.1.geo.fixGen = nextGeneration s.geo.fixGen := by
    have kept : r.1.kept = _ := (kept_fixLive s _ _).trans (fixedState_kept s _)
    exact congrArg Kept.fixGen kept
  rw [fixData, ← gen]
  simp only [ownSetFix, ok, Bool.not_true, Bool.false_eq_true, if_false]
  rfl

/-- The counts of blocks kept and discarded fit their bytes (R49). -/
theorem countP_table (s : State) (table : tableSound s) (p : Entry → Bool) :
    (BitVec.ofNat 8 (s.geo.table.countP p)).toNat = s.geo.table.countP p := by
  have most : s.geo.table.countP p ≤ s.geo.table.length := List.countP_le_length
  rw [BitVec.toNat_ofNat]
  omega

/-- No byte of a slot barred from the stores is stored to. -/
theorem moduleByte_slot (n : Slot) (a : Nat) (low : slotAddr n ≤ a) (high : a < slotAddr n + 64) :
    ¬ moduleByte (· ≠ n) a := by
  have addr : slotAddr n = 256 + 64 * n.val := rfl
  have := n.isLt
  rintro (⟨m, other, low', high'⟩ | ⟨page, -⟩ | packages)
  · refine other (Fin.ext ?_)
    simp only [slotAddr, Config.slotBase] at low' high'
    omega
  · simp only [Config.telemetryBase] at page
    omega
  · simp only [Config.packageBase] at packages
    omega

end Sys2Proof.Machine
end

section
/-! PROOFS. SET_FIX: what stands in its slot and in the header once the event is over. -/
namespace Sys2Proof.Machine
set_option Elab.async false -- one lemma after another: elaborated at once they would each hold a thread

/-! ## A result outlasts the event (R162) -/

section
variable {s u : State} {n : Slot}

/-- The bytes of a slot no open command and no exchange has stand through the end of the event. -/
theorem updateHeaderWith_settle_slot (apart : Confined (· ≠ n) s u) (before : State) (also : List (Nat × List Byte))
    (within : ∀ f ∈ also, f.1 + f.2.length ≤ 256) (a : Nat) (low : slotAddr n ≤ a) (high : a < slotAddr n + 64) :
    read8 (updateHeaderWith before (settle u) also).mem a = read8 u.mem a := by
  have past : 256 ≤ a := le_trans (Nat.le_add_right 256 (64 * n.val)) low
  have settled : Confined (· ≠ n) u (settle u) := (Confined.refl apart.opened apart.exchange).settle
  rw [updateHeaderWith_beyond before _ also within a past, settled.bytes a (moduleByte_slot n a low high)]

/-- So it stays answered as it was. -/
theorem answered_afterEvent {before : State} {also : List (Nat × List Byte)} {code : Nat} (answered : Answered u n code)
    (apart : Confined (· ≠ n) s u) (within : ∀ f ∈ also, f.1 + f.2.length ≤ 256)
    (notice : (updateHeaderWith before (settle u) also).board.notice = (settle u).board.notice) :
    Answered (updateHeaderWith before (settle u) also) n code := by
  obtain ⟨owner, coded, noted⟩ := answered
  have settled : Confined (· ≠ n) u (settle u) := (Confined.refl apart.opened apart.exchange).settle
  have slot := updateHeaderWith_settle_slot apart before also within
  refine ⟨?_, ?_, ?_⟩
  · rw [slotOwner, readU8, slot _ (by omega) (by omega)]
    exact owner
  · rw [readU8, slot _ (by omega) (by omega)]
    exact coded
  · rw [notice]
    exact settled.notice n.val noted
end

/-! ## The state after an accepted SET_FIX -/

/-- The state after the event of a SET_FIX of an acceptable fix. -/
def fixDone (s : State) (n : Slot) : State :=
  let w := settle (ownSetFix (popIntake s) n)
  updateHeaderWith s w (fixFields w)

theorem setFix_accepted (s : State) (n : Slot) (taken : Taken s .setFix n) (ok : (readFix s.mem n).acceptable = true) :
    exec .setFix s = .next (fixDone s n) := by
  have event := setFix_taken s n taken
  simp only [ok, if_true] at event
  exact event

theorem setFix_refused (s : State) (n : Slot) (taken : Taken s .setFix n) (hw : Memory.wf s.mem = true)
    (bad : ¬ (readFix s.mem n).acceptable = true) :
    ∃ u, exec .setFix s = .next (endEvent s u) ∧ Refused s u n .badRecord := by
  refine ⟨refuse (popIntake s) n .badRecord, ?_, refuse_refused s n .badRecord hw⟩
  have refused : ownSetFix (popIntake s) n = refuse (popIntake s) n .badRecord := if_pos (by simpa using bad)
  rw [setFix_taken s n taken, if_neg bad, refused]
  rfl

theorem fixFields_within (s : State) : ∀ f ∈ fixFields s, f.1 + f.2.length ≤ 256 := by
  simp [fixFields]

theorem fixDone_kept (s : State) (n : Slot) (ok : (readFix s.mem n).acceptable = true) :
    (fixDone s n).kept = { s.kept with
      fix := some (readFix s.mem n), fixGen := nextGeneration s.geo.fixGen, intake := s.board.intake.tail } := by
  have own := ownSetFix_accepted (popIntake s) n ok
  rw [fixDone, kept_updateHeaderWith, kept_settle, own, kept_writeResult, kept_fixLive, fixedState_kept]
  rfl

/-- The state in which the result of a SET_FIX is written, and whether the live site was re-slewed. -/
def fixResult (s : State) (n : Slot) : State × Bool :=
  fixLive (popIntake s) (fixedState (popIntake s) (readFix s.mem n)) (readFix s.mem n)

theorem fixResult_apart (s : State) (n : Slot) (idle : s.swap.phase = .idle) (head : s.board.intake.head? = some n)
    (separate : slotsSeparate s) : Confined (· ≠ n) s (fixResult s n).1 := by
  obtain ⟨-, -, apart⟩ := separate
  have waits : n ∈ s.board.intake := List.mem_of_head? head
  have opened : ∀ c ∈ s.board.openSet, c.slot ≠ n := fun c hc same =>
    apart n waits (same ▸ List.mem_map_of_mem hc)
  have start : Confined (· ≠ n) s s := .refl opened fun quiesce => by rw [idle] at quiesce; cases quiesce
  exact start.popIntake.fixTaken _

/-- What the slot and the header show of an accepted fix. -/
theorem fixDone_shown (s : State) (n : Slot) (taken : Taken s .setFix n) (ok : (readFix s.mem n).acceptable = true)
    (sound : Sound s) : let t := fixDone s n
    Answered t n 0 ∧ readU8 t.mem (slotAddr n + 5) = 0 ∧
      (∀ k < 24, read8 t.mem (slotAddr n + 40 + k) = (fixData s (readFix s.mem n) (fixResult s n).2).getD k 0) ∧
      readU16 t.mem 16 = t.geo.fixGen % 65536 ∧ readU8 t.mem 18 = (readFix s.mem n).datum ∧
      t.board.headerSeq = s.board.headerSeq + 2#16 ∧ readU16 t.mem 10 = t.board.headerSeq.toNat := by
  obtain ⟨hw, separate⟩ := sound
  obtain ⟨-, idle, head, -⟩ := taken
  have kept := fixDone_kept s n ok
  have gen : (fixDone s n).geo.fixGen = (settle (ownSetFix (popIntake s) n)).geo.fixGen :=
    congrArg Kept.fixGen (kept_updateHeaderWith s _ _)
  have fix : (settle (ownSetFix (popIntake s) n)).geo.fix = some (readFix s.mem n) :=
    (congrArg Kept.fix (kept_updateHeaderWith s _ _)).symm.trans (congrArg Kept.fix kept)
  have apart := fixResult_apart s n idle head separate
  have wf := apart.wf hw
  have own : ownSetFix (popIntake s) n = writeResult (fixResult s n).1 n .ok Warnings.empty
    (fixData s (readFix s.mem n) (fixResult s n).2) := ownSetFix_accepted (popIntake s) n ok
  rw [fixDone, own] at gen ⊢
  rw [own] at fix
  generalize fixData s (readFix s.mem n) (fixResult s n).2 = data at *
  set q := writeResult (fixResult s n).1 n .ok Warnings.empty data
  have qApart : Confined (· ≠ n) q q := .refl apart.opened apart.exchange
  have settled := qApart.settle
  have within := fixFields_within (settle q)
  obtain ⟨genShown, datumShown, seq, seqShown, notice⟩ :=
    updateHeaderWith_fix s (settle q) (settled.wf (writeResult_wf _ _ _ _ _ wf))
  have slot := updateHeaderWith_settle_slot qApart s (fixFields (settle q)) within
  have answered : Answered q n Code.ok.toNat := writeResult_answered _ n .ok Warnings.empty data wf
  refine ⟨answered_afterEvent answered qApart within notice, ?_, fun k hk => ?_, ?_, ?_, ?_, seqShown⟩
  · rw [readU8, slot _ (by omega) (by omega), writeResult_warnings _ _ _ _ _ wf]
    rfl
  · rw [slot _ (by omega) (by omega), writeResult_getD _ _ _ _ _ wf k hk]
  · rw [genShown, gen]
  · rw [datumShown, headerDatum, fix]
    exact Nat.mod_eq_of_lt (readFix_datum_lt s.mem n)
  · rw [seq, settled.headerSeq]
    exact congrArg (· + 2#16) apart.headerSeq

/-! ## The result data (R32) -/

theorem heldTrim_iff (s : State) (f : Fix) (e : Entry) : heldTrim s f e = true ↔ e.trim.valid = true ∧
    ¬ (∀ old, s.geo.fix = some old → old.datum ≠ f.datum) ∧ e.trim.datum = f.datum ∧
    (f.east - e.trim.east) * (f.east - e.trim.east) + (f.north - e.trim.north) * (f.north - e.trim.north) < 25 ∧
    min (e.trim.heading - f.heading).natAbs (36000 - (e.trim.heading - f.heading).natAbs) < 100 := by
  rw [heldTrim, Bool.and_eq_true, Bool.and_eq_true, Bool.not_eq_true', ← Bool.not_eq_true, datumChanged_iff, trimKept_iff]

/-- The targets of a site for a new fix, by any reading of which trims outlast it. -/
theorem fixTargets_eq (s : State) (f : Fix) (site : Fin 32) (held : Prop) [Decidable held]
    (outlasts : heldTrim s f (s.entry site) = true ↔ held) : fixTargets s f site =
      deriveTargets (solve (readSite s.mem site.val) f s.ilk.pitch s.ilk.roll s.limits.roof s.ctl.effTarget)
        (if held then (s.entry site).trim.pan else 0) (if held then (s.entry site).trim.tilt else 0)
        s.axes.pan.position := by
  rw [← if_congr outlasts rfl rfl, ← if_congr outlasts rfl rfl]
  rfl

theorem fixData_eq (s : State) (f : Fix) (reslewed : Bool) : fixData s f reslewed =
    [BitVec.ofNat 8 (nextGeneration s.geo.fixGen), BitVec.ofNat 8 (nextGeneration s.geo.fixGen / 256),
      if datumChanged s f then 1 else 0, if reslewed then 1 else 0, BitVec.ofNat 8 (keptCount s f),
      BitVec.ofNat 8 (discardCount s f)] := rfl

theorem keptCount_byte (s : State) (f : Fix) (table : tableSound s) :
    (BitVec.ofNat 8 (keptCount s f)).toNat = s.geo.table.countP (heldTrim s f) := by
  refine (countP_table s table _).trans (List.countP_congr fun e _ => ?_)
  rw [discards_eq, heldTrim]
  cases e.trim.valid <;> simp

theorem discardCount_byte (s : State) (f : Fix) (table : tableSound s) :
    (BitVec.ofNat 8 (discardCount s f)).toNat = s.geo.table.countP (fun e => e.trim.valid && !heldTrim s f e) := by
  refine (countP_table s table _).trans (List.countP_congr fun e _ => ?_)
  rw [discards_eq, heldTrim]
  cases e.trim.valid <;> simp

end Sys2Proof.Machine

open Sys2Proof Sys2Proof.Machine

/-- Settles O17. Everything but the slot and the header is read off the groups the event keeps; those two off the stores of
the take and of its header write, which nothing at the end of the event touches again. -/
theorem setFixTaken : Obligations.SetFixTaken := by
  unfold Obligations.SetFixTaken
  intro s n f taken hw record changed near kept reslewed
  subst record
  have held : ∀ e, heldTrim s (readFix s.mem n) e = true ↔ e.trim.valid = true ∧ kept e.trim := heldTrim_iff s _
  have turned : (fixResult s n).2 = true ↔ reslewed := by
    have made : (fixResult s n).2 = true ↔ _ := fixLive_reslews (popIntake s) _
    refine made.trans (exists_congr fun site => ?_)
    have lost : heldTrim s (readFix s.mem n) (s.entry site) = false ↔
        ¬ ((s.entry site).trim.valid = true ∧ kept (s.entry site).trim) := by rw [← held, Bool.not_eq_true]
    have targets := fixTargets_eq s (readFix s.mem n) site _ (held (s.entry site))
    dsimp only
    rw [← targets, ← lost]
    exact Iff.rfl
  constructor
  · intro range
    exact setFix_refused s n taken hw (range ∘ (readFix_acceptable s.mem n).mp)
  intro east east' north north' ground ground' heading
  have ok := (readFix_acceptable s.mem n).mpr ⟨east, east', north, north', ground, ground', heading⟩
  have same := fixDone_kept s n ok
  refine ⟨fixDone s n, setFix_accepted s n taken ok, congrArg Kept.fix same, congrArg Kept.fixGen same,
    congrArg Kept.limits same, congrArg Kept.wind same, congrArg Kept.power same, congrArg Kept.telem same,
    congrArg Kept.pending same, congrArg Kept.lines same, congrArg Kept.pitch same, congrArg Kept.roll same,
    congrArg Kept.intake same, fun a => ?_, fun sound table => ?_⟩
  · have sensed : (fixDone s n).kept.axis a = s.kept.axis a := by rw [same]; cases a <;> rfl
    rw [← sensed_axis, ← sensed_axis] at sensed
    exact congrArg Prod.fst sensed
  · have gen : (fixDone s n).geo.fixGen = nextGeneration s.geo.fixGen := congrArg Kept.fixGen same
    obtain ⟨answered, warnings, data, genShown, datum, seq, seqShown⟩ := fixDone_shown s n taken ok sound
    rw [fixData_eq] at data
    refine ⟨answered, warnings, ?_, ?_, ?_, ?_, ?_, fun k hk => ?_, genShown, datum, seq, seqShown⟩
    · rw [gen]
      exact readU16_stored (data 0 (by decide)) (data 1 (by decide))
    · exact (iff_of_eq (congrArg (·.toNat = 1) (data 2 (by decide)))).trans ((flag_toNat _).trans (datumChanged_iff s _))
    · exact (iff_of_eq (congrArg (·.toNat = 1) (data 3 (by decide)))).trans ((flag_toNat _).trans turned)
    · refine (congrArg BitVec.toNat (data 4 (by decide))).trans ((keptCount_byte s _ table).trans ?_)
      exact List.countP_congr fun e _ => (held e).trans decide_eq_true_iff.symm
    · refine (congrArg BitVec.toNat (data 5 (by decide))).trans ((discardCount_byte s _ table).trans ?_)
      refine List.countP_congr fun e _ => ?_
      rw [decide_eq_true_iff, Bool.and_eq_true, Bool.not_eq_true', ← Bool.not_eq_true, held]
      exact and_congr_right fun valid => not_congr (and_iff_right valid)
    · rw [show slotAddr n + 46 + k = slotAddr n + 40 + (6 + k) by omega, data (6 + k) (by omega)]
      exact List.getD_eq_default _ _ (Nat.le_add_right 6 k)
end

section
/-! PROOFS. The adoption of a package's trims (R51, R59): O16. -/
namespace Sys2Proof.Machine

/-! ## The revision check (R51) -/

theorem checked_trim (e : Entry) (revision : Nat) : (e.checked revision).trim =
    if e.revision = revision then e.trim else { e.trim with valid := false } := by
  unfold Entry.checked
  split <;> rfl

theorem checked_state (e : Entry) (revision : Nat) : (e.checked revision).state =
    if e.revision = revision then e.state else .empty := by
  unfold Entry.checked
  split <;> rfl

theorem checked_revision (e : Entry) (revision : Nat) : (e.checked revision).revision = revision := by
  unfold Entry.checked
  split
  next same => exact same
  next => rfl

theorem checked_solution (e : Entry) (revision : Nat) : let c := e.checked revision
    c.sol = e.sol ∧ c.fixGen = e.fixGen ∧ c.height = e.height := by
  unfold Entry.checked
  split <;> exact ⟨rfl, rfl, rfl⟩

/-! ## Adoption (R59) -/

theorem adopts_iff (s : State) (p : Package) : adopts s p = true ↔
    ∃ f, s.geo.fix = some f ∧ p.trim.valid = true ∧ trimKept p.trim f = true := by
  cases fix : s.geo.fix <;> simp [adopts, fix]

/-- An adoption writes the entry of the package's site alone. -/
theorem adoptTrims_site (s : State) (p : Package) (site : Fin 32) (named : p.site = site.val) :
    let e := (s.entry site).checked (readSite s.mem site.val).revision
    adoptTrims s p = s.withEntry site { e with trim := if adopts s p then p.trim else e.trim } := by
  simp only [adoptTrims, named, siteOfByte_site]
  split <;> rfl

end Sys2Proof.Machine

open Sys2Proof Sys2Proof.Machine

/-- Settles O16. -/
theorem adoptionRule : Obligations.AdoptionRule := by
  refine ⟨fun s p nowhere => by simp only [adoptTrims, nowhere], ?_⟩
  intro s p site table named e rev t d fits
  have taken := adoptTrims_site s p site named
  have entry : t = { e.checked rev with trim := if adopts s p then p.trim else (e.checked rev).trim } := by
    rw [show t = (adoptTrims s p).entry site from rfl, taken, withEntry_same _ _ _ table]
  have adopted : adopts s p = true ↔ ∃ f, s.geo.fix = some f ∧ fits f := by
    have valid : p.trim.valid = true ↔ p.trimValid = 1 := beq_iff_eq
    rw [adopts_iff]
    refine exists_congr fun f => and_congr_right fun _ => ?_
    rw [trimKept_iff, valid]
    exact Iff.rfl
  obtain ⟨sol, fixGen, height⟩ := checked_solution e rev
  rw [entry]
  refine ⟨fun f fix fit => if_pos (adopted.mpr ⟨f, fix, fit⟩), fun none => ?_, checked_state e rev, checked_revision e rev,
    sol, fixGen, height, fun k other => ?_, ?_⟩
  · have refused : ¬ adopts s p = true := fun h => by
      obtain ⟨f, fix, fit⟩ := adopted.mp h
      exact none f fix fit
    exact (if_neg refused).trans (checked_trim e rev)
  · rw [taken, withEntry_other _ _ _ _ other]
  · rw [taken]
    rfl
end

section
/-! PROOFS. The table after a SET_FIX (R32, R43, R53 to R55): O18. -/
namespace Sys2Proof.Machine

/-! ## Targets given to the dish leave the geometry alone -/

theorem swapEarlyEnd_geo (s : State) (code : Code) : (swapEarlyEnd s code).geo = s.geo := by
  unfold swapEarlyEnd completeSwap
  simp only []
  (repeat' split) <;> simp

theorem putFault_geo (s : State) (f : FaultId) : (putFault s f).geo = s.geo := by
  unfold putFault makeRoom
  simp only []
  (repeat' split) <;> rfl

theorem reportFault_geo (s : State) (f : FaultId) : (reportFault s f).geo = s.geo := by
  unfold reportFault
  split
  · rfl
  · rw [swapEarlyEnd_geo, putFault_geo]

theorem endWhere_geo (s : State) (p : OpenCommand → Bool) (code : Code) : (endWhere s p code).geo = s.geo := by
  obtain ⟨-, -, -, -, -, geo, -⟩ := endWhere_same s p code
  exact geo

/-- A dish axis fault leaves the geometry (R26, R147). -/
theorem dishFaultReact_geo (s : State) : (dishFaultReact s).geo = s.geo := by
  have stops : onlyDrives s (controlledStops s dishAxes) := aside_controlledStops ..
  obtain ⟨-, -, -, -, -, stopped, -⟩ := stopSearch_same (controlledStops s dishAxes) .faulted false
  unfold dishFaultReact
  split
  · exact withDish_geo ..
  · rw [endWhere_geo, withDishShort_geo, writeDishGoal_geo, withDish_geo, withPeakPending_geo]
    exact stopped.trans stops.geo

theorem axisFault_geo (s : State) (a : Axis) (f : FaultId) (dish : a ≠ .mast) : (axisFault s a f).geo = s.geo := by
  unfold axisFault axisReact
  split
  · rw [dishFaultReact_geo, reportFault_geo]
  · exact reportFault_geo s f

theorem giveDishAxis_geo (s : State) (a : Axis) (t : Int) (dish : a ≠ .mast) : (giveDishAxis s a t).geo = s.geo := by
  have given := (axisGive_drives s a t (movePriority s)).geo
  unfold giveDishAxis giveTarget orLimit
  split
  · rfl
  split
  · exact (axisFault_geo _ a _ dish).trans given
  · exact given

theorem giveDish_geo (s : State) (t : Targets) : (giveDish s t).geo = s.geo := by
  rw [giveDish, giveDishAxis_geo _ .pol _ (by decide), giveDishAxis_geo _ .tilt _ (by decide),
    giveDishAxis_geo _ .pan _ (by decide)]

theorem slewTo_geo (s : State) (t : Targets) : (slewTo s t).geo = s.geo := by
  obtain ⟨-, -, -, -, -, stands⟩ := dishStands_same s
  unfold slewTo
  split
  · exact stands
  split
  · rw [nestWait_eq]
    rfl
  · rw [giveDish_geo, withDishShort_geo, withDish_geo]

theorem retargetDish_geo (s : State) (old t : Targets) : (retargetDish s old t).geo = s.geo := by
  have axis : ∀ (u : State) (a : Axis) (x : Int) (p : Prop) [Decidable p], a ≠ .mast →
      (if p then u else giveDishAxis u a x).geo = u.geo := fun u a x p _ dish => by
    split
    · rfl
    · exact giveDishAxis_geo u a x dish
  simp only [retargetDish]
  rw [axis _ .pol _ _ (by decide), axis _ .tilt _ _ (by decide), axis _ .pan _ _ (by decide)]

theorem endSearch_geo (s : State) (o : SearchOutcome) (code : Code) : (endSearch s o code).geo = s.geo := by
  obtain ⟨-, -, -, -, geo, -⟩ := endSearch_same s o code
  exact geo

theorem reslew_geo (s : State) (old : Targets) : (reslew s old).geo = s.geo := by
  unfold reslew
  cases s.ctl.dishState with
  | slewing =>
    dsimp only
    split
    · rfl
    split
    · split
      · rfl
      · rw [nestWait_eq]
        rfl
    · exact retargetDish_geo ..
  | onSolution | locked =>
    dsimp only
    split
    · exact slewTo_geo ..
    · rfl
  | peaking => exact (slewTo_geo ..).trans (endSearch_geo s .abandoned .ok)
  | nestWait | parked | stowed | stowing | failed => rfl

theorem notRecomputed_geo (s : State) (site : Fin 32) (force : Bool) : (notRecomputed s site force).geo = s.geo := by
  unfold notRecomputed
  split
  · rw [slewTo_geo, endSearch_geo]
  · rfl

/-! ## The recompute of the live site (R43) -/

/-- A recompute that is made writes the entry of the live site alone of the geometry. -/
theorem recomputeLive_geo_made (s : State) (force : Bool) (site : Fin 32) (r : SiteRecord) (f : Fix)
    (live : s.stance.site = some site) (inputs : recomputeInputs s site = some (r, f)) :
    (recomputeLive s force).1.geo = (s.withEntry site ((s.entry site).computed s r f)).geo := by
  simp only [recomputeLive, live, inputs]
  split
  · exact reslew_geo ..
  · rfl

theorem recomputeLive_geo_notMade (s : State) (force : Bool)
    (inputs : ∀ site, s.stance.site = some site → recomputeInputs s site = none) :
    (recomputeLive s force).1.geo = s.geo := by
  cases live : s.stance.site with
  | none => simp only [recomputeLive, live]
  | some site =>
    simp only [recomputeLive, live, inputs site live]
    exact notRecomputed_geo ..

/-! ## An entry after a fix (R53, R54) -/

theorem afterFix_state (changed : Bool) (f : Fix) (e : Entry) : (e.afterFix changed f).state =
    if changed then .empty else if e.state = .computed then .stale else e.state := by
  cases changed
  · show e.staled.state = _
    simp only [Entry.staled, Bool.false_eq_true, if_false]
    split <;> rfl
  · rfl

theorem afterFix_solution (changed : Bool) (f : Fix) (e : Entry) : let g := e.afterFix changed f
    g.sol = e.sol ∧ g.fixGen = e.fixGen ∧ g.height = e.height := by
  cases changed
  · show e.staled.sol = _ ∧ e.staled.fixGen = _ ∧ e.staled.height = _
    unfold Entry.staled
    split <;> exact ⟨rfl, rfl, rfl⟩
  · exact ⟨rfl, rfl, rfl⟩

/-! ## The table after a fix (R32, R55) -/

/-- The recompute of a site for a new fix can be made, and is asked for (R32, R43). -/
def fixMade (s : State) (f : Fix) (k : Fin 32) : Prop :=
  s.stance.dishGoal = .site ∧ s.stance.site = some k ∧ (readSite s.mem k.val).acceptable = true ∧
    (readSite s.mem k.val).revision = (s.entry k).revision ∧ 50 ≤ rangeOf (readSite s.mem k.val) f

theorem fixMade.site {s : State} {f : Fix} {k : Fin 32} (made : fixMade s f k) : s.stance.site = some k := by
  obtain ⟨-, live, -⟩ := made
  exact live

theorem fixMade.revision {s : State} {f : Fix} {k : Fin 32} (made : fixMade s f k) :
    (readSite s.mem k.val).revision = (s.entry k).revision := by
  obtain ⟨-, -, -, same, -⟩ := made
  exact same

/-- What a fix makes of the geometry: the table put, and in it the live site's entry computed afresh where that can be. -/
theorem fixLive_geo (s : State) (f : Fix) : let v := fixedState s f
    ((∀ k, ¬ fixMade s f k) ∧ (fixLive s v f).1.geo = v.geo) ∨
    ∃ site, fixMade s f site ∧
      (fixLive s v f).1.geo = (v.withEntry site ((v.entry site).computed v (readSite s.mem site.val) f)).geo := by
  intro v
  obtain ⟨stance, -, -, -, mem, -, -, -, geo⟩ := fixedState_same s f
  have fix : v.geo.fix = some f := congrArg Geometry.fix geo
  have revision : ∀ k, (v.entry k).revision = (s.entry k).revision := fun k => by
    rw [fixedState_entry, afterFix_revision]
  unfold fixLive
  by_cases goal : s.stance.dishGoal = .site
  swap
  · rw [if_neg (by rwa [stance])]
    exact .inl ⟨fun k made => goal made.1, rfl⟩
  rw [if_pos (by rwa [stance])]
  by_cases made : ∃ k, fixMade s f k
  · obtain ⟨site, made⟩ := made
    obtain ⟨-, live, ok, same, far⟩ := id made
    have inputs := recomputeInputs_some v site f fix (mem ▸ ok) (by rw [mem, revision, same]) (mem ▸ far)
    rw [mem] at inputs
    exact .inr ⟨site, made, recomputeLive_geo_made v _ site _ f (by rw [stance, live]) inputs⟩
  · refine .inl ⟨not_exists.mp made, recomputeLive_geo_notMade v _ fun site live => ?_⟩
    refine recomputeInputs_none v site fun g h => made ⟨site, ?_⟩
    obtain ⟨known, ok, same, far⟩ := h
    obtain rfl : f = g := Option.some.inj (fix.symm.trans known)
    exact ⟨goal, by rw [← stance, live], mem ▸ ok, by rw [← revision, ← mem, same], mem ▸ far⟩

theorem fixedState_table (s : State) (f : Fix) : (fixedState s f).geo.table.length = s.geo.table.length := by
  obtain ⟨-, -, -, -, -, -, -, -, geo⟩ := fixedState_same s f
  rw [geo]
  exact List.length_map ..

theorem fixLive_table (s : State) (f : Fix) :
    (fixLive s (fixedState s f) f).1.geo.table.length = s.geo.table.length := by
  rcases fixLive_geo s f with ⟨-, geo⟩ | ⟨site, -, geo⟩
  · rw [geo, fixedState_table]
  · rw [geo, withEntry_length, fixedState_table]

/-- An entry that the recompute of a fix does not reach. -/
theorem fixLive_entry_other (s : State) (f : Fix) (k : Fin 32) (other : ¬ fixMade s f k) :
    (fixLive s (fixedState s f) f).1.entry k = (s.entry k).afterFix (datumChanged s f) f := by
  rw [← fixedState_entry]
  rcases fixLive_geo s f with ⟨-, geo⟩ | ⟨site, made, geo⟩
  · exact entry_congr geo k
  · exact (entry_congr geo k).trans (withEntry_other _ _ _ _ fun same => other (same ▸ made))

/-- The live site's entry, computed afresh. -/
theorem fixLive_entry_made (s : State) (f : Fix) (k : Fin 32) (table : tableSound s) (made : fixMade s f k) :
    (fixLive s (fixedState s f) f).1.entry k = ⟨.computed, nextGeneration s.geo.fixGen, s.ctl.effTarget,
      solve (readSite s.mem k.val) f s.ilk.pitch s.ilk.roll s.limits.roof s.ctl.effTarget,
      (readSite s.mem k.val).revision, ((s.entry k).afterFix (datumChanged s f) f).trim⟩ := by
  obtain ⟨-, -, ilk, limits, -, -, effTarget, -, geo⟩ := fixedState_same s f
  rcases fixLive_geo s f with ⟨none, -⟩ | ⟨site, live, put⟩
  · exact absurd made (none k)
  obtain rfl : site = k := Option.some.inj (live.site.symm.trans made.site)
  rw [entry_congr put, withEntry_same _ _ _ ((fixedState_table s f).trans table), Entry.computed, computeSolution,
    fixedState_entry, ilk, limits, effTarget, geo]
  rfl

end Sys2Proof.Machine

open Sys2Proof Sys2Proof.Machine

/-- Settles O18: the live site's entry, computed afresh, and every other one, as the fix leaves it. -/
theorem tableAfterFix : Obligations.TableAfterFix := by
  rintro s n f taken table rfl ok
  set f := readFix s.mem n
  have own : ownSetFix (popIntake s) n = writeResult (fixResult s n).1 n .ok Warnings.empty
    (fixData s f (fixResult s n).2) := ownSetFix_accepted (popIntake s) n ok
  have geo : (ownSetFix (popIntake s) n).geo = (fixResult s n).1.geo := by rw [own, writeResult_geo]
  have length : (fixResult s n).1.geo.table.length = s.geo.table.length := fixLive_table (popIntake s) f
  refine ⟨ownSetFix (popIntake s) n, setFix_accepted s n taken ok, by rw [geo, length, table], ?_⟩
  intro k e g r live near turn
  have changed : datumChanged s f = true ↔ ∀ old, s.geo.fix = some old → old.datum ≠ f.datum := datumChanged_iff s f
  have trim : (e.afterFix (datumChanged s f) f).trim =
    { e.trim with valid := e.trim.valid && (!datumChanged s f && trimKept e.trim f) } := afterFix_trim ..
  have state := afterFix_state (datumChanged s f) f e
  obtain ⟨sol, fixGen, height⟩ := afterFix_solution (datumChanged s f) f e
  have revision := afterFix_revision (datumChanged s f) f e
  have gen : (ownSetFix (popIntake s) n).geo.fixGen = nextGeneration s.geo.fixGen := by
    rw [geo]
    exact congrArg Kept.fixGen ((kept_fixLive (popIntake s) _ f).trans (fixedState_kept (popIntake s) f))
  have made : live → g = ⟨.computed, nextGeneration s.geo.fixGen, s.ctl.effTarget,
      solve r f s.ilk.pitch s.ilk.roll s.limits.roof s.ctl.effTarget, r.revision,
      (e.afterFix (datumChanged s f) f).trim⟩ := fun h =>
    (entry_congr geo k).trans (fixLive_entry_made (popIntake s) f k table h)
  have other : ¬ live → g = e.afterFix (datumChanged s f) f := fun h =>
    (entry_congr geo k).trans (fixLive_entry_other (popIntake s) f k h)
  have block : g.trim = { e.trim with valid := e.trim.valid && (!datumChanged s f && trimKept e.trim f) } := by
    rw [← trim]
    by_cases h : live
    · rw [made h]
    · rw [other h]
  refine ⟨?_, by rw [block], fun h => ?_, fun h => ?_, fun fresh => ⟨?_, fun h => ?_⟩, fun old known same => ?_⟩
  · by_cases h : live
    · rw [made h]
      exact fixMade.revision (s := popIntake s) h
    · rw [other h, revision]
  · rw [made h, gen]
    exact ⟨rfl, rfl, rfl, rfl⟩
  · rw [other h]
    exact ⟨sol, fixGen, height⟩
  · rw [block, changed.mpr fresh]
    simp
  · rw [other h, state, if_pos (changed.mpr fresh)]
  · have unchanged : datumChanged s f = false := by
      rw [← Bool.not_eq_true, changed]
      exact fun fresh => fresh old known same
    constructor
    · intro h
      rw [other h, state, unchanged, if_neg Bool.false_ne_true]
    · rw [block, unchanged, Bool.not_false, Bool.true_and, Bool.and_eq_true, trimKept_iff]
end

section
/-! PROOFS. The course of a search (R64, R67 to R71), a lock (R57, R72), and the other ends (R73, R76, R77): O57. -/
namespace Sys2Proof.Machine

/-! ## The comparison of an axis (R69) -/

/-- The centre moves to the better probe point where its level reaches the threshold. -/
theorem moveCentre_better (c : Search) (ax : ProbeAxis) (lc l : Int) (plus : Bool) (level : c.lc = some lc)
    (better : betterProbe c = some (l, plus)) : moveCentre c ax =
      if lc + c.params.threshold ≤ l then
        { c with centrePan := probePan c ax plus, centreTilt := probeTilt c ax plus, lc := some l, moved := true }
      else c := by
  simp only [moveCentre, better, level, Option.getD_some]

theorem betterProbe_both (c : Search) (p m : Int) (plus : c.plusLevel = some p) (minus : c.minusLevel = some m) :
    betterProbe c = if m ≤ p then some (p, true) else some (m, false) := by
  simp only [betterProbe, plus, minus]

theorem betterProbe_one (c : Search) (l : Int) (plus : Bool) (there : c.plusLevel = if plus then some l else none)
    (skipped : c.minusLevel = if plus then none else some l) : betterProbe c = some (l, plus) := by
  cases plus <;> simp_all [betterProbe]

theorem moveCentre_none (c : Search) (ax : ProbeAxis) (plus : c.plusLevel = none) (minus : c.minusLevel = none) :
    moveCentre c ax = c := by
  simp only [moveCentre, betterProbe, plus, minus]

theorem probeTrims_eq (c : Search) (ax : ProbeAxis) (plus : Bool) :
    probeTrims c ax plus = (probePan c ax plus, probeTilt c ax plus) := by
  cases ax <;> cases plus <;> simp [probeTrims, probePan, probeTilt, sub_eq_add_neg]

/-! ## The moves of a search (R67 to R69) -/

theorem askTargets_eq (s : State) (c : Search) (t : Targets) :
    askTargets s c t = searchMoves s { c with asked := t, wait := .moving } := by
  have low : belowNest s = true ↔ extension s < 1500 := belowNest_iff s
  unfold askTargets searchMoves
  by_cases h : extension s < 1500
  · rw [if_pos h]
    exact if_pos (low.mpr h)
  · rw [if_neg h]
    exact if_neg (mt low.mp h)

theorem askPoint_eq (s : State) (c : Search) (ax : ProbeAxis) (plus : Bool) :
    askPoint s c ax plus = searchMoves s (toProbe s c ax plus) := by
  rw [askPoint, askTargets_eq, toProbe, probeTrims_eq]
  rfl

theorem probeSkipped_eq (s : State) (c : Search) (ax : ProbeAxis) (plus : Bool) :
    probeSkipped s c ax plus = probeBarred s c ax plus := by
  have bound : ∀ t : Int, trimOk t = true ↔ ¬ 300 < t.natAbs := fun t => by
    show (decide (-300 ≤ t) && decide (t ≤ 300)) = true ↔ _
    rw [Bool.and_eq_true, decide_eq_true_iff, decide_eq_true_iff]
    omega
  have aim : ∀ t : Int, inAimRange t = true ↔ ¬ (t < -1000 ∨ 3000 < t) := fun t => by
    show (decide (-1000 ≤ t) && decide (t ≤ 3000)) = true ↔ _
    rw [Bool.and_eq_true, decide_eq_true_iff, decide_eq_true_iff]
    omega
  have tilt : ∀ (sol : Solution) (trim : Int), trialTilt sol trim = sol.tilt + trim := fun _ _ => rfl
  rw [Bool.eq_iff_iff]
  cases ax <;> simp only [probeSkipped, probeBarred, probeTrims_eq, Bool.or_eq_true, Bool.not_eq_true',
    ← Bool.not_eq_true, bound, aim, tilt, not_not, beq_iff_eq, decide_eq_true_iff, reduceCtorEq, if_true, if_false]

theorem compareAxis_eq (s : State) (c : Search) (ax : ProbeAxis) :
    compareAxis s c ax = searchMoves s (toCentre s c ax) := askTargets_eq ..

theorem tryMinus_eq (s : State) (c : Search) (ax : ProbeAxis) : tryMinus s c ax = searchMoves s (toMinus s c ax) := by
  rw [tryMinus, toMinus, probeSkipped_eq, compareAxis_eq, askPoint_eq]
  split <;> rfl

theorem tryPlus_eq (s : State) (c : Search) (ax : ProbeAxis) : tryPlus s c ax = searchMoves s (toPlus s c ax) := by
  simp only [tryPlus, toPlus, probeSkipped_eq, tryMinus_eq, askPoint_eq]
  split <;> rfl

/-! ## What a search does with the dish and the mast as they are (R64) -/

section
variable {s : State} {c : Search} (search : s.level.search = some c)
include search

theorem searchGo_away (n : Nat) (wait : c.wait = .moving) (away : onAsked s c = false) : searchGo (n + 1) s = s := by
  simp [searchGo, search, wait, away]

theorem searchGo_back (n : Nat) (wait : c.wait = .moving) (there : onAsked s c = true) (ax : ProbeAxis)
    (back : c.stage = .back ax) : searchGo (n + 1) s = searchGo n (afterBack s c ax) := by
  simp [searchGo, search, wait, there, back]

theorem searchGo_measures (n : Nat) (wait : c.wait = .moving) (there : onAsked s c = true)
    (notBack : ∀ ax, c.stage ≠ .back ax) :
    searchGo (n + 1) s = if mastAtRest s then s.withSearch { c with wait := .settling } else s := by
  cases stage : c.stage with
  | reference => simp [searchGo, search, wait, there, stage]
  | probe ax plus => simp [searchGo, search, wait, there, stage]
  | back ax => exact absurd stage (notBack ax)

theorem searchGo_listens (n : Nat) (listens : c.wait ≠ .moving) :
    searchGo (n + 1) s = if mastAtRest s then s else s.withSearch { c with wait := .moving } := by
  cases wait : c.wait with
  | moving => exact absurd wait listens
  | settling => simp [searchGo, search, wait]
  | sampling taken => simp [searchGo, search, wait]
end

theorem onAsked_iff (s : State) (c : Search) :
    onAsked s c = true ↔ dishAtRest s = true ∧ dishNear s c.asked = true := by
  rw [onAsked, Bool.and_eq_true]

theorem mastAtRest_iff (s : State) : mastAtRest s = true ↔ ¬ s.axes.mast.inMove = true := by
  simp [mastAtRest]

/-! ## The end of a return move (R70, R71) -/

theorem afterBack_limit (s : State) (c : Search) (ax : ProbeAxis) (limit : c.limit = true) :
    afterBack s c ax = searchFinish s c := by
  simp only [afterBack, limit, if_true]

theorem afterBack_pan (s : State) (c : Search) (more : c.limit = false) :
    afterBack s c .pan = searchMoves s (toPlus s c .tilt) := by
  simp only [afterBack, more, Bool.false_eq_true, if_false, tryPlus_eq]

/-- The end of a round, which the return move of the tilt axis is. -/
theorem afterBack_tilt (s : State) (c : Search) (more : c.limit = false) : afterBack s c .tilt =
    if c.moved then searchMoves s (toPlus s { c with moved := false } .pan)
    else if c.step / 2 < c.params.minimum then searchFinish s { c with step := c.step / 2 }
    else searchMoves s (toPlus s { c with step := c.step / 2, moved := false } .pan) := by
  simp only [afterBack, more, Bool.false_eq_true, if_false, roundEnd, startRound, tryPlus_eq]

/-! ## Targets of the live site (R68) -/

theorem liveEntry_none (s : State) (live : s.stance.site = none) : liveEntry s = Entry.zero := by
  simp only [liveEntry, live]

theorem liveEntry_some (s : State) {k : Fin 32} (live : s.stance.site = some k) : liveEntry s = s.entry k := by
  simp only [liveEntry, live]

theorem liveEntry_congr {s u : State} (geo : u.geo = s.geo) (site : u.stance.site = s.stance.site) :
    liveEntry u = liveEntry s := by
  simp only [liveEntry, site, State.entry, geo]

theorem liveTargets_congr {s u : State}
    (live : (liveEntry u).state = (liveEntry s).state ∧ (liveEntry u).sol = (liveEntry s).sol)
    (targets : u.ctl.siteTargets = s.ctl.siteTargets) (axes : u.axes = s.axes) (trimPan trimTilt : Int) :
    liveTargets u trimPan trimTilt = liveTargets s trimPan trimTilt := by
  simp only [liveTargets, live, targets, axes]

/-- Writing trims leaves the solution of every entry (R49). -/
theorem liveEntry_withTrim (s : State) (site : Fin 32) (t : Trim) (table : tableSound s) :
    (liveEntry (s.withTrim site t)).state = (liveEntry s).state ∧
      (liveEntry (s.withTrim site t)).sol = (liveEntry s).sol := by
  cases live : s.stance.site with
  | none =>
    rw [liveEntry_none s live, liveEntry_none (s.withTrim site t) live]
    exact ⟨rfl, rfl⟩
  | some k =>
    rw [liveEntry_some s live, liveEntry_some (s.withTrim site t) live, State.withTrim]
    by_cases same : k = site
    · rw [same, withEntry_same _ _ _ table]
      exact ⟨rfl, rfl⟩
    · rw [withEntry_other _ _ _ _ same]
      exact ⟨rfl, rfl⟩

/-! ## The result data of a search's commands (R74) -/

/-- A run of the bytes that stand from an address up. -/
theorem readBytes_run (m : Memory) (l : List Byte) (a : Nat) (stored : ∀ k < l.length, read8 m (a + k) = l.getD k 0) :
    readBytes m a l.length = l := by
  induction l generalizing a with
  | nil => rfl
  | cons b l ih =>
    have first : read8 m a = b := stored 0 (by simp)
    have rest := ih (a + 1) fun k hk => by
      rw [Nat.add_right_comm]
      exact stored (k + 1) (by simpa using hk)
    rw [List.length_cons, readBytes, first, rest]

theorem readBytes_part (m : Memory) (a : Nat) (before l after : List Byte)
    (stored : ∀ k < 24, read8 m (a + k) = (before ++ (l ++ after)).getD k 0) (fits : before.length + l.length ≤ 24) :
    readBytes m (a + before.length) l.length = l := by
  refine readBytes_run m l _ fun k hk => ?_
  rw [Nat.add_assoc, stored _ (by omega), List.getD_append_right _ _ _ _ (Nat.le_add_right ..), Nat.add_sub_cancel_left,
    List.getD_append _ _ _ _ hk]

section
variable (s : State) (c : Search) (o : SearchOutcome) (code : Code) (search : s.level.search = some c)
  (full : c.kind = .full) (hw : Memory.wf s.mem = true)
include search full hw

/-- The commands whose search it was are answered. -/
theorem endSearch_answered : Ended s (endSearch s o code) ownsSearch code := by
  obtain ⟨-, mem, -⟩ := stopSearch_same s o false
  have ends : endSearch s o code = endWhere (stopSearch s o false) ownsSearch code := by simp [endSearch, search, full]
  rw [ends]
  exact Ended.of_map (c.told o) mem (stopSearch_openSet_full s c o false search full) (fun d => (told_searchTold c o d).1)
    (ownsSearch_told (told_searchTold c o)) (endWhere_ended _ ownsSearch code (mem ▸ hw))

/-- Each is answered with the warnings and the result data that the search leaves it. -/
theorem endSearch_bytes (hs : (s.board.openSet.map (·.slot)).Nodup) (d : OpenCommand) (opened : d ∈ s.board.openSet)
    (own : ownsSearch d = true) : let u := endSearch s o code
    read8 u.mem (slotAddr d.slot + 5) = ({ d.warnings with edge := c.edge } : Warnings).toByte ∧
      ∀ k < 24, read8 u.mem (slotAddr d.slot + 40 + k) =
        (resultData s (d.withSearch (c.fields o) c.edge)).getD k 0 := by
  obtain ⟨-, mem, -, limits, ctl, -, -, axes, -, wind, -⟩ := stopSearch_same s o false
  have openSet := stopSearch_openSet_full s c o false search full
  have ends : endSearch s o code = endWhere (stopSearch s o false) ownsSearch code := by simp [endSearch, search, full]
  have told : c.told o d = d.withSearch (c.fields o) c.edge := if_pos own
  have slots : ((stopSearch s o false).board.openSet.map (·.slot)).Nodup := by
    rw [openSet, map_slot_told (told_searchTold c o)]
    exact hs
  have there : d.withSearch (c.fields o) c.edge ∈ (stopSearch s o false).board.openSet := by
    rw [openSet, ← told]
    exact List.mem_map_of_mem opened
  obtain ⟨warnings, data⟩ := endWhere_bytes (stopSearch s o false) ownsSearch code (mem ▸ hw) slots _ there own
  rw [ends]
  refine ⟨warnings, fun k hk => ?_⟩
  have inData : k < (padBytes 24 (resultData (stopSearch s o false) (d.withSearch (c.fields o) c.edge))).length := by
    simpa using hk
  refine (data k inData).trans ?_
  rw [padBytes_getD, resultData_congr axes ctl limits wind]

end

/-- The result data of a PEAK at the end of its search (R74, 10.2). -/
theorem resultData_peak (s : State) (c : Search) (o : SearchOutcome) (d : OpenCommand) (peak : d.kind = .peak) :
    resultData s (d.withSearch (c.fields o) c.edge) = leBytes 1 o.toNat ++ leBytes 1 c.probes ++ le16 c.centrePan ++
      le16 c.centreTilt ++ le16 (c.lc.getD 0) := by
  simp only [resultData, OpenCommand.withSearch, Search.fields, peak]

/-- The result data of an AIM at the end of its search. -/
theorem resultData_aim (s : State) (c : Search) (o : SearchOutcome) (d : OpenCommand) (aim : d.kind = .aim) :
    resultData s (d.withSearch (c.fields o) c.edge) = leBytes 1 d.aim.site ++ leBytes 1 o.toNat ++ le16 d.aim.bearing ++
      le16 d.aim.elevation ++ leBytes 2 c.probes ++ le32 d.aim.range ++ targetBytes d.aim.targets ++ le16 c.centrePan ++
      le16 c.centreTilt ++ le16 (c.lc.getD 0) := by
  simp only [resultData, OpenCommand.withSearch, Search.fields, aim]

/-- The search fields of a PEAK, read back. -/
theorem peak_fields (s : State) (c : Search) (o : SearchOutcome) (d : OpenCommand) (m : Memory) (a : Nat)
    (stored : ∀ k < 24, read8 m (a + k) = (resultData s (d.withSearch (c.fields o) c.edge)).getD k 0)
    (peak : d.kind = .peak) : readBytes m a 8 = leBytes 1 o.toNat ++ leBytes 1 c.probes ++ le16 c.centrePan ++
      le16 c.centreTilt ++ le16 (c.lc.getD 0) := by
  rw [resultData_peak s c o d peak] at stored
  exact readBytes_part m a [] _ [] (by simpa only [List.append_nil, List.nil_append] using stored) (by simp [le16])

/-- The search fields of an AIM, read back. -/
theorem aim_fields (s : State) (c : Search) (o : SearchOutcome) (d : OpenCommand) (m : Memory) (a : Nat)
    (stored : ∀ k < 24, read8 m (a + k) = (resultData s (d.withSearch (c.fields o) c.edge)).getD k 0)
    (aim : d.kind = .aim) : readU8 m (a + 1) = o.toNat ∧ readBytes m (a + 6) 2 = leBytes 2 c.probes ∧
      readBytes m (a + 18) 6 = le16 c.centrePan ++ le16 c.centreTilt ++ le16 (c.lc.getD 0) := by
  rw [resultData_aim s c o d aim] at stored
  refine ⟨?_, ?_, ?_⟩
  · rw [readU8, stored 1 (by decide)]
    exact outcomeByte_toNat o
  · exact readBytes_part m a
      (leBytes 1 d.aim.site ++ leBytes 1 o.toNat ++ le16 d.aim.bearing ++ le16 d.aim.elevation) (leBytes 2 c.probes)
      (le32 d.aim.range ++ targetBytes d.aim.targets ++ le16 c.centrePan ++ le16 c.centreTilt ++ le16 (c.lc.getD 0))
      (by simpa only [List.append_assoc] using stored) (by simp [le16])
  · exact readBytes_part m a
      (leBytes 1 d.aim.site ++ leBytes 1 o.toNat ++ le16 d.aim.bearing ++ le16 d.aim.elevation ++ leBytes 2 c.probes ++
        le32 d.aim.range ++ targetBytes d.aim.targets) (le16 c.centrePan ++ le16 c.centreTilt ++ le16 (c.lc.getD 0)) []
      (by simpa only [List.append_assoc, List.append_nil] using stored) (by simp [le16, le32, targetBytes])

/-! ## A lock (R57, R72) -/

/-- The state in which the search of a lock ends: its trims written, the dish LOCKED on the targets of its centre. -/
def lockedState (s : State) (c : Search) (lc : Int) (f : Fix) : State :=
  let v := (s.withTrim c.site (lockTrim c lc f)).withCtl { s.ctl with
    dishState := .locked, signalLost := false, siteTargets := searchTargets s (c.centrePan, c.centreTilt)
    siteTrimPan := c.centrePan, siteTrimTilt := c.centreTilt }
  v.withLevel { s.level with watch := if s.stance.watch then some 0 else s.level.watch }

theorem searchLock_eq (s : State) (c : Search) (lc : Int) (f : Fix) (table : tableSound s) (fix : s.geo.fix = some f) :
    searchLock s c lc = endSearch (lockedState s c lc f) (lockOutcome c) .ok := by
  have targets : liveTargets (s.withTrim c.site (lockTrim c lc f)) c.centrePan c.centreTilt =
      searchTargets s (c.centrePan, c.centreTilt) :=
    liveTargets_congr (liveEntry_withTrim s c.site _ table) rfl rfl _ _
  simp only [searchLock, fix, targets]
  congr 1
  cases watch : s.stance.watch <;> simp only [lockedState, watch]
  · exact if_neg (by simp [State.withTrim, State.withEntry, watch])
  · exact if_pos (by simp [State.withTrim, State.withEntry, watch])

/-- What a lock takes into the end of its search: the search still runs, and the commands and the memory are as before. -/
theorem lockedState_same (s : State) (c : Search) (lc : Int) (f : Fix) : let v := lockedState s c lc f
    v.stance = s.stance ∧ v.axes = s.axes ∧ v.board = s.board ∧ v.mem = s.mem ∧
      v.level.search = s.level.search ∧ (s.stance.watch = true → v.level.watch = some 0) ∧
      v.geo = (s.withTrim c.site (lockTrim c lc f)).geo :=
  ⟨rfl, rfl, rfl, rfl, rfl, fun watch => if_pos watch, rfl⟩

/-! ## The other ends of a search (R73, R76, R77) -/

/-- The end of a search stands whatever is then changed of the other groups. -/
theorem searchEnded.congr {s u v : State} {c : Search} {o : SearchOutcome} {code : Code} (h : searchEnded s u c o code)
    (level : v.level = u.level) (stance : v.stance = u.stance) (board : v.board = u.board) (mem : v.mem = u.mem) :
    searchEnded s v c o code := by
  simpa only [searchEnded, Ended, Answered, level, stance, board, mem] using h

/-- A new effective target put in force over a running search, whose end it is (R76). -/
theorem recompute_searching (s : State) (c : Search) (search : s.level.search = some c)
    (differs : effectiveTarget s ≠ s.ctl.effTarget) (acts : Bool) :
    recompute s acts = recomputeSite (slewTo (driveMast (setEff (abandonForHeight s)) true) s.ctl.siteTargets) := by
  simp only [recompute, if_neg differs, heightSlew, search, Option.isSome_some, if_true]

/-- The end of a search leaves the targets that the live site's solution gives. -/
theorem liveTargets_endSearch (s : State) (o : SearchOutcome) (code : Code) (searching : s.level.search.isSome = true)
    (trimPan trimTilt : Int) : liveTargets (endSearch s o code) trimPan trimTilt = searchTargets s (trimPan, trimTilt) := by
  obtain ⟨-, -, -, ctl, geo, -, axes, -⟩ := endSearch_same s o code
  have site : (endSearch s o code).stance.site = s.stance.site := by rw [endSearch_stance s o code searching]
  have live := liveEntry_congr geo site
  exact liveTargets_congr ⟨congrArg _ live, congrArg _ live⟩ (congrArg _ ctl) axes trimPan trimTilt

end Sys2Proof.Machine

open Sys2Proof Sys2Proof.Machine

/-- The first part of O57: the comparison where both probe points were visited (R69). -/
theorem moveCentre_both (c : Search) (ax : ProbeAxis) (lc p m : Int) (level : c.lc = some lc)
    (plus : c.plusLevel = some p) (minus : c.minusLevel = some m) :
    (p < lc + c.params.threshold → m < lc + c.params.threshold → moveCentre c ax = c) ∧
    (m ≤ p → lc + c.params.threshold ≤ p → moveCentre c ax =
      { c with centrePan := probePan c ax true, centreTilt := probeTilt c ax true, lc := some p, moved := true }) ∧
    (p < m → lc + c.params.threshold ≤ m → moveCentre c ax =
      { c with centrePan := probePan c ax false, centreTilt := probeTilt c ax false, lc := some m, moved := true }) := by
  have better := betterProbe_both c p m plus minus
  refine ⟨fun plusLow minusLow => ?_, fun first reached => ?_, fun second reached => ?_⟩
  · split at better
    · rw [moveCentre_better c ax lc p true level better, if_neg (not_le.mpr plusLow)]
    · rw [moveCentre_better c ax lc m false level better, if_neg (not_le.mpr minusLow)]
  · rw [if_pos first] at better
    rw [moveCentre_better c ax lc p true level better, if_pos reached]
  · rw [if_neg (not_le.mpr second)] at better
    rw [moveCentre_better c ax lc m false level better, if_pos reached]

/-- The second part: the comparison where one probe point was skipped. -/
theorem moveCentre_one (c : Search) (ax : ProbeAxis) (lc l : Int) (plus : Bool) (level : c.lc = some lc)
    (there : c.plusLevel = if plus then some l else none) (skipped : c.minusLevel = if plus then none else some l) :
    (l < lc + c.params.threshold → moveCentre c ax = c) ∧
    (lc + c.params.threshold ≤ l → moveCentre c ax = { c with
      centrePan := (probeTrims c ax plus).1, centreTilt := (probeTrims c ax plus).2, lc := some l, moved := true }) := by
  rw [moveCentre_better c ax lc l plus level (betterProbe_one c l plus there skipped), probeTrims_eq]
  exact ⟨fun low => if_neg (not_le.mpr low), fun reached => if_pos reached⟩

/-- The fourth part: what a search does with the dish and the mast as they are, and where a return move leads. -/
theorem searchPass_rule (s : State) (c : Search) (search : s.level.search = some c) :
    let put := fun w : SearchWait => s.withLevel { s.level with search := some { c with wait := w } }
    let moves := s.axes.mast.inMove = true
    let there := dishAtRest s = true ∧ dishNear s c.asked = true
    (c.wait = .moving → ¬ there → searchPass s = s) ∧
    (c.wait = .moving → there → (∀ ax, c.stage ≠ .back ax) → moves → searchPass s = s) ∧
    (c.wait = .moving → there → (∀ ax, c.stage ≠ .back ax) → ¬ moves → searchPass s = put .settling) ∧
    (c.wait ≠ .moving → moves → searchPass s = put .moving) ∧ (c.wait ≠ .moving → ¬ moves → searchPass s = s) ∧
    ∀ (ax : ProbeAxis) (n : Nat), c.wait = .moving → there → c.stage = .back ax →
      let half := c.step / 2
      let leads := fun u : State => searchGo (n + 1) s = searchGo n u
      (c.limit = true → leads (searchFinish s c)) ∧
      (c.limit = false → ax = .pan → leads (searchMoves s (toPlus s c .tilt))) ∧
      (c.limit = false → ax = .tilt → c.moved = true → leads (searchMoves s (toPlus s { c with moved := false } .pan))) ∧
      (c.limit = false → ax = .tilt → c.moved = false → c.params.minimum ≤ half →
        leads (searchMoves s (toPlus s { c with step := half, moved := false } .pan))) ∧
      (c.limit = false → ax = .tilt → c.moved = false → half < c.params.minimum →
        leads (searchFinish s { c with step := half })) := by
  intro put moves there
  have asked : onAsked s c = true ↔ there := onAsked_iff s c
  have rest : mastAtRest s = true ↔ ¬ moves := mastAtRest_iff s
  refine ⟨fun wait away => ?_, fun wait on notBack moving => ?_, fun wait on notBack still => ?_, fun listens moving => ?_,
    fun listens still => ?_, ?_⟩
  · exact searchGo_away search 63 wait (by rwa [← Bool.not_eq_true, asked])
  · exact (searchGo_measures search 63 wait (asked.mpr on) notBack).trans (if_neg fun h => rest.mp h moving)
  · exact (searchGo_measures search 63 wait (asked.mpr on) notBack).trans (if_pos (rest.mpr still))
  · exact (searchGo_listens search 63 listens).trans (if_neg fun h => rest.mp h moving)
  · exact (searchGo_listens search 63 listens).trans (if_pos (rest.mpr still))
  · intro ax n wait on back half leads
    have led : ∀ u, afterBack s c ax = u → leads u := fun u after => by
      show searchGo (n + 1) s = _
      rw [searchGo_back search n wait (asked.mpr on) ax back, after]
    refine ⟨fun limit => led _ (afterBack_limit s c ax limit), fun more pan => led _ ?_, fun more tilt moved => led _ ?_,
      fun more tilt unmoved fine => led _ ?_, fun more tilt unmoved small => led _ ?_⟩
    · rw [pan, afterBack_pan s c more]
    · rw [tilt, afterBack_tilt s c more, if_pos moved]
    · rw [tilt, afterBack_tilt s c more, unmoved, if_neg Bool.false_ne_true, if_neg (not_lt.mpr fine)]
    · rw [tilt, afterBack_tilt s c more, unmoved, if_neg Bool.false_ne_true, if_pos small]

/-- The fifth part: a search that ends finds its lock, or no signal. -/
theorem searchFinish_rule (s : State) (c : Search) (lc : Int) (level : c.lc = some lc) :
    let u := s.withLevel { s.level with search := some c }
    (c.lockFloor ≤ lc → searchFinish s c = searchLock u c lc) ∧
    (lc < c.lockFloor → c.kind = .full → searchFinish s c = searchNoSignal u c) ∧
    (lc < c.lockFloor → c.kind = .touchUp → searchFinish s c = touchUpNoSignal u c) := by
  refine ⟨fun floor => ?_, fun below kind => ?_, fun below kind => ?_⟩
  · simp only [searchFinish, level, Option.getD_some, if_pos floor]
    rfl
  all_goals
    simp only [searchFinish, level, Option.getD_some, if_neg (not_le.mpr below), kind]
    rfl

/-- The sixth part: a lock. -/
theorem searchLock_rule (s : State) (c : Search) (lc : Int) (f : Fix) (table : tableSound s)
    (hw : Memory.wf s.mem = true) (search : s.level.search = some c) (level : c.lc = some lc) (fix : s.geo.fix = some f) :
    let u := searchLock s c lc
    (u.entry c.site).trim = ⟨true, c.centrePan, c.centreTilt, lc, f.datum, f.east, f.north, f.heading⟩ ∧
    (∀ k, k ≠ c.site → u.entry k = s.entry k) ∧ u.ctl.dishState = .locked ∧ u.ctl.signalLost = false ∧
    u.stance = { s.stance with peakPending := false } ∧ u.level.search = none ∧
    (s.stance.watch = true → u.level.watch = some 0) ∧ u.axes = s.axes ∧
    let o : SearchOutcome := if c.limit then .probeLimit else if c.edge then .lockedEdge else .locked
    let t := if (liveEntry s).state = .empty then s.ctl.siteTargets
      else deriveTargets (liveEntry s).sol c.centrePan c.centreTilt s.axes.pan.position
    u.ctl = { s.ctl with
      dishState := .locked, signalLost := false, siteTargets := t, siteTrimPan := c.centrePan,
      siteTrimTilt := c.centreTilt } ∧
    (c.kind = .full → ∀ d ∈ s.board.openSet, ownsSearch d = true → Answered u d.slot 0 ∧
      (slotsSeparate s → read8 u.mem (slotAddr d.slot + 5) = ({ d.warnings with edge := c.edge } : Warnings).toByte ∧
        (d.kind = .peak → readBytes u.mem (slotAddr d.slot + 40) 8 = leBytes 1 o.toNat ++ leBytes 1 c.probes ++
          le16 c.centrePan ++ le16 c.centreTilt ++ le16 lc) ∧
        (d.kind = .aim → readU8 u.mem (slotAddr d.slot + 41) = o.toNat ∧
          readBytes u.mem (slotAddr d.slot + 46) 2 = leBytes 2 c.probes ∧
          readBytes u.mem (slotAddr d.slot + 58) 6 = le16 c.centrePan ++ le16 c.centreTilt ++ le16 lc))) := by
  intro u
  have ends : u = endSearch (lockedState s c lc f) (lockOutcome c) .ok := searchLock_eq s c lc f table fix
  obtain ⟨vStance, vAxes, vBoard, vMem, vSearch, vWatch, vGeo⟩ := lockedState_same s c lc f
  have vCtl : (lockedState s c lc f).ctl = { s.ctl with
    dishState := .locked, signalLost := false, siteTargets := searchTargets s (c.centrePan, c.centreTilt)
    siteTrimPan := c.centrePan, siteTrimTilt := c.centreTilt } := rfl
  have running : (lockedState s c lc f).level.search = some c := vSearch.trans search
  have levels := endSearch_level (lockedState s c lc f) (lockOutcome c) .ok
  have stance := endSearch_stance (lockedState s c lc f) (lockOutcome c) .ok (by rw [running]; rfl)
  obtain ⟨-, -, -, ctl, geo, -, axes, -⟩ := endSearch_same (lockedState s c lc f) (lockOutcome c) .ok
  have answered := endSearch_answered (lockedState s c lc f) c (lockOutcome c) .ok running
  have bytes := endSearch_bytes (lockedState s c lc f) c (lockOutcome c) .ok running
  rw [← ends] at levels stance ctl geo axes answered bytes
  rw [vMem] at answered bytes
  rw [vBoard] at bytes
  rw [vCtl] at ctl
  have entry : ∀ k, u.entry k = (s.withTrim c.site (lockTrim c lc f)).entry k := fun k => entry_congr (geo.trans vGeo) k
  refine ⟨?_, fun k other => ?_, by rw [ctl], by rw [ctl], stance.trans (by rw [vStance]), by rw [levels],
    fun watch => by rw [levels]; exact vWatch watch, axes.trans vAxes, ctl, fun full d opened own => ⟨?_, fun separate => ?_⟩⟩
  · rw [entry, State.withTrim, withEntry_same _ _ _ table]
    rfl
  · rw [entry, State.withTrim, withEntry_other _ _ _ _ other]
  · obtain ⟨ended, -⟩ := answered full hw
    exact ended d (by rwa [vBoard]) own
  · obtain ⟨-, slots, -⟩ := separate
    obtain ⟨warnings, data⟩ := bytes full hw slots d opened own
    have found : c.lc.getD 0 = lc := by rw [level, Option.getD_some]
    refine ⟨warnings, fun peak => ?_, fun aim => ?_⟩
    · rw [← found]
      exact peak_fields _ c (lockOutcome c) d u.mem _ data peak
    · rw [← found]
      exact aim_fields _ c (lockOutcome c) d u.mem _ data aim

/-- The seventh part: the other ends. -/
theorem searchEnds_rule (s : State) (c : Search) (table : tableSound s) (sound : Sound s)
    (search : s.level.search = some c) :
    (∃ u, searchSensor s = slewTo u s.ctl.siteTargets ∧ searchEnded s u c .sensor .faulted ∧ u.ctl = s.ctl ∧
      u.geo = s.geo ∧ u.axes = s.axes) ∧
    (effectiveTarget s ≠ s.ctl.effTarget → ∃ u, searchEnded s u c .abandoned .ok ∧
      u.ctl = { s.ctl with touchUpMark := true, effTarget := effectiveTarget s } ∧ u.geo = s.geo ∧ u.axes = s.axes ∧
      ∀ acts, recompute s acts = recomputeSite (slewTo (driveMast u true) s.ctl.siteTargets)) ∧
    (effectiveTarget s = s.ctl.effTarget → ∀ acts, recompute s acts = driveMast s acts) ∧
    (c.kind = .full → ∃ u t, searchNoSignal s c = slewTo u t ∧ searchEnded s u c .noSignal .ok ∧
      t = (if (liveEntry s).state = .empty then s.ctl.siteTargets
        else deriveTargets (liveEntry s).sol 0 0 s.axes.pan.position) ∧
      u.ctl = { s.ctl with siteTargets := t, siteTrimPan := 0, siteTrimTilt := 0 } ∧ u.axes = s.axes ∧
      u.entry c.site = { s.entry c.site with trim := { (s.entry c.site).trim with valid := false } } ∧
      ∀ k, k ≠ c.site → u.entry k = s.entry k) ∧
    (c.kind = .touchUp → ∃ u t, touchUpNoSignal s c = slewTo u t ∧ searchEnded s u c .noSignal .ok ∧
      t = (if (liveEntry s).state = .empty then s.ctl.siteTargets
        else deriveTargets (liveEntry s).sol c.startPan c.startTilt s.axes.pan.position) ∧
      u.ctl = { s.ctl with
        signalLost := true, siteTargets := t, siteTrimPan := c.startPan, siteTrimTilt := c.startTilt } ∧
      u.board.notice.getLsbD 9 = true ∧ u.geo = s.geo ∧ u.axes = s.axes) := by
  obtain ⟨hw, -, hs, -⟩ := sound
  have ended := fun o code => endSearch_ended s c o code search hw hs
  have searching : s.level.search.isSome = true := by rw [search]; rfl
  refine ⟨?_, fun differs => ?_, fun same acts => if_pos same, fun full => ?_, fun touchUp => ?_⟩
  · obtain ⟨-, -, -, ctl, geo, -, axes, -⟩ := endSearch_same s .sensor .faulted
    exact ⟨endSearch s .sensor .faulted, by simp only [searchSensor, search], ended _ _, ctl, geo, axes⟩
  · obtain ⟨-, -, -, ctl, geo, -, axes, -⟩ := endSearch_same s .abandoned .ok
    have abandoned : abandonForHeight s = (endSearch s .abandoned .ok).withMark true := if_pos searching
    have putCtl : (setEff (abandonForHeight s)).ctl =
        { s.ctl with touchUpMark := true, effTarget := effectiveTarget s } := by
      rw [setEff_ctl, abandonForHeight_effectiveTarget, abandoned, ← ctl]
      rfl
    refine ⟨setEff (abandonForHeight s), ?_, putCtl, ?_, ?_, recompute_searching s c search differs⟩
    · rw [abandoned]
      exact (ended .abandoned .ok).congr rfl rfl rfl rfl
    · rw [abandoned]
      exact geo
    · rw [abandoned]
      exact axes
  · obtain ⟨-, -, -, ctl, geo, -, axes, -⟩ := endSearch_same s .noSignal .ok
    set v := endSearch s .noSignal .ok
    have vTable : tableSound v := by rw [tableSound, geo, table]
    set w := v.withTrim c.site { (v.entry c.site).trim with valid := false }
    have targets : liveTargets w 0 0 = searchTargets s (0, 0) :=
      (liveTargets_congr (liveEntry_withTrim v c.site _ vTable) rfl rfl 0 0).trans
        (liveTargets_endSearch s .noSignal .ok searching 0 0)
    refine ⟨w.withSiteTargets (liveTargets w 0 0) 0 0, liveTargets w 0 0, rfl, (ended .noSignal .ok).congr rfl rfl rfl rfl,
      targets, ?_, axes, ?_, fun k other => ?_⟩
    · rw [← ctl]
      rfl
    · rw [← entry_congr geo c.site]
      exact withEntry_same _ _ _ vTable
    · rw [← entry_congr geo k]
      exact withEntry_other _ _ _ _ other
  · obtain ⟨-, -, -, ctl, geo, -, axes, -⟩ := endSearch_same s .noSignal .ok
    have whole := ended .noSignal .ok
    have targets := liveTargets_endSearch s .noSignal .ok searching c.startPan c.startTilt
    set v := endSearch s .noSignal .ok
    set w := setNotice (v.withCtl { v.ctl with signalLost := true }) noticeCondition
    have given : liveTargets w c.startPan c.startTilt = liveTargets v c.startPan c.startTilt := rfl
    refine ⟨w.withSiteTargets (liveTargets w c.startPan c.startTilt) c.startPan c.startTilt,
      liveTargets w c.startPan c.startTilt, rfl, ?_, given.trans targets, ?_, ?_, geo, axes⟩
    · obtain ⟨gone, stance, alone, -⟩ := whole
      exact ⟨gone, stance, alone, fun full => by rw [touchUp] at full; cases full⟩
    · rw [← ctl]
      rfl
    · show (v.board.notice ||| BitVec.ofNat 16 (2 ^ 9)).getLsbD 9 = true
      rw [BitVec.getLsbD_or, Bool.or_eq_true]
      exact .inr (by decide)

/-- Settles O57, by its parts. -/
theorem searchRules : Obligations.SearchRules :=
  ⟨moveCentre_both, moveCentre_one, moveCentre_none, searchPass_rule, searchFinish_rule, searchLock_rule,
    searchEnds_rule⟩
end

section
/-! PROOFS. What the Level Monitor has heard outlasts an event (R61, R62): a sample alone writes the history, the held level
and the invalid run, and what follows from it writes no more of the level group than the search and the watch. -/
namespace Sys2Proof.Machine

/-- The level group but for the search and the watch: whether it runs, the history, the held level, the invalid run. -/
def Level.heard (l : Level) : Level := { l with search := none, watch := none }

@[simp] theorem heard_search (l : Level) (c : Option Search) : { l with search := c }.heard = l.heard := rfl
@[simp] theorem heard_watch (l : Level) (n : Option Nat) : { l with watch := n }.heard = l.heard := rfl
@[simp] theorem heard_withSearch (s : State) (c : Search) : (s.withSearch c).level.heard = s.level.heard := rfl

/-- A choice between two states is heard as the choice between them. -/
@[simp] theorem heard_ite (p : Prop) [Decidable p] (s u : State) :
    (if p then s else u).level.heard = if p then s.level.heard else u.level.heard :=
  apply_ite (fun t : State => t.level.heard) p s u

/-! ## Records, faults and reactions (R25, R26, R74, R92, R139 to R142) -/

@[simp] theorem heard_withDish (s : State) (d : DishState) : (s.withDish d).level.heard = s.level.heard := by
  simp [State.withDish]

@[simp] theorem level_endWhere (s : State) (p : OpenCommand → Bool) (code : Code) :
    (endWhere s p code).level = s.level := by
  obtain ⟨-, -, -, -, -, -, level, -⟩ := endWhere_same s p code
  exact level

@[simp] theorem level_controlledStops (s : State) (l : List Axis) : (controlledStops s l).level = s.level :=
  onlyDrives.level (aside_controlledStops s l)

@[simp] theorem level_axisGive (s : State) (a : Axis) (t : Int) (p : Priority) : (axisGive s a t p).1.level = s.level :=
  (axisGive_drives s a t p).level

@[simp] theorem heard_swapEarlyEnd (s : State) (code : Code) : (swapEarlyEnd s code).level.heard = s.level.heard := by
  simp [swapEarlyEnd, completeSwap]

@[simp] theorem heard_addFault (s : State) (f : FaultId) : (addFault s f).level.heard = s.level.heard := by
  simp [addFault, putFault_level]

@[simp] theorem heard_reportFault (s : State) (f : FaultId) : (reportFault s f).level.heard = s.level.heard := by
  simp [reportFault, putFault_level]

@[simp] theorem heard_stopSearch (s : State) (o : SearchOutcome) (keep : Bool) :
    (stopSearch s o keep).level.heard = s.level.heard := by
  simp [stopSearch_level]

@[simp] theorem heard_endSearch (s : State) (o : SearchOutcome) (code : Code) :
    (endSearch s o code).level.heard = s.level.heard := by
  simp [endSearch_level]

@[simp] theorem heard_dishStands (s : State) : (dishStands s).level.heard = s.level.heard := by simp [dishStands]

@[simp] theorem heard_dishToNone (s : State) : (dishToNone s).level.heard = s.level.heard := by simp [dishToNone]

@[simp] theorem heard_haltedGoal (s : State) : (haltedGoal s).level.heard = s.level.heard := by simp [haltedGoal]

@[simp] theorem heard_enterHalted (s : State) : (enterHalted s).level.heard = s.level.heard := by simp [enterHalted]

@[simp] theorem heard_mastFaultReact (s : State) : (mastFaultReact s).level.heard = s.level.heard := by
  simp [mastFaultReact]

@[simp] theorem heard_dishFaultReact (s : State) : (dishFaultReact s).level.heard = s.level.heard := by
  simp [dishFaultReact]

@[simp] theorem heard_axisFault (s : State) (a : Axis) (f : FaultId) : (axisFault s a f).level.heard = s.level.heard := by
  simp [axisFault, axisReact]

@[simp] theorem heard_giveTarget (s : State) (a : Axis) (t : Int) : (giveTarget s a t).level.heard = s.level.heard := by
  simp [giveTarget, orLimit]

@[simp] theorem heard_giveDishAxis (s : State) (a : Axis) (t : Int) :
    (giveDishAxis s a t).level.heard = s.level.heard := by
  simp [giveDishAxis]

@[simp] theorem heard_giveDish (s : State) (t : Targets) : (giveDish s t).level.heard = s.level.heard := by
  simp [giveDish]

@[simp] theorem heard_giveMast (s : State) (t : Int) : (giveMast s t).level.heard = s.level.heard := by simp [giveMast]

/-! ## Searches (R64 to R77) -/

@[simp] theorem heard_nestWait (s : State) : (nestWait s).level.heard = s.level.heard := by simp [nestWait]

@[simp] theorem heard_slewTo (s : State) (t : Targets) : (slewTo s t).level.heard = s.level.heard := by simp [slewTo]

@[simp] theorem heard_returnToSite (s : State) : (returnToSite s).level.heard = s.level.heard := by simp [returnToSite]

@[simp] theorem heard_searchSensor (s : State) : (searchSensor s).level.heard = s.level.heard := by
  unfold searchSensor
  split <;> simp

@[simp] theorem heard_searchLock (s : State) (c : Search) (lc : Int) : (searchLock s c lc).level.heard = s.level.heard := by
  unfold searchLock
  split <;> simp

@[simp] theorem heard_searchFinish (s : State) (c : Search) : (searchFinish s c).level.heard = s.level.heard := by
  cases kind : c.kind <;> simp [searchFinish, kind, searchNoSignal, touchUpNoSignal]

@[simp] theorem heard_askTargets (s : State) (c : Search) (t : Targets) :
    (askTargets s c t).level.heard = s.level.heard := by
  simp [askTargets]

@[simp] theorem heard_compareAxis (s : State) (c : Search) (ax : ProbeAxis) :
    (compareAxis s c ax).level.heard = s.level.heard := by
  simp [compareAxis]

@[simp] theorem heard_tryMinus (s : State) (c : Search) (ax : ProbeAxis) :
    (tryMinus s c ax).level.heard = s.level.heard := by
  simp [tryMinus, askPoint]

@[simp] theorem heard_tryPlus (s : State) (c : Search) (ax : ProbeAxis) :
    (tryPlus s c ax).level.heard = s.level.heard := by
  simp [tryPlus, askPoint]

@[simp] theorem heard_afterBack (s : State) (c : Search) (ax : ProbeAxis) :
    (afterBack s c ax).level.heard = s.level.heard := by
  cases ax <;> simp [afterBack, roundEnd, startRound]

@[simp] theorem heard_searchGo (n : Nat) (s : State) : (searchGo n s).level.heard = s.level.heard := by
  induction n generalizing s with
  | zero => rfl
  | succ n ih =>
    unfold searchGo
    (repeat' split) <;> simp [ih]

@[simp] theorem heard_measured (s : State) (c : Search) (m : Int) : (measured s c m).level.heard = s.level.heard := by
  unfold measured
  split <;> simp [startRound]

@[simp] theorem heard_searchSample (s : State) (level : Int) : (searchSample s level).level.heard = s.level.heard := by
  unfold searchSample
  (repeat' split) <;> simp

theorem level_freshSolution {s u : State} {site : Fin 32} (fresh : freshSolution s site = some u) : u.level = s.level := by
  unfold freshSolution at fresh
  split at fresh
  · rw [Option.some.inj fresh]
  split at fresh
  · cases fresh
  · obtain ⟨-, stored⟩ := Option.ite_none_right_eq_some.mp fresh
    rw [← Option.some.inj stored, withEntry_level]

@[simp] theorem heard_startSearch (s : State) (kind : SearchKind) : (startSearch s kind).level.heard = s.level.heard := by
  unfold startSearch
  split
  · rfl
  extract_lets c s1
  have begun : s1.level.heard = s.level.heard := by simp [s1, beginSearch]
  split
  · simp [begun]
  next usable => simp [begun, level_freshSolution (Option.ite_none_right_eq_some.mp usable).2]

/-! ## The live site (R35, R42 to R44) -/

@[simp] theorem heard_obtainSolution (s : State) (site : Fin 32) :
    (obtainSolution s site).level.heard = s.level.heard := by
  unfold obtainSolution
  split <;> simp

@[simp] theorem heard_deriveSite (s : State) : (deriveSite s).level.heard = s.level.heard := by simp [deriveSite]

@[simp] theorem heard_retargetDish (s : State) (old t : Targets) :
    (retargetDish s old t).level.heard = s.level.heard := by
  simp [retargetDish]

@[simp] theorem heard_reslew (s : State) (old : Targets) : (reslew s old).level.heard = s.level.heard := by
  unfold reslew
  split <;> simp

@[simp] theorem heard_notRecomputed (s : State) (site : Fin 32) (force : Bool) :
    (notRecomputed s site force).level.heard = s.level.heard := by
  simp [notRecomputed]

@[simp] theorem heard_recomputeLive (s : State) (force : Bool) :
    (recomputeLive s force).1.level.heard = s.level.heard := by
  unfold recomputeLive
  split
  · rfl
  split
  · simp
  · extract_lets old e s1 t
    split <;> simp [s1]

@[simp] theorem heard_recomputeSite (s : State) : (recomputeSite s).level.heard = s.level.heard := by
  simp [recomputeSite]

/-! ## Issue of moves (R6, R7, R9 to R11) -/

@[simp] theorem heard_issueDish (s : State) : (issueDish s).level.heard = s.level.heard := by
  unfold issueDish
  split
  · simp
  · split <;> simp

@[simp] theorem heard_holdDish (s : State) : (holdDish s).level.heard = s.level.heard := by
  cases goal : s.stance.dishGoal <;> simp [holdDish, goal]

@[simp] theorem heard_pursueDish (s : State) : (pursueDish s).level.heard = s.level.heard := by simp [pursueDish]

@[simp] theorem heard_setDishGoal (s : State) (g : DishGoal) : (setDishGoal s g).level.heard = s.level.heard := by
  cases g <;> simp [setDishGoal]

@[simp] theorem heard_reissueDish (s : State) : (reissueDish s).level.heard = s.level.heard := by simp [reissueDish]

@[simp] theorem heard_issueMast (s : State) (t : Int) : (issueMast s t).level.heard = s.level.heard := by
  simp [issueMast]

@[simp] theorem heard_driveMast (s : State) (acts : Bool) : (driveMast s acts).level.heard = s.level.heard := by
  cases phase : s.axes.mast.phase <;> simp [driveMast, phase, driveResting]

@[simp] theorem heard_recompute (s : State) (acts : Bool) : (recompute s acts).level.heard = s.level.heard := by
  simp [recompute, heightSlew, abandonForHeight]

@[simp] theorem heard_recomputeEff (s : State) : (recomputeEff s).level.heard = s.level.heard := heard_recompute s false

@[simp] theorem heard_recomputeIssuing (s : State) : (recomputeIssuing s).level.heard = s.level.heard :=
  heard_recompute s true

/-! ## Forced stow (R143, R145, R148) and the exchange (R89 to R93) -/

@[simp] theorem heard_forcedStowStart (s : State) : (forcedStowStart s).level.heard = s.level.heard := by
  simp [forcedStowStart]

@[simp] theorem heard_takeTrigger (s : State) (f : Option FaultId) : (takeTrigger s f).level.heard = s.level.heard := by
  unfold takeTrigger
  extract_lets added
  have taken : added.level.heard = s.level.heard := by
    cases f <;> simp [added]
  split <;> simp [taken]

@[simp] theorem heard_judgeTriggers (s : State) : (judgeTriggers s).level.heard = s.level.heard := by
  simp [judgeTriggers, takeTriggers]

@[simp] theorem heard_forcedStowEnd (s : State) : (forcedStowEnd s).level.heard = s.level.heard := by
  simp [forcedStowEnd]

@[simp] theorem heard_driveStance (s : State) : (driveStance s).level.heard = s.level.heard := by
  unfold driveStance
  extract_lets driven
  split <;> simp [driven]

theorem heard_adoptTrims (s : State) (p : Package) : (adoptTrims s p).level.heard = s.level.heard := by
  unfold adoptTrims
  split <;> simp

theorem heard_serveSite (s : State) (p : Package) : (serveSite s p).1.level.heard = s.level.heard := by
  unfold serveSite
  (repeat' split) <;> simp

@[simp] theorem heard_loadPackage (s : State) : (loadPackage s).level.heard = s.level.heard := by
  simp [loadPackage, completeSwap, heard_serveSite, heard_adoptTrims, loadStance]

@[simp] theorem heard_quiesceEnd (s : State) : (quiesceEnd s).level.heard = s.level.heard := by
  simp [quiesceEnd, writeOut]

@[simp] theorem heard_resumeStance (s : State) : (resumeStance s).level.heard = s.level.heard := by simp [resumeStance]

/-! ## What every event brings about -/

@[simp] theorem heard_fixGoal (s : State) : (fixGoal s).level.heard = s.level.heard := by
  unfold fixGoal
  split
  · rfl
  next why _ =>
    extract_lets fixed
    split
    · cases why <;> simp [unaim, fixed]
    · rfl

@[simp] theorem heard_mastRest (s : State) : (mastRest s).level.heard = s.level.heard := by
  cases phase : s.axes.mast.phase <;> simp [mastRest, phase]

@[simp] theorem heard_stowStatusPass (s : State) : (stowStatusPass s).level.heard = s.level.heard := by
  simp [stowStatusPass]

@[simp] theorem heard_arriveDish (s : State) : (arriveDish s).level.heard = s.level.heard := by
  cases goal : s.stance.dishGoal <;> simp [arriveDish, goal, arriveSite]

@[simp] theorem heard_shortRest (s : State) (k : StopShort) : (shortRest s k).level.heard = s.level.heard := by
  cases k <;> simp [shortRest]

@[simp] theorem heard_dishRest (s : State) : (dishRest s).level.heard = s.level.heard := by
  unfold dishRest
  (repeat' split) <;> simp

theorem level_foldl {α : Type} (f : State → α → State) (hf : ∀ s x, (f s x).level = s.level) (l : List α) (s : State) :
    (l.foldl f s).level = s.level := by
  induction l generalizing s with
  | nil => rfl
  | cons x l ih => exact (ih _).trans (hf s x)

@[simp] theorem level_completeHeights (s : State) : (completeHeights s).level = s.level :=
  level_foldl _ (fun _ _ => complete_level ..) _ s

@[simp] theorem heard_completeOpen (s : State) : (completeOpen s).level.heard = s.level.heard := by
  cases mode : s.ctl.mode <;> simp [completeOpen, mode]

theorem heard_settleOnce (s : State) : (settleOnce s).level.heard = s.level.heard := by simp [settleOnce, searchPass]

theorem heard_updateHeader (before s : State) : (updateHeader before s).level.heard = s.level.heard := by
  simp [updateHeader, updateHeaderWith, writeHeaderFields]

/-- What the Level Monitor has heard stands at the end of an event. -/
@[simp] theorem heard_endEvent (before s : State) : (endEvent before s).level.heard = s.level.heard := by
  simp [endEvent, heard_updateHeader, settle, heard_settleOnce]

end Sys2Proof.Machine
end

section
/-! PROOFS. A level sample, the measurement it may complete, and a lost level (R61, R62, R64, R67, R68): O37. -/
namespace Sys2Proof.Machine

/-! ## A fault that is not spent stays in the set (R140) -/

theorem mem_makeRoom (s : State) (f : FaultId) (held : f ∈ s.ilk.faults) (stays : spent s f = false) :
    f ∈ (makeRoom s).ilk.faults := by
  unfold makeRoom
  split
  · exact held
  split
  · exact held
  next d oldest =>
    have gone : spent s d = true := List.find?_some oldest
    have other : f ≠ d := by
      rintro rfl
      rw [stays] at gone
      cases gone
    have left : f ∈ s.ilk.faults.filter (· != d) := List.mem_filter.mpr ⟨held, bne_iff_ne.mpr other⟩
    dsimp only
    split
    · exact left
    · exact left

theorem mem_putFault (s : State) (f g : FaultId) (held : f ∈ s.ilk.faults) (stays : spent s f = false) :
    f ∈ (putFault s g).ilk.faults := by
  have room := mem_makeRoom s f held stays
  unfold putFault
  extract_lets t s1 s2
  have put : f ∈ s2.ilk.faults := List.mem_append_left _ room
  split
  · split
    · exact put
    · exact put
  · exact room

/-- A fault reported to a set with room is put at its end. -/
theorem mem_putFault_self (s : State) (f : FaultId) (room : s.ilk.faults.length < 16) :
    f ∈ (putFault s f).ilk.faults := by
  have put : f ∈ s.ilk.faults ++ [f] := by simp
  have roomy : makeRoom s = s := if_pos room
  rw [putFault, roomy]
  dsimp only
  rw [if_pos room]
  split
  · exact put
  · exact put

theorem swapEarlyEnd_ilk (s : State) (code : Code) : (swapEarlyEnd s code).ilk = s.ilk := by
  unfold swapEarlyEnd completeSwap
  dsimp only
  (repeat' split) <;> simp

theorem mem_reportFault (s : State) (f g : FaultId) (held : f ∈ s.ilk.faults) (stays : spent s f = false) :
    f ∈ (reportFault s g).ilk.faults := by
  unfold reportFault
  split
  · exact held
  · rw [swapEarlyEnd_ilk]
    exact mem_putFault s f g held stays

theorem mem_reportFault_self (s : State) (f : FaultId) (room : s.ilk.faults.length < 16) :
    f ∈ (reportFault s f).ilk.faults := by
  unfold reportFault
  split
  next present => exact List.contains_iff_mem.mp present
  · rw [swapEarlyEnd_ilk]
    exact mem_putFault_self s f room

/-! ## A lost level stays reported while the dish is driven (R62, R77) -/

/-- The level is lost, and the set holds SENSOR(LEVEL). -/
def lossReported (s : State) : Prop := levelLost s = true ∧ FaultId.sensor .level ∈ s.ilk.faults

theorem levelLost_congr {s u : State} (heard : u.level.heard = s.level.heard) : levelLost u = levelLost s := by
  have run : u.level.invalidRun = s.level.invalidRun := congrArg (a₁ := u.level.heard) (a₂ := s.level.heard) Level.invalidRun heard
  rw [levelLost, levelLost, run]

theorem lossReported.congr {s u : State} (h : lossReported s) (heard : u.level.heard = s.level.heard)
    (ilk : u.ilk = s.ilk) : lossReported u := by
  rw [lossReported, levelLost_congr heard, ilk]
  exact h

/-- A lost level is no cause gone, so its fault is not spent (R140, R149). -/
theorem spent_level (s : State) (lost : levelLost s = true) : spent s (.sensor .level) = false := by
  simp [spent, FaultId.isStall, removable, lost]

theorem lossReported.reportFault {s : State} (h : lossReported s) (f : FaultId) : lossReported (reportFault s f) := by
  obtain ⟨lost, held⟩ := h
  exact ⟨(levelLost_congr (heard_reportFault s f)).trans lost, mem_reportFault s _ f held (spent_level s lost)⟩

theorem endWhere_ilk (s : State) (p : OpenCommand → Bool) (code : Code) : (endWhere s p code).ilk = s.ilk := by
  obtain ⟨-, -, -, -, -, -, -, -, -, -, -, ilk, -⟩ := endWhere_same s p code
  exact ilk

theorem onlyDrives.ilk {s u : State} (h : onlyDrives s u) : u.ilk = s.ilk :=
  congrArg (a₁ := u.aside) (a₂ := s.aside) State.ilk h

theorem dishFaultReact_ilk (s : State) : (dishFaultReact s).ilk = s.ilk := by
  have stops : onlyDrives s (controlledStops s dishAxes) := aside_controlledStops ..
  obtain ⟨-, -, -, -, -, -, -, -, -, -, stopped, -⟩ := stopSearch_same (controlledStops s dishAxes) .faulted false
  unfold dishFaultReact
  split
  · exact withDish_ilk ..
  · rw [endWhere_ilk, withDishShort_ilk, writeDishGoal_ilk, withDish_ilk, withPeakPending_ilk]
    exact stopped.trans stops.ilk

theorem lossReported.axisFault {s : State} (h : lossReported s) (a : Axis) (f : FaultId) (dish : a ≠ .mast) :
    lossReported (axisFault s a f) := by
  have reported := h.reportFault f
  unfold Machine.axisFault axisReact
  rw [if_neg dish]
  split
  · exact reported.congr (heard_dishFaultReact _) (dishFaultReact_ilk _)
  · exact reported

theorem lossReported.giveDishAxis {s : State} (h : lossReported s) (a : Axis) (t : Int) (dish : a ≠ .mast) :
    lossReported (giveDishAxis s a t) := by
  have drives : onlyDrives s (axisGive s a t (movePriority s)).1 := axisGive_drives ..
  have given := h.congr (congrArg Level.heard drives.level) drives.ilk
  unfold Machine.giveDishAxis giveTarget orLimit
  split
  · exact h
  split
  · exact given.axisFault a _ dish
  · exact given

theorem lossReported.giveDish {s : State} (h : lossReported s) (t : Targets) : lossReported (giveDish s t) :=
  ((h.giveDishAxis .pan t.pan (by decide)).giveDishAxis .tilt t.tilt (by decide)).giveDishAxis .pol t.pol (by decide)

theorem dishStands_ilk (s : State) : (dishStands s).ilk = s.ilk := by
  unfold dishStands
  (repeat' split) <;> simp

theorem lossReported.slewTo {s : State} (h : lossReported s) (t : Targets) : lossReported (slewTo s t) := by
  unfold Machine.slewTo
  split
  · exact h.congr (heard_dishStands s) (dishStands_ilk s)
  split
  · exact h.congr (heard_nestWait s) (by simp [nestWait])
  · exact lossReported.giveDish (h.congr (by simp) (by simp)) t

/-- The search that a lost level ends leaves it reported. -/
theorem lossReported.searchSensor {s : State} (h : lossReported s) : lossReported (searchSensor s) := by
  obtain ⟨-, -, -, -, -, -, -, -, -, ilk, -⟩ := endSearch_same s .sensor .faulted
  unfold Machine.searchSensor
  split
  · exact h
  · exact (h.congr (heard_endSearch s .sensor .faulted) ilk).slewTo _

/-! ## A sample (R61, R62) -/

theorem codeValid_iff (code : Nat) : codeValid code = true ↔ 100 ≤ code ∧ code ≤ 3300 := by
  rw [codeValid, Bool.and_eq_true, decide_eq_true_iff, decide_eq_true_iff]

theorem sampleLevel_eq (s : State) (code : Nat) : sampleLevel s code =
    (if 100 ≤ code ∧ code ≤ 3300 then ((code - 100) / 4 : Nat) - 1000 else s.level.held : Int) :=
  if_congr (codeValid_iff code) rfl rfl

/-- A full history gives its oldest level for the new one. -/
theorem history_joined (l : List Int) (v : Int) (full : l.length = 20) : (l ++ [v]).drop (l.length - 19) = l.tail ++ [v] := by
  rw [full, List.drop_append_of_le_length (by omega), List.drop_one]

theorem recordSample_eq (s : State) (code : Nat) (full : s.level.history.length = 20) :
    recordSample s code = s.withLevel { s.level with
      history := s.level.history.tail ++ [sampleLevel s code], held := sampleLevel s code
      invalidRun := if 100 ≤ code ∧ code ≤ 3300 then 0 else s.level.invalidRun + 1 } := by
  simp only [recordSample, history_joined _ _ full, codeValid_iff]

/-- A sample loses the level where it is the third invalid one in a row (R62). -/
theorem loses_iff (s : State) (code : Nat) : (levelLost (recordSample s code) && !levelLost s) = true ↔
    ¬ (100 ≤ code ∧ code ≤ 3300) ∧ s.level.invalidRun = 2 := by
  have run : (recordSample s code).level.invalidRun =
      if 100 ≤ code ∧ code ≤ 3300 then 0 else s.level.invalidRun + 1 := if_congr (codeValid_iff code) rfl rfl
  rw [Bool.and_eq_true, Bool.not_eq_true', ← Bool.not_eq_true, levelLost_iff, levelLost_iff, run]
  split <;> omega

theorem takeSample_lost (s : State) (code : Nat) (bad : ¬ (100 ≤ code ∧ code ≤ 3300)) (third : s.level.invalidRun = 2) :
    takeSample s code = searchSensor (reportFault (recordSample s code) (.sensor .level)) :=
  if_pos ((loses_iff s code).mpr ⟨bad, third⟩)

theorem takeSample_heard (s : State) (code : Nat) (hears : (100 ≤ code ∧ code ≤ 3300) ∨ s.level.invalidRun ≠ 2) :
    takeSample s code = searchSample (recordSample s code) (sampleLevel s code) :=
  if_neg fun loses => by
    obtain ⟨bad, third⟩ := (loses_iff s code).mp loses
    exact hears.elim bad (absurd third)

/-- A sample writes what it is heard as, and what follows from it writes no more of that. -/
theorem heard_takeSample (s : State) (code : Nat) :
    (takeSample s code).level.heard = (recordSample s code).level.heard := by
  simp [takeSample]

/-- Everything that `Kept` gathers for the outside and the other timers is as before. -/
theorem surroundingsKept_of_kept {s t : State} (h : t.kept = s.kept) : surroundingsKept s t :=
  ⟨congrArg Kept.limits h, congrArg Kept.wind h, congrArg Kept.power h, congrArg Kept.telem h, congrArg Kept.pending h,
    congrArg Kept.fix h, congrArg Kept.fixGen h, congrArg Kept.intake h, congrArg Kept.control h, fun a => by
      have sensed : (t.axis a).sensed = (s.axis a).sensed := by rw [sensed_axis, sensed_axis, h]
      exact congrArg Prod.fst sensed⟩

theorem kept_takeSample (s : State) (code : Nat) : (takeSample s code).kept = s.kept := by
  unfold takeSample
  extract_lets recorded
  have heard : recorded.kept = s.kept := rfl
  split <;> simp [heard]

/-! ## A measurement (R64, R67, R68) -/

section
variable {s : State} {c : Search} {taken : List Int} (search : s.level.search = some c) (wait : c.wait = .sampling taken)
include search wait

/-- A sample before the fourth joins the measurement. -/
theorem searchSample_joins (v : Int) (few : taken.length < 3) :
    searchSample s v = s.withSearch { c with wait := .sampling (taken ++ [v]) } := by
  have short : (taken ++ [v]).length < 4 := by
    rw [List.length_append, List.length_singleton]
    omega
  simp only [searchSample, search, wait]
  exact if_pos short

/-- The fourth completes it with the floor of their mean. -/
theorem searchSample_completes (v m : Int) (three : taken.length = 3) (low : 4 * m ≤ taken.sum + v)
    (high : taken.sum + v < 4 * m + 4) : searchSample s v = measured s c m := by
  have mean : (taken ++ [v]).sum / 4 = m := by
    rw [List.sum_append, List.sum_singleton]
    omega
  simp only [searchSample, search, wait, mean]
  exact if_neg (by simp [three])

end

/-- The level of the centre: the first probe point of a round follows (R67). -/
theorem measured_reference (s : State) (c : Search) (m : Int) (stage : c.stage = .reference) :
    measured s c m = searchMoves s (toPlus s { c with lc := some m, moved := false } .pan) := by
  simp only [measured, stage]
  exact tryPlus_eq ..

/-- The level of the first probe point, below the probe limit: the second follows. -/
theorem measured_plus (s : State) (c : Search) (m : Int) (ax : ProbeAxis) (stage : c.stage = .probe ax true)
    (below : (countProbe c true m).limit = false) :
    measured s c m = searchMoves s (toMinus s (countProbe c true m) ax) := by
  simp only [measured, stage, below, Bool.not_false, Bool.and_self, if_true]
  exact tryMinus_eq ..

/-- The level of the second probe point, or of one at the probe limit: the comparison follows (R69). -/
theorem measured_compares (s : State) (c : Search) (m : Int) (ax : ProbeAxis) (plus : Bool)
    (stage : c.stage = .probe ax plus) (last : plus = true → (countProbe c plus m).limit = true) :
    measured s c m = searchMoves s (toCentre s (countProbe c plus m) ax) := by
  have compares : (plus && !(countProbe c plus m).limit) = false := by
    cases plus with
    | true => rw [last rfl]; rfl
    | false => rfl
  simp only [measured, stage, compares]
  exact compareAxis_eq ..

end Sys2Proof.Machine

open Sys2Proof Sys2Proof.Machine

/-- The first part of O37: what is heard of a sample at the end of its event, and the third invalid one in a row. -/
theorem levelSample_heard (s : State) (code : BitVec 12) (runs : s.level.running = true)
    (full : s.level.history.length = 20) (room : s.ilk.faults.length < 12) :
    let ok := 100 ≤ code.toNat ∧ code.toNat ≤ 3300
    let v : Int := if 100 ≤ code.toNat ∧ code.toNat ≤ 3300 then ((code.toNat - 100) / 4 : Nat) - 1000 else s.level.held
    ∃ u, exec (.levelSample code) s = .next (endEvent s u) ∧
      (endEvent s u).level.history = s.level.history.tail ++ [v] ∧ (endEvent s u).level.held = v ∧
      (endEvent s u).level.invalidRun = (if ok then 0 else s.level.invalidRun + 1) ∧ surroundingsKept s (endEvent s u) ∧
      (¬ ok → s.level.invalidRun = 2 → FaultId.sensor .level ∈ u.ilk.faults) := by
  intro ok v
  have heard : (endEvent s (takeSample s code.toNat)).level.heard = (recordSample s code.toNat).level.heard :=
    (heard_endEvent ..).trans (heard_takeSample ..)
  rw [recordSample_eq s code.toNat full, sampleLevel_eq] at heard
  refine ⟨takeSample s code.toNat, execLevelSample_running code s runs, congrArg Level.history heard, congrArg Level.held heard,
    congrArg Level.invalidRun heard, surroundingsKept_of_kept (by rw [kept_endEvent, kept_takeSample]),
    fun bad third => ?_⟩
  obtain ⟨lost, -⟩ := Bool.and_eq_true_iff.mp ((loses_iff s code.toNat).mpr ⟨bad, third⟩)
  have reported : lossReported (reportFault (recordSample s code.toNat) (.sensor .level)) :=
    ⟨(levelLost_congr (heard_reportFault ..)).trans lost, mem_reportFault_self _ _ (room.trans (by decide))⟩
  obtain ⟨-, stays⟩ := reported.searchSensor
  rw [takeSample_lost s code.toNat bad third]
  exact stays

/-- Settles O37: what is heard of a sample, and the stages of a search whose measurement it joins. -/
theorem levelSampleTaken : Obligations.LevelSampleTaken := by
  refine ⟨levelSample_heard, fun s code c taken runs full search wait => ?_⟩
  intro ok v heard leads hears
  have record : recordSample s code.toNat = heard := by
    rw [recordSample_eq s code.toNat full, sampleLevel_eq]
  have event : exec (.levelSample code) s = .next (endEvent s (searchSample heard v)) := by
    refine (execLevelSample_running code s runs).trans ?_
    rw [takeSample_heard s code.toNat hears, record, sampleLevel_eq]
  have running : heard.level.search = some c := search
  refine ⟨fun few => ?_, fun m three low high => ?_⟩
  · rw [event, searchSample_joins running wait v few]
    rfl
  · intro d
    have leads_of : ∀ e : Search, measured heard c m = searchMoves heard e → leads e := fun e goes => by
      show exec (.levelSample code) s = .next (endEvent s (searchMoves heard e))
      rw [← goes, ← searchSample_completes running wait v m three low high]
      exact event
    exact ⟨fun stage => leads_of _ (measured_reference heard c m stage),
      fun ax stage below => leads_of _ (measured_plus heard c m ax stage below),
      fun ax stage limit => leads_of _ (measured_compares heard c m ax true stage fun _ => limit),
      fun ax stage => leads_of _ (measured_compares heard c m ax false stage nofun)⟩

end

section
/-! PROOFS. The end of the settle time and the level watch (R64, R78): O38. -/
namespace Sys2Proof.Machine

theorem openSamples_settling (s : State) (c : Search) (search : s.level.search = some c) (wait : c.wait = .settling) :
    openSamples s = s.withSearch { c with wait := .sampling [] } := by
  simp only [openSamples, search, wait]

theorem openSamples_idle (s : State) (search : s.level.search = none) : openSamples s = s := by
  simp only [openSamples, search]

theorem nextCount_eq (s : State) (n : Nat) : nextCount s n =
    if 3 ≤ s.level.invalidRun then 0
    else if s.level.history.sum / 20 < (liveEntry s).trim.peak - s.limits.watchDrop then min 5 (n + 1) else 0 :=
  if_congr (levelLost_iff s) rfl rfl

theorem watchCheck_eq (s : State) (n : Nat) (watch : s.level.watch = some n) : watchCheck s =
    let s' := s.withLevel { s.level with watch := some (nextCount s n) }
    if nextCount s n = 5 ∧ canIssue s = true then startSearch s' .touchUp else s' := by
  simp only [watchCheck, watch]

end Sys2Proof.Machine

open Sys2Proof Sys2Proof.Machine

/-- Settles O38: by the search, and by whether the check is the fifth and a move may be issued. -/
theorem settleTimeAndWatch : Obligations.SettleTimeAndWatch := by
  intro s
  refine ⟨fun c search wait => ?_, fun search => ?_, fun n watch => ?_⟩
  · exact congrArg Host.Outcome.next (openSamples_settling s c search wait)
  · exact congrArg Host.Outcome.next (openSamples_idle s search)
  · intro n' s'
    have check := watchCheck_eq s n watch
    rw [nextCount_eq] at check
    have checks : exec .watchCheck s = .next (endEvent s (watchCheck s)) := rfl
    refine ⟨fun holds => ?_, fun fifth issues => ?_⟩
    · have held : ¬ (n' = 5 ∧ canIssue s = true) := by
        rintro ⟨fifth, issues⟩
        rcases holds with fewer | barred
        · omega
        · simp [issues] at barred
      rw [checks, check]
      exact congrArg (fun u => Host.Outcome.next (endEvent s u)) (if_neg held)
    · rw [checks, check]
      exact congrArg (fun u => Host.Outcome.next (endEvent s u)) (if_pos ⟨fifth, issues⟩)

end

section
/-! PROOFS. A stance written out as a package and read back (R81, R83, R89): O15. -/
namespace Sys2Proof.Machine

/-! ## Fields stored and read back (R154, 10.2) -/

/-- The bytes that stand from an address up. -/
def Memory.holds (m : Memory) (a : Nat) (bs : List Byte) : Prop := readBytes m a bs.length = bs

theorem readBytes_length (m : Memory) (a n : Nat) : (readBytes m a n).length = n := by
  induction n generalizing a with
  | zero => rfl
  | succ n ih => rw [readBytes, List.length_cons, ih]

theorem readBytes_add (m : Memory) (a n k : Nat) :
    readBytes m a (n + k) = readBytes m a n ++ readBytes m (a + n) k := by
  induction n generalizing a with
  | zero => rw [Nat.zero_add]; rfl
  | succ n ih => rw [Nat.succ_add, readBytes, readBytes, ih, List.cons_append, Nat.add_right_comm, Nat.add_assoc]

/-- A record stands where its fields stand one after another. -/
theorem holds_append {m : Memory} {a : Nat} {xs ys : List Byte} :
    m.holds a (xs ++ ys) ↔ m.holds a xs ∧ m.holds (a + xs.length) ys := by
  rw [Memory.holds, List.length_append, readBytes_add]
  refine ⟨fun h => List.append_inj h (readBytes_length ..), ?_⟩
  rintro ⟨first, rest⟩
  exact congrArg₂ (· ++ ·) first rest

theorem holds_writeBytes {m : Memory} (a : Nat) (bs : List Byte) (hw : Memory.wf m = true) :
    Memory.holds (writeBytes m a bs) a bs := readBytes_writeBytes bs m a hw

theorem padBytes_eq (n : Nat) (l : List Byte) (fits : l.length ≤ n) :
    padBytes n l = l ++ List.replicate (n - l.length) 0 := by
  induction n generalizing l with
  | zero =>
    obtain rfl : l = [] := List.length_eq_zero_iff.mp (Nat.le_zero.mp fits)
    rfl
  | succ n ih =>
    cases l with
    | nil => rw [padBytes, ih [] (Nat.zero_le n)]; rfl
    | cons b l => rw [padBytes, ih l (Nat.le_of_succ_le_succ fits), List.length_cons, Nat.succ_sub_succ]; rfl

section
variable {m : Memory} {a : Nat}

theorem readU8_holds {v : Nat} (h : m.holds a (leBytes 1 v)) (fits : v < 256) : readU8 m a = v := by
  obtain ⟨byte, -⟩ := List.cons.inj h
  rw [readU8, byte, BitVec.toNat_ofNat, Nat.mod_eq_of_lt fits]

theorem readU8_flag {b : Bool} (h : m.holds a (flagByte b)) : readU8 m a = b.toNat := by
  obtain ⟨byte, -⟩ := List.cons.inj h
  rw [readU8, byte]
  cases b <;> rfl

theorem readU16_holds {v : Nat} (h : m.holds a (leBytes 2 v)) : readU16 m a = v % 65536 := by
  obtain ⟨low, rest⟩ := List.cons.inj h
  obtain ⟨high, -⟩ := List.cons.inj rest
  exact readU16_stored low high

theorem readU32_holds {v : Nat} (h : m.holds a (leBytes 4 v)) : readU32 m a = v % 4294967296 := by
  have halves : leBytes 4 v = leBytes 2 v ++ leBytes 2 (v / 256 / 256) := rfl
  rw [halves, holds_append, leBytes_length] at h
  obtain ⟨low, high⟩ := h
  rw [readU32, readU16_holds low, readU16_holds high]
  omega

theorem zeroBytes_holds {n : Nat} (h : m.holds a (List.replicate n 0)) : zeroBytes m a n = true := by
  rw [Memory.holds, List.length_replicate] at h
  rw [zeroBytes, h, List.all_replicate]
  simp

/-- What two's complement wrote, it reads back. -/
theorem toSigned_fromSigned (w : Nat) (i : Int) (low : -2 ^ w ≤ i) (high : i < 2 ^ w) :
    toSigned (w + 1) (fromSigned (w + 1) i) = i := by
  have double : (2 : Nat) ^ (w + 1) = 2 * 2 ^ w := by rw [pow_succ, Nat.mul_comm]
  have half : ((2 ^ w : Nat) : Int) = 2 ^ w := by push_cast; rfl
  rw [toSigned, fromSigned, Nat.add_sub_cancel, double]
  generalize 2 ^ w = k at *
  rw [← half] at low high
  by_cases neg : i < 0
  · have wraps : i % ((2 * k : Nat) : Int) = i + (2 * k : Nat) := by
      rw [← Int.add_emod_right, Int.emod_eq_of_lt] <;> omega
    rw [wraps, Nat.mod_eq_of_lt (by omega), if_neg (by omega)]
    omega
  · have stays : i % ((2 * k : Nat) : Int) = i := Int.emod_eq_of_lt (by omega) (by omega)
    rw [stays, Nat.mod_eq_of_lt (by omega), if_pos (by omega)]
    omega

theorem toSigned_mod (w n : Nat) : toSigned w (n % 2 ^ w) = toSigned w n := by
  simp only [toSigned, Nat.mod_mod]

theorem readS16_holds {i : Int} (h : m.holds a (le16 i)) (range : -32768 ≤ i ∧ i ≤ 32767) : readS16 m a = i := by
  obtain ⟨low, high⟩ := range
  rw [readS16, readU16_holds h]
  exact (toSigned_mod 16 _).trans (toSigned_fromSigned 15 i low (Int.lt_add_one_of_le high))

theorem readS32_holds {i : Int} (h : m.holds a (le32 i)) (range : -2147483648 ≤ i ∧ i ≤ 2147483647) :
    readS32 m a = i := by
  obtain ⟨low, high⟩ := range
  rw [readS32, readU32_holds h]
  exact (toSigned_mod 32 _).trans (toSigned_fromSigned 31 i low (Int.lt_add_one_of_le high))

/-- An unsigned 16-bit field. -/
theorem readU16_le16 {i : Int} (h : m.holds a (le16 i)) (range : 0 ≤ i ∧ i ≤ 65535) : readU16 m a = i.toNat := by
  obtain ⟨low, high⟩ := range
  have whole : i % ((2 ^ 16 : Nat) : Int) = i := Int.emod_eq_of_lt low (Int.lt_add_one_of_le high)
  rw [readU16_holds h, fromSigned, whole]
  omega

end

/-! ## The package of a stance (R81, R89) -/

/-- A stance within the ranges of R1 that satisfies the stance validity rule (R2). -/
structure StanceInRange (st : Stance) : Prop where
  low : 0 ≤ st.mastGoal
  high : st.mastGoal ≤ 15000
  aimed : st.dishGoal.aimed = true → 1500 ≤ st.mastGoal
  site : st.dishGoal = .site → st.site ≠ none
  pending : st.peakPending = true → st.dishGoal = .site
  point : ∀ x, st.dishGoal = .point x → -27000 ≤ x.pan ∧ x.pan ≤ 27000 ∧ -9000 ≤ x.tilt ∧ x.tilt ≤ 3000 ∧
    -9000 ≤ x.pol ∧ x.pol ≤ 9000

/-- A trim block that fits its fields (10.2). -/
structure TrimFits (t : Trim) : Prop where
  pan : -32768 ≤ t.pan ∧ t.pan ≤ 32767
  tilt : -32768 ≤ t.tilt ∧ t.tilt ≤ 32767
  peak : -32768 ≤ t.peak ∧ t.peak ≤ 32767
  datum : t.datum < 256
  east : -2147483648 ≤ t.east ∧ t.east ≤ 2147483647
  north : -2147483648 ≤ t.north ∧ t.north ≤ 2147483647
  heading : 0 ≤ t.heading ∧ t.heading ≤ 65535

/-- A valid trim block within the ranges of R49. -/
def trimInRange (t : Trim) : Prop :=
  -300 ≤ t.pan ∧ t.pan ≤ 300 ∧ -300 ≤ t.tilt ∧ t.tilt ≤ 300 ∧ -1000 ≤ t.peak ∧ t.peak ≤ -200 ∧
    -2000000 ≤ t.east ∧ t.east ≤ 2000000 ∧ -2000000 ≤ t.north ∧ t.north ≤ 2000000 ∧ t.heading ≤ 35999

/-- The SAVED package of a stance, a trim block and a fix generation, as its fields read. -/
def savedPackage (st : Stance) (t : Trim) (gen : Nat) : Package where
  state := 2
  site := siteByte st.site
  dishGoal := goalCode st.dishGoal
  peakAfter := st.peakAfter.toNat
  watch := st.watch.toNat
  peakPending := st.peakPending.toNat
  trimValid := t.valid.toNat
  mastGoal := st.mastGoal.toNat
  point := goalPoint st.dishGoal
  trimPan := t.pan
  trimTilt := t.tilt
  peak := t.peak
  heading := t.heading.toNat
  east := t.east
  north := t.north
  datum := t.datum
  savedAt := gen
  reservedZero := true

theorem goalCode_lt (g : DishGoal) : goalCode g < 4 := by
  cases g <;> simp [goalCode]

theorem goalCode_lt_two {g : DishGoal} (h : g.aimed = false) : goalCode g < 2 := by
  cases g with
  | none => decide
  | stow => decide
  | site => cases h
  | point x => cases h

theorem goalCode_eq_two {g : DishGoal} : goalCode g = 2 ↔ g = .site := by
  cases g <;> simp [goalCode]

theorem siteByte_ne_none {site : Option (Fin 32)} (h : site ≠ none) : siteByte site ≠ 255 := by
  cases site with
  | none => exact absurd rfl h
  | some n => exact (n.isLt.trans (by decide)).ne

/-- The POINT values of a stance fit their fields. -/
theorem StanceInRange.goalPoint {st : Stance} (h : StanceInRange st) : let x := goalPoint st.dishGoal
    (-32768 ≤ x.pan ∧ x.pan ≤ 32767) ∧ (-32768 ≤ x.tilt ∧ x.tilt ≤ 32767) ∧ (-32768 ≤ x.pol ∧ x.pol ≤ 32767) := by
  cases goal : st.dishGoal with
  | none => decide
  | stow => decide
  | site => decide
  | point x =>
    obtain ⟨panLow, panHigh, tiltLow, tiltHigh, polLow, polHigh⟩ := h.point x goal
    simp only [Machine.goalPoint]
    omega

@[simp] theorem le16_length (i : Int) : (le16 i).length = 2 := leBytes_length ..
@[simp] theorem le32_length (i : Int) : (le32 i).length = 4 := leBytes_length ..
@[simp] theorem flagByte_length (b : Bool) : (flagByte b).length = 1 := rfl

/-- Every field of a package written reads back. -/
theorem readPackage_written (m : Memory) (number : Nat) {st : Stance} {t : Trim} {gen : Nat} (hw : Memory.wf m = true)
    (stance : StanceInRange st) (trim : TrimFits t) (fits : gen < 65536) :
    readPackage (writeBytes m (packageAddr number) (packageBytes st t gen)) number = savedPackage st t gen := by
  have stored := holds_writeBytes (packageAddr number) (packageBytes st t gen) hw
  generalize writeBytes m (packageAddr number) (packageBytes st t gen) = u at stored ⊢
  rw [packageBytes, padBytes_eq _ _ (by simp)] at stored
  simp only [List.append_assoc, holds_append, List.length_append, leBytes_length, le16_length, le32_length,
    flagByte_length, Nat.add_assoc, Nat.reduceAdd, Nat.reduceSub] at stored
  obtain ⟨state, site, goal, after, watch, pending, valid, zero7, height, pan, tilt, pol, trimPan, trimTilt, peak,
    heading, east, north, datum, zero33, savedAt, rest⟩ := stored
  obtain ⟨panFits, tiltFits, polFits⟩ := stance.goalPoint
  have point : (⟨readS16 u (packageAddr number + 10), readS16 u (packageAddr number + 12),
      readS16 u (packageAddr number + 14)⟩ : Targets) = goalPoint st.dishGoal := by
    rw [readS16_holds pan panFits, readS16_holds tilt tiltFits, readS16_holds pol polFits]
  have reserved : (zeroBytes u (packageAddr number + 7) 1 && (zeroBytes u (packageAddr number + 33) 1 &&
      zeroBytes u (packageAddr number + 36) 92)) = true := by
    rw [zeroBytes_holds (n := 1) zero7, zeroBytes_holds (n := 1) zero33, zeroBytes_holds rest]
    rfl
  simp only [readPackage, savedPackage, Package.mk.injEq]
  exact ⟨readU8_holds state (by decide), readU8_holds site (siteByte_lt _),
    readU8_holds goal ((goalCode_lt _).trans (by decide)), readU8_flag after, readU8_flag watch, readU8_flag pending,
    readU8_flag valid, readU16_le16 height ⟨stance.low, stance.high.trans (by decide)⟩, point,
    readS16_holds trimPan trim.pan, readS16_holds trimTilt trim.tilt,
    readS16_holds peak trim.peak, readU16_le16 heading trim.heading,
    readS32_holds east trim.east, readS32_holds north trim.north,
    readU8_holds datum trim.datum, (readU16_holds savedAt).trans (Nat.mod_eq_of_lt fits), reserved⟩

/-! ## The stance, the trims and the validity of a package (R83, R90) -/

theorem siteOfByte_siteByte (n : Option (Fin 32)) : siteOfByte (siteByte n) = n := by
  cases n with
  | none => rfl
  | some n => exact siteOfByte_site n

theorem toNat_beq_one (b : Bool) : (b.toNat == 1) = b := by cases b <;> rfl

theorem savedPackage_stance {st : Stance} (t : Trim) (gen : Nat) (low : 0 ≤ st.mastGoal) :
    (savedPackage st t gen).stance = st := by
  obtain ⟨site, mastGoal, dishGoal, peakAfter, watch, peakPending⟩ := st
  have height : (mastGoal.toNat : Int) = mastGoal := Int.toNat_of_nonneg low
  have goal : (savedPackage ⟨site, mastGoal, dishGoal, peakAfter, watch, peakPending⟩ t gen).stance.dishGoal = dishGoal := by
    cases dishGoal <;> rfl
  rw [Package.stance, Stance.mk.injEq]
  exact ⟨siteOfByte_siteByte site, height, goal, toNat_beq_one _, toNat_beq_one _, toNat_beq_one _⟩

theorem savedPackage_trim (st : Stance) {t : Trim} (gen : Nat) (low : 0 ≤ t.heading) :
    (savedPackage st t gen).trim = t := by
  have heading : (t.heading.toNat : Int) = t.heading := Int.toNat_of_nonneg low
  simp only [Package.trim, savedPackage, toNat_beq_one, heading]

theorem within_iff (lo hi v : Int) : within lo hi v = true ↔ lo ≤ v ∧ v ≤ hi := by
  simp [within]

/-- The conditions of R83. -/
theorem Package.valid_iff (p : Package) : p.valid = true ↔
    (p.state = 1 ∨ p.state = 2) ∧ p.reservedZero = true ∧ (p.site < 32 ∨ p.site = 255) ∧ p.mastGoal ≤ 15000 ∧
      p.dishGoal < 4 ∧ p.pointOk = true ∧ isFlag p.peakAfter = true ∧ isFlag p.watch = true ∧
      isFlag p.peakPending = true ∧ isFlag p.trimValid = true ∧ (p.peakPending = 0 ∨ p.dishGoal = 2) ∧
      p.trimOk = true ∧ (p.dishGoal < 2 ∨ 1500 ≤ p.mastGoal) ∧ (p.dishGoal ≠ 2 ∨ p.site ≠ 255) := by
  simp only [Package.valid, Bool.and_eq_true, Bool.or_eq_true, decide_eq_true_eq, beq_iff_eq, bne_iff_ne]

theorem isFlag_toNat (b : Bool) : isFlag b.toNat = true := by cases b <;> rfl

/-- Condition 6 of R83. -/
theorem savedPackage_pointOk {st : Stance} (t : Trim) (gen : Nat) (h : StanceInRange st) :
    (savedPackage st t gen).pointOk = true := by
  cases goal : st.dishGoal with
  | none => simp [Package.pointOk, savedPackage, goal, goalCode, goalPoint]
  | stow => simp [Package.pointOk, savedPackage, goal, goalCode, goalPoint]
  | site => simp [Package.pointOk, savedPackage, goal, goalCode, goalPoint]
  | point x =>
    obtain ⟨panLow, panHigh, tiltLow, tiltHigh, polLow, polHigh⟩ := h.point x goal
    simp [Package.pointOk, savedPackage, goalCode, goalPoint, within_iff, *]

/-- Condition 9 of R83. -/
theorem savedPackage_trimOk (st : Stance) {t : Trim} (gen : Nat) (h : t.valid = true → trimInRange t) :
    (savedPackage st t gen).trimOk = true := by
  cases valid : t.valid with
  | false => simp [Package.trimOk, savedPackage, valid]
  | true =>
    obtain ⟨panLow, panHigh, tiltLow, tiltHigh, peakLow, peakHigh, eastLow, eastHigh, northLow, northHigh, heading⟩ :=
      h valid
    simp [Package.trimOk, savedPackage, within_iff, *]

/-- The package of a stance in range is valid (R83). -/
theorem savedPackage_valid {st : Stance} {t : Trim} (gen : Nat) (h : StanceInRange st)
    (trim : t.valid = true → trimInRange t) : (savedPackage st t gen).valid = true := by
  have site : siteByte st.site < 32 ∨ siteByte st.site = 255 := by
    cases st.site with
    | none => exact .inr rfl
    | some n => exact .inl n.isLt
  have pending : st.peakPending.toNat = 0 ∨ goalCode st.dishGoal = 2 := by
    cases flag : st.peakPending with
    | false => exact .inl rfl
    | true => exact .inr (congrArg goalCode (h.pending flag))
  have height : goalCode st.dishGoal < 2 ∨ 1500 ≤ st.mastGoal.toNat := by
    cases aimed : st.dishGoal.aimed with
    | false => exact .inl (goalCode_lt_two aimed)
    | true => exact .inr ((Int.le_toNat h.low).mpr (h.aimed aimed))
  have served : goalCode st.dishGoal ≠ 2 ∨ siteByte st.site ≠ 255 := by
    by_cases goal : st.dishGoal = .site
    · exact .inr (siteByte_ne_none (h.site goal))
    · exact .inl (mt goalCode_eq_two.mp goal)
  exact (savedPackage st t gen).valid_iff.mpr ⟨.inr rfl, rfl, site, Int.toNat_le.mpr h.high, goalCode_lt _,
    savedPackage_pointOk t gen h, isFlag_toNat _, isFlag_toNat _, isFlag_toNat _, isFlag_toNat _, pending,
    savedPackage_trimOk st gen trim, height, served⟩

end Sys2Proof.Machine

open Sys2Proof Sys2Proof.Machine

/-- Settles O15: the package written reads back field by field, and the stance, the trims and the validity are those of its
fields. -/
theorem packageRoundTrip : Obligations.PackageRoundTrip := by
  intro m number st t gen hw low high aimed site pending point trimRange panLow panHigh tiltLow tiltHigh peakLow peakHigh
    datum eastLow eastHigh northLow northHigh headingLow headingHigh fits p
  have stance : StanceInRange st := ⟨low, high, aimed, site, pending, point⟩
  have trim : TrimFits t := ⟨⟨panLow, panHigh⟩, ⟨tiltLow, tiltHigh⟩, ⟨peakLow, peakHigh⟩, datum, ⟨eastLow, eastHigh⟩,
    ⟨northLow, northHigh⟩, ⟨headingLow, headingHigh⟩⟩
  have read : p = savedPackage st t gen := readPackage_written m number hw stance trim fits
  rw [read]
  exact ⟨rfl, savedPackage_stance t gen low, savedPackage_trim st gen headingLow, rfl,
    savedPackage_valid gen stance trimRange⟩

end

section
/-! PROOFS. The checks of a SWAP and the start of its quiesce (R85 to R87, R105, R107): O14. -/
namespace Sys2Proof.Machine

/-! ## The checks (R85) -/

theorem Package.state_of_valid {p : Package} (h : p.valid = true) : p.state ≠ 0 := by
  obtain ⟨state, -⟩ := p.valid_iff.mp h
  omega

/-- Check 3 of R85: a STOW is open, or the dish is FAILED. -/
def swapBusy (s : State) : Prop := (∃ c ∈ s.board.openSet, c.kind = .stow) ∨ s.ctl.dishState = .failed

/-- Check 6 of R85: the package asks for a raise that RAISE would refuse. -/
def swapBlocked (s : State) (p : Package) : Prop := extension s + 20 < (p.mastGoal : Int) ∧ ¬ RaiseClear s

theorem anyOpen_stow (s : State) : anyOpen s [.stow] = true ↔ ∃ c ∈ s.board.openSet, c.kind = .stow := by
  simp [anyOpen, ofKinds]

theorem swapInterlock_iff (s : State) (p : Package) : swapInterlock s p = true ↔ swapBlocked s p := by
  rw [swapInterlock, Bool.and_eq_true, decide_eq_true_eq, ← Bool.not_eq_false (raiseInterlock s),
    raiseInterlock_eq_false_iff, swapBlocked]

section
variable {s : State} {number : Nat} {p : Package}

theorem swapRefusal_badRecord (high : 4 ≤ number) : swapRefusal s number p = some .badRecord := if_pos high

theorem swapRefusal_emptyPackage (low : number < 4) (empty : p.state = 0) :
    swapRefusal s number p = some .emptyPackage := (if_neg low.not_ge).trans (if_pos empty)

theorem swapRefusal_badState (low : number < 4) (present : p.state ≠ 0) (busy : swapBusy s) :
    swapRefusal s number p = some .badState := by
  refine (if_neg low.not_ge).trans ((if_neg present).trans (if_pos ?_))
  rw [anyOpen_stow]
  exact busy.imp_right .inl

theorem not_refusedBusy (idle : s.swap.phase = .idle) (free : ¬ swapBusy s) :
    ¬ (anyOpen s [.stow] = true ∨ s.ctl.dishState = .failed ∨ s.swap.phase ≠ .idle) := by
  rw [anyOpen_stow]
  rintro (stowing | failed | exchanging)
  · exact free (.inl stowing)
  · exact free (.inr failed)
  · exact exchanging idle

section
variable (low : number < 4) (idle : s.swap.phase = .idle) (free : ¬ swapBusy s)
include low idle free

theorem swapRefusal_badPackage (present : p.state ≠ 0) (invalid : p.valid = false) :
    swapRefusal s number p = some .badPackage := by
  refine (if_neg low.not_ge).trans ((if_neg present).trans ((if_neg (not_refusedBusy idle free)).trans (if_pos ?_)))
  rw [invalid]
  rfl

/-- A valid package comes to the checks of its site and its height. -/
theorem swapRefusal_valid (valid : p.valid = true) : swapRefusal s number p =
    (if p.dishGoal = 2 then aimCheck s p.site else none).or (if swapInterlock s p then some .interlock else none) := by
  have notInvalid : ¬ (!p.valid) = true := by simp [valid]
  refine (if_neg low.not_ge).trans ((if_neg (Package.state_of_valid valid)).trans
    ((if_neg (not_refusedBusy idle free)).trans ((if_neg notInvalid).trans ?_)))
  cases (if p.dishGoal = 2 then aimCheck s p.site else none) <;> rfl

theorem swapRefusal_site (valid : p.valid = true) {c : Code} (goal : p.dishGoal = 2) (check : aimCheck s p.site = some c) :
    swapRefusal s number p = some c := by
  rw [swapRefusal_valid low idle free valid, if_pos goal, check, Option.some_or]

/-- Past the site, the height decides. -/
theorem swapRefusal_height (valid : p.valid = true) (site : p.dishGoal = 2 → aimCheck s p.site = none) :
    swapRefusal s number p = if swapInterlock s p then some .interlock else none := by
  have passed : (if p.dishGoal = 2 then aimCheck s p.site else none) = none := ite_eq_right_iff.mpr site
  rw [swapRefusal_valid low idle free valid, passed, Option.none_or]

end

/-- An accepted SWAP, before its quiesce starts: the package is copied, and the command is open (R85, R86). -/
def swapTaken (s : State) (n : Slot) (number : Nat) (p : Package) : State :=
  (openCommand s (.new n .swap Warnings.empty)).withSwap ⟨.quiesce, number, n, p⟩

theorem swap_refused {n : Slot} {c : Code} (taken : Taken s .swap n) (hw : Memory.wf s.mem = true)
    (check : swapRefusal s (readU8 s.mem (argAddr n 0)) (readPackage s.mem (readU8 s.mem (argAddr n 0))) = some c) :
    ∃ u, exec .swap s = .next (endEvent s u) ∧ Refused s u n c := by
  refine takeEvent_refused s .swap ownSwap n c taken hw ?_
  replace check : swapRefusal (popIntake s) (readU8 (popIntake s).mem (argAddr n 0))
    (readPackage (popIntake s).mem (readU8 (popIntake s).mem (argAddr n 0))) = some c := check
  simp only [ownSwap, check]

theorem swap_accepted {n : Slot} (taken : Taken s .swap n) (copied : number = readU8 s.mem (argAddr n 0))
    (package : p = readPackage s.mem number) (check : swapRefusal s number p = none) :
    exec .swap s = .next (endEvent s (quiesceStart (swapTaken (popIntake s) n number p))) := by
  subst package copied
  refine congrArg Host.Outcome.next ((takeEvent_passed s .swap ownSwap n taken).trans (congrArg (endEvent s) ?_))
  replace check : swapRefusal (popIntake s) (readU8 (popIntake s).mem (argAddr n 0))
    (readPackage (popIntake s).mem (readU8 (popIntake s).mem (argAddr n 0))) = none := check
  simp only [ownSwap, check]
  rfl

end

/-! ## The search set aside (R87) -/

/-- A running search abandoned with peak pending set, and the level watch suspended. -/
def searchSetAside (s : State) : State :=
  let s1 := if s.level.search.isSome then (stopSearch s .abandoned true).withPeakPending true else s
  s1.withLevel { s1.level with watch := none }

/-- The stance with peak pending set for a search. -/
def pendingStance (s : State) : Stance :=
  if s.level.search.isSome then { s.stance with peakPending := true } else s.stance

theorem searchSetAside_eq (s : State) : searchSetAside s =
    ((s.withStance (pendingStance s)).withLevel { s.level with search := none, watch := none }).withBoard
      { s.board with openSet := (searchSetAside s).board.openSet } := by
  unfold searchSetAside pendingStance stopSearch tellSearch
  cases search : s.level.search with
  | none => simp [State.withLevel, State.withStance, State.withBoard, search]
  | some c =>
    by_cases full : c.kind = .full <;>
      simp [full, dropSearch, search, updateOpen, State.withPeakPending, State.withLevel, State.withStance, State.withBoard]

/-- No command is ended. -/
theorem searchSetAside_open (s : State) :
    (searchSetAside s).board.openSet.map (fun c => (c.slot, c.kind)) =
      s.board.openSet.map (fun c => (c.slot, c.kind)) := by
  have same : ∃ f, (searchSetAside s).board.openSet = s.board.openSet.map f ∧ SearchTold f := by
    unfold searchSetAside
    cases s.level.search.isSome with
    | false => exact ⟨id, (List.map_id _).symm, searchTold_id⟩
    | true => exact stopSearch_openSet s .abandoned true
  obtain ⟨f, told, kept⟩ := same
  rw [told, List.map_map]
  refine List.map_congr_left fun c _ => ?_
  obtain ⟨slot, kind, -⟩ := kept c
  exact Prod.ext slot kind

/-! ## Every axis stopped (R105, R107) -/

theorem onlyDrives.eq {s u : State} (h : onlyDrives s u) : u = (s.withAxes u.axes).withArb u.arb :=
  congrArg (a₁ := u.aside) (a₂ := s.aside) (fun v => (v.withAxes u.axes).withArb u.arb) h

theorem foldl_withdraw_grants (l : List Axis) (s : State) : (l.foldl withdrawStep s).arb.grants = s.arb.grants := by
  induction l generalizing s with
  | nil => rfl
  | cons a l ih => rw [List.foldl_cons, ih]; rfl

theorem stopsOf_arb (s : State) (sound : requestsSound s) : (stopsOf s allAxes).arb = ⟨s.arb.grants, []⟩ := by
  have grants : (stopsOf s allAxes).arb.grants = s.arb.grants := by
    rw [stopsOf, foldl_withdraw_grants, foldl_controlledStop_arb]
  rw [← grants, ← stopsOf_all_waits s sound]

/-- The mast withdrawn from a reversal, its lock engaging (log 45). -/
def reversalWithdrawn (s : State) : State :=
  engageLock (s.withAxis .mast { s.axes.mast with stop := some .controlled }) false

/-- Controlled stops of every axis leave no request to grant (log 10). -/
theorem controlledStops_all_eq (s : State) (sound : requestsSound s) : controlledStops s allAxes =
    if s.axes.mast.phase = .waiting ∧ s.axes.lock = .released then reversalWithdrawn (stopsOf s allAxes)
    else stopsOf s allAxes := by
  have waits := stopsOf_all_waits s sound
  have turning : ((waitingOf s allAxes).contains .mast = true ∧ s.axes.lock = .released) ↔
      (s.axes.mast.phase = .waiting ∧ s.axes.lock = .released) := by
    rw [List.contains_iff_mem, mem_waitingOf]
    exact and_congr_left' (and_iff_right (mem_allAxes _))
  by_cases turns : s.axes.mast.phase = .waiting ∧ s.axes.lock = .released
  · have stops : controlledStops s allAxes = grantCheck (reversalWithdrawn (stopsOf s allAxes)) := by
      unfold controlledStops
      exact congrArg grantCheck (if_pos (turning.mpr turns))
    rw [if_pos turns, stops]
    generalize stopsOf s allAxes = w at *
    exact grantCheck_idle _ waits
  · have stops : controlledStops s allAxes = grantCheck (stopsOf s allAxes) := by
      unfold controlledStops
      exact congrArg grantCheck (if_neg (mt turning.mp turns))
    rw [if_neg turns, stops, grantCheck_idle _ waits]

theorem controlledStops_all_arb (s : State) (sound : requestsSound s) :
    (controlledStops s allAxes).arb = ⟨s.arb.grants, []⟩ := by
  have arb := stopsOf_arb s sound
  rw [controlledStops_all_eq s sound]
  generalize stopsOf s allAxes = w at *
  split <;> exact arb

/-- A mast that waits with its lock not RELEASED withdraws its request. -/
theorem controlledStops_all_withdrawn (s : State) (sound : requestsSound s) (locked : s.axes.lock ≠ .released) :
    (controlledStops s allAxes).axes.mast = s.axes.mast.halted := by
  rw [controlledStops_all_eq s sound, if_neg fun h => locked h.2]
  exact stopsOf_all s .mast

/-- A mast withdrawn from a reversal engages its lock at once. -/
theorem controlledStops_all_reversal (s : State) (sound : requestsSound s) (waiting : s.axes.mast.phase = .waiting)
    (released : s.axes.lock = .released) : let u := controlledStops s allAxes
    u.axes.mast.phase = .engaging ∧ u.axes.lock = .engaging ∧ u.axes.mast.stop = some .controlled := by
  rw [controlledStops_all_eq s sound, if_pos ⟨waiting, released⟩]
  exact ⟨rfl, rfl, rfl⟩

theorem AllHalted.axis {s u : State} (h : AllHalted s u) (a : Axis) (moving : (s.axis a).phase ≠ .waiting) :
    u.axis a = (s.axis a).halted := by
  by_cases mast : a = .mast
  · subst mast
    exact h.mast moving
  · exact h.dish a mast

theorem halted_driving {x : AxisState} (phase : x.phase = .driving) : x.halted = { x with
    phase := .stopping, deadline := none, arrived := false, stop := some .controlled, next := none } := by
  simp only [AxisState.halted, phase]

theorem halted_releasing {x : AxisState} (phase : x.phase = .releasing) :
    x.halted = { x with stop := some (x.stop.getD .controlled), next := none } := by
  simp only [AxisState.halted, phase]

theorem halted_waiting {x : AxisState} (phase : x.phase = .waiting) :
    x.halted = { x with phase := .atRest, target := x.position, next := none } := by
  simp only [AxisState.halted, phase]

theorem halted_still {x : AxisState} (waiting : x.phase ≠ .waiting) (driving : x.phase ≠ .driving)
    (releasing : x.phase ≠ .releasing) : x.halted = x := by
  cases phase : x.phase <;> simp_all [AxisState.halted]

/-- A controlled stop moves nothing. -/
theorem halted_encoder (x : AxisState) : x.halted.position = x.position ∧ x.halted.encValid = x.encValid := by
  unfold AxisState.halted
  split <;> exact ⟨rfl, rfl⟩

theorem AllHalted.inWindow {s u : State} (h : AllHalted s u) : inWindow u = inWindow s := by
  have pan : u.axes.pan = s.axes.pan.halted := h.dish .pan (by decide)
  have tilt : u.axes.tilt = s.axes.tilt.halted := h.dish .tilt (by decide)
  have pol : u.axes.pol = s.axes.pol.halted := h.dish .pol (by decide)
  simp only [Machine.inWindow, pan, tilt, pol, halted_encoder]

/-! ## The dish stands (R6, R87) -/

/-- Where no level watch runs, a dish that stands changes the Stance Controller's own state alone. -/
theorem dishStands_eq (s : State) (unwatched : s.level.watch = none) : dishStands s = s.withCtl (dishStands s).ctl := by
  have level : { s.level with watch := none } = s.level := by rw [← unwatched]
  unfold dishStands State.withDish
  (repeat' split) <;> simp [State.withDishShort, State.withCtl, State.withLevel, level]

theorem dishStands_moving_ctl (s : State) (sound : s.ctl.dishState ≠ .failed) (moves : dishAtRest s = false) :
    (dishStands s).ctl = { s.ctl with
      dishState := if s.ctl.dishState = .peaking then .parked else s.ctl.dishState, dishShort := some .stop } := by
  by_cases peaking : s.ctl.dishState = .peaking <;> simp [dishStands, sound, moves, peaking, State.withDishShort]

/-! ## The quiesce starts (R87) -/

/-- The axes stopped, the search set aside. -/
def quiesceStops (s : State) : State := controlledStops (searchSetAside s) allAxes

theorem quiesceStart_eq (s : State) : quiesceStart s =
    if s.level.search.isSome = true ∨ dishAtRest s = false then dishStands (quiesceStops s) else quiesceStops s := by
  have start : quiesceStart s = if s.level.search.isSome = true then dishStands (quiesceStops s)
      else if dishAtRest s = true then quiesceStops s else dishStands (quiesceStops s) := rfl
  rw [start]
  by_cases searching : s.level.search.isSome = true
  · rw [if_pos searching, if_pos (.inl searching)]
  · cases rest : dishAtRest s <;> simp [searching]

/-- What the stops of a quiesce leave. -/
theorem quiesceStops_eq (s : State) : quiesceStops s =
    ((searchSetAside s).withAxes (quiesceStops s).axes).withArb (quiesceStops s).arb :=
  onlyDrives.eq (aside_controlledStops ..)

theorem quiesceStops_level (s : State) : (quiesceStops s).level = { s.level with search := none, watch := none } := by
  rw [quiesceStops_eq, searchSetAside_eq]
  rfl

theorem quiesceStops_ctl (s : State) : (quiesceStops s).ctl = s.ctl := by
  rw [quiesceStops_eq, searchSetAside_eq]
  rfl

/-- The start of a quiesce is its stops, and what they make of the Stance Controller's own state. -/
theorem quiesceStart_stops (s : State) : quiesceStart s = (quiesceStops s).withCtl (quiesceStart s).ctl := by
  have stands := dishStands_eq (quiesceStops s) (by rw [quiesceStops_level])
  rw [quiesceStart_eq]
  split
  · exact stands
  · rfl

theorem quiesceStart_axes (s : State) : (quiesceStart s).axes = (quiesceStops s).axes := by
  rw [quiesceStart_stops]
  rfl

/-- What the start of a quiesce writes: stance, level, open set, drives and the Stance Controller's own state. -/
theorem quiesceStart_writes (s : State) : let u := quiesceStart s
    u = (((((s.withStance (pendingStance s)).withLevel { s.level with search := none, watch := none }).withBoard
      { s.board with openSet := (searchSetAside s).board.openSet }).withAxes u.axes).withArb u.arb).withCtl u.ctl := by
  intro u
  have arb : u.arb = (quiesceStops s).arb := by
    rw [show u = _ from quiesceStart_stops s]
    rfl
  rw [show u.axes = _ from quiesceStart_axes s, arb, ← searchSetAside_eq, ← quiesceStops_eq]
  exact quiesceStart_stops s

/-- What the start of a quiesce leaves alone. -/
theorem quiesceStart_same (s : State) : let u := quiesceStart s
    u.mem = s.mem ∧ u.geo = s.geo ∧ u.limits = s.limits ∧ u.wind = s.wind ∧ u.ilk = s.ilk ∧ u.power = s.power ∧
      u.telem = s.telem ∧ u.pending = s.pending ∧ u.swap = s.swap := by
  intro u
  rw [show u = _ from quiesceStart_writes s]
  exact ⟨rfl, rfl, rfl, rfl, rfl, rfl, rfl, rfl, rfl⟩

section
variable (s : State)

theorem searchSetAside_axes : (searchSetAside s).axes = s.axes := by rw [searchSetAside_eq]; rfl

theorem searchSetAside_arb : (searchSetAside s).arb = s.arb := by rw [searchSetAside_eq]; rfl

variable (sound : requestsSound s)
include sound

theorem searchSetAside_sound : requestsSound (searchSetAside s) :=
  requestsSound_congr (searchSetAside_axes s) (searchSetAside_arb s) sound

theorem quiesceStart_arb : (quiesceStart s).arb = ⟨s.arb.grants, []⟩ := by
  rw [quiesceStart_stops]
  refine (controlledStops_all_arb _ (searchSetAside_sound s sound)).trans ?_
  rw [searchSetAside_arb]

theorem quiesceStops_halted : AllHalted s (quiesceStops s) := by
  obtain ⟨dish, waits, mast⟩ := controlledStops_all _ (searchSetAside_sound s sound)
  simp only [State.axis, searchSetAside_axes] at dish mast
  exact ⟨dish, waits, mast⟩

theorem quiesceStart_halted : AllHalted s (quiesceStart s) := by
  obtain ⟨dish, waits, mast⟩ := quiesceStops_halted s sound
  refine ⟨?_, by rw [quiesceStart_arb s sound], ?_⟩
  · simpa only [State.axis, quiesceStart_axes] using dish
  · simpa only [State.axis, quiesceStart_axes] using mast

theorem quiesceStart_withdrawn (locked : s.axes.lock ≠ .released) :
    (quiesceStart s).axes.mast = s.axes.mast.halted := by
  have stops := controlledStops_all_withdrawn _ (searchSetAside_sound s sound)
  rw [searchSetAside_axes] at stops
  rw [quiesceStart_axes]
  exact stops locked

theorem quiesceStart_reversal (waiting : s.axes.mast.phase = .waiting) (released : s.axes.lock = .released) :
    let u := quiesceStart s
    u.axes.mast.phase = .engaging ∧ u.axes.lock = .engaging ∧ u.axes.mast.stop = some .controlled := by
  have stops := controlledStops_all_reversal _ (searchSetAside_sound s sound)
  rw [searchSetAside_axes] at stops
  intro u
  rw [show u.axes = (quiesceStops s).axes from quiesceStart_axes s]
  exact stops waiting released

/-- Every axis that drove or waited has its controlled stop (R105, R107). -/
theorem quiesceStart_stopMade (a : Axis) : controlledStopMade s (quiesceStart s) a := by
  have halts := quiesceStart_halted s sound
  refine ⟨fun driving => ?_, fun waiting dish => ?_⟩
  · rw [halts.axis a (by simp [driving])]
    exact halted_driving driving
  · rw [halts.dish a dish, halted_waiting waiting, halts.waits]
    exact ⟨rfl, rfl, nofun⟩

/-- A dish that moved or searched stands (R6, R87). -/
theorem quiesceStart_dish (stops : s.level.search.isSome = true ∨ dishAtRest s = false)
    (unfailed : s.ctl.dishState ≠ .failed) : let u := quiesceStart s
    (dishAtRest u = true → u.ctl = { s.ctl with dishState := restingDish s, dishShort := none }) ∧
    (dishAtRest u = false → u.ctl = { s.ctl with
      dishState := if s.ctl.dishState = .peaking then .parked else s.ctl.dishState, dishShort := some .stop }) := by
  intro u
  have stands : u = dishStands (quiesceStops s) := (quiesceStart_eq s).trans (if_pos stops)
  have ctl := quiesceStops_ctl s
  have atRest : dishAtRest u = dishAtRest (quiesceStops s) := by
    simp only [dishAtRest, show u.axes = (quiesceStops s).axes from quiesceStart_axes s]
  have resting : restingDish (quiesceStops s) = restingDish s := by
    rw [restingDish, (quiesceStops_halted s sound).inWindow, restingDish]
  have unfailed' : (quiesceStops s).ctl.dishState ≠ .failed := ctl ▸ unfailed
  rw [atRest, stands]
  refine ⟨fun rest => ?_, fun moves => ?_⟩
  · rw [dishStands_rest _ unfailed' rest, resting, ← ctl]
    rfl
  · rw [dishStands_moving_ctl _ unfailed' moves, ctl]

end

end Sys2Proof.Machine

open Sys2Proof Sys2Proof.Machine

/-- Settles O14: each refusal is a branch of `swapRefusal`, and the quiesce starts with the search set aside, every axis
stopped, and the dish standing. -/
theorem swapChecks : Obligations.SwapChecks := by
  refine ⟨?_, fun s sound => ?_⟩
  · intro s n number p taken hw copied package busy blocked refused
    have ⟨_, idle, _⟩ := taken
    have refuses : ∀ c, swapRefusal s number p = some c → refused c := fun c check => by
      subst package copied
      exact swap_refused taken hw check
    refine ⟨fun high => refuses _ (swapRefusal_badRecord high),
      fun low empty => refuses _ (swapRefusal_emptyPackage low empty),
      fun low present held => refuses _ (swapRefusal_badState low present held),
      fun low present free invalid => refuses _ (swapRefusal_badPackage low idle free present invalid),
      fun c low free valid goal check => refuses c (swapRefusal_site low idle free valid goal check),
      fun low free valid site high => refuses _ ?_, fun low free valid site clear => ?_⟩
    · rw [swapRefusal_height low idle free valid site, if_pos ((swapInterlock_iff s p).mpr high)]
    · have check : swapRefusal s number p = none := by
        rw [swapRefusal_height low idle free valid site, if_neg (mt (swapInterlock_iff s p).mp clear)]
      exact ⟨swapTaken (popIntake s) n number p, swap_accepted taken copied package check, rfl, rfl, ⟨rfl, rfl, rfl⟩,
        rfl, rfl, rfl, rfl, rfl, rfl, rfl, rfl, rfl, rfl, rfl, rfl, rfl⟩
  · intro u searching standing
    have writes : u = _ := quiesceStart_writes s
    have halts := quiesceStart_halted s sound
    have stance : u.stance = pendingStance s := by rw [writes]; rfl
    have level : u.level = { s.level with search := none, watch := none } := by rw [writes]; rfl
    have openSet : u.board.openSet = (searchSetAside s).board.openSet := by rw [writes]; rfl
    have board : u.board = { s.board with openSet := u.board.openSet } := by rw [writes]; rfl
    obtain ⟨mem, geo, limits, wind, ilk, power, telem, pending, swap⟩ := quiesceStart_same s
    refine ⟨fun runs => stance.trans (if_pos runs), fun none => stance.trans (if_neg none), level,
      (congrArg _ openSet).trans (searchSetAside_open s), board, mem, geo, limits, wind, ilk, power, telem, pending, swap,
      quiesceStart_arb s sound, quiesceStart_stopMade s sound, fun a waiting driving releasing => ?_,
      fun a releasing => ?_, fun waiting locked => ?_,
      fun waiting released => quiesceStart_reversal s sound waiting released, fun none rest => ?_,
      fun stops unfailed => quiesceStart_dish s sound stops unfailed⟩
    · exact (halts.axis a waiting).trans (halted_still waiting driving releasing)
    · exact (halts.axis a (by simp [releasing])).trans (halted_releasing releasing)
    · have withdrawn : u.axes.mast = s.axes.mast.halted := quiesceStart_withdrawn s sound locked
      rw [withdrawn, halted_waiting waiting]
      exact ⟨rfl, rfl⟩
    · have still : ¬ (s.level.search.isSome = true ∨ dishAtRest s = false) := by
        rintro (runs | moves)
        · exact none runs
        · exact Bool.false_ne_true (moves.symm.trans rest)
      rw [show u = quiesceStops s from (quiesceStart_eq s).trans (if_neg still)]
      exact quiesceStops_ctl s

end

section
/-! PROOFS. Moves that end and begin (R98 to R105, R110, R117): what the grants and the stops leave of an axis that has no
request waiting, and O43. -/
namespace Sys2Proof.Machine

/-! ## An axis that the grants pass over (R118) -/

/-- No request of an axis waits. -/
def noRequest (s : State) (a : Axis) : Prop := ∀ q ∈ s.arb.waits, q.axis ≠ a

/-- What an operation that grants nothing to an axis leaves of it: the axis as it was, the lock too if it is the mast, no
request of it, and no grant where there was none. -/
structure PassedOver (a : Axis) (s u : State) : Prop where
  axis : u.axis a = s.axis a
  lock : a = .mast → u.axes.lock = s.axes.lock
  request : noRequest u a
  grant : noGrant s a → noGrant u a

theorem PassedOver.trans {a : Axis} {s t u : State} (h : PassedOver a s t) (k : PassedOver a t u) : PassedOver a s u :=
  ⟨k.axis.trans h.axis, fun mast => (k.lock mast).trans (h.lock mast), k.request, fun none => k.grant (h.grant none)⟩

/-- An operation that changes neither axes nor arbiter passes every axis over. -/
theorem PassedOver.of_same {a : Axis} {s u : State} (axes : u.axes = s.axes) (arb : u.arb = s.arb) (free : noRequest s a) :
    PassedOver a s u := by
  refine ⟨congrArg (Axes.get · a) axes, fun _ => congrArg Axes.lock axes, ?_, ?_⟩
  · rwa [noRequest, arb]
  · rw [noGrant, noGrant, arb]
    exact id

theorem startGranted_lock (s : State) (a : Axis) (dish : a ≠ .mast) : (startGranted s a).axes.lock = s.axes.lock := by
  cases a with
  | mast => exact absurd rfl dish
  | pan => rfl
  | tilt => rfl
  | pol => rfl

theorem grantHead_passedOver {a : Axis} (s : State) (r : Request) (rest : List Request) (other : r.axis ≠ a)
    (free : ∀ q ∈ rest, q.axis ≠ a) : PassedOver a s (grantHead s r rest) := by
  have arb : (grantHead s r rest).arb = ⟨s.arb.grants ++ [⟨r.axis, r.draw⟩], rest⟩ := startGranted_arb ..
  refine ⟨startGranted_other _ _ _ (Ne.symm other), fun mast => startGranted_lock _ _ (mast ▸ other), ?_,
    fun none g hg => ?_⟩
  · rwa [noRequest, arb]
  · rw [arb] at hg
    rcases List.mem_append.mp hg with old | new
    · exact none g old
    · rw [List.mem_singleton.mp new]
      exact other

theorem grantLoop_passedOver {a : Axis} (l : List Request) (s : State) (waits : s.arb.waits = l) (free : noRequest s a) :
    PassedOver a s (grantLoop l s) := by
  induction l generalizing s with
  | nil => exact .of_same rfl rfl free
  | cons r l ih =>
    rw [grantLoop]
    split
    · rw [noRequest, waits] at free
      have first := grantHead_passedOver s r l (free r (List.mem_cons_self ..))
        (fun q hq => free q (List.mem_cons_of_mem r hq))
      have rest : (grantHead s r l).arb.waits = l := by
        rw [grantHead, startGranted_arb]
        rfl
      exact first.trans (ih _ rest first.request)
    · exact .of_same rfl rfl free

/-- A grant check passes over an axis that has no request. -/
theorem grantCheck_passedOver {a : Axis} (s : State) (free : noRequest s a) : PassedOver a s (grantCheck s) :=
  grantLoop_passedOver _ s rfl free

/-- An axis whose grant is released has none afterwards, and is otherwise passed over by the grant check. -/
theorem releaseGrant_noGrant {a : Axis} (s : State) (free : noRequest s a) : noGrant (releaseGrant s a) a := by
  refine (grantCheck_passedOver (dropGrant s a) free).grant fun g hg => ?_
  have left : g ∈ s.arb.grants.filter (fun g => g.axis != a) := hg
  simpa using (List.mem_filter.mp left).2

theorem releaseGrant_passedOver {a : Axis} (s : State) (free : noRequest s a) : PassedOver a s (releaseGrant s a) :=
  have checked := grantCheck_passedOver (dropGrant s a) free
  ⟨checked.axis, checked.lock, checked.request, fun _ => releaseGrant_noGrant s free⟩

/-- Only a WAITING axis has a request (R98). -/
theorem requestsSound.noRequest {s : State} (sound : requestsSound s) {a : Axis} (other : (s.axis a).phase ≠ .waiting) :
    noRequest s a := fun q hq same => other (same ▸ sound.1 q hq)

/-! ## The end of a move (R101, R105, R110) -/

/-- An axis at the end of its move. -/
def AxisState.ended (x : AxisState) : AxisState := { x with
  phase := if x.faultStop then .faulted else .atRest
  target := x.endTarget
  deadline := none
  arrived := false
  stop := none
  faultStop := false
  skidding := false
  next := none }

/-- The end of the move of an axis that has no request: it stands as `AxisState.ended` says, without a grant. -/
theorem axisEnd_ended {s : State} {a : Axis} (free : noRequest s a) : let u := axisEnd s a
    u.axis a = (s.axis a).ended ∧ noGrant u a ∧ (a = .mast → u.axes.lock = s.axes.lock) := by
  have passed := releaseGrant_passedOver (s.withAxis a (s.axis a).ended) free
  refine ⟨passed.axis.trans (axis_withAxis_same ..), releaseGrant_noGrant _ free, fun mast => ?_⟩
  exact (passed.lock mast).trans (Axes.put_lock ..)

theorem standstill_stopping (s : State) (a : Axis) (dish : a ≠ .mast) (stopping : (s.axis a).phase = .stopping) :
    standstillAxis s a = axisEnd s a := by
  cases a with
  | mast => exact absurd rfl dish
  | pan => simp only [standstillAxis, stopping]
  | tilt => simp only [standstillAxis, stopping]
  | pol => simp only [standstillAxis, stopping]

theorem standstill_onTarget (s : State) (a : Axis) (dish : a ≠ .mast) (driving : (s.axis a).phase = .driving)
    (there : near a (s.axis a).target (s.axis a).position = true) : standstillAxis s a = axisEnd s a := by
  cases a with
  | mast => exact absurd rfl dish
  | pan => simp [standstillAxis, driving, there]
  | tilt => simp [standstillAxis, driving, there]
  | pol => simp [standstillAxis, driving, there]

theorem standstill_mast (s : State)
    (ends : (s.axes.mast.phase = .driving ∧ s.axes.mast.arrived = true) ∨ s.axes.mast.phase = .stopping) :
    standstillAxis s .mast = engageLock s false := by
  have mast : s.axis .mast = s.axes.mast := rfl
  rcases ends with ⟨driving, arrived⟩ | stopping
  · simp only [standstillAxis, mast, driving, arrived, if_true]
  · simp only [standstillAxis, mast, stopping]

/-- Nothing was recorded, or the axis is not at rest now: nothing is taken. -/
theorem takeRecorded_none (before s : State) (a : Axis)
    (idle : (before.axis a).next = none ∨ (s.axis a).phase ≠ .atRest) : takeRecorded before s a = s := by
  cases next : (before.axis a).next with
  | none => simp only [takeRecorded, next]
  | some r =>
    have moves : (s.axis a).phase ≠ .atRest := idle.resolve_left (by simp [next])
    simp only [takeRecorded, next]
    exact if_pos (.inr moves)

/-- A target recorded for a dish axis is taken at rest (log 50). -/
theorem takeRecorded_dish (before s : State) (a : Axis) (t : Int) (p : Priority) (dish : a ≠ .mast)
    (next : (before.axis a).next = some (t, p)) (moved : (before.axis a).inMove = true) (rest : (s.axis a).phase = .atRest) :
    takeRecorded before s a =
      if near a t (s.axis a).position then s.withAxis a { s.axis a with target := t }
      else if recordStands s a t then orLimit (axisGive s a t p) a else s := by
  simp only [takeRecorded, next]
  simp [moved, rest, dish]

/-- The deadline of a distance, rounded up to a tenth of a second (R102). -/
theorem deadlineTenths_bounds (d rate : Nat) (pos : 0 < rate) : ∃ k, deadlineTenths d rate = k + 30 ∧
    15 * d ≤ k * rate ∧ k * rate < 15 * d + rate := by
  refine ⟨(d * 15 + (rate - 1)) / rate, rfl, ?_⟩
  have euclid := Nat.div_add_mod (d * 15 + (rate - 1)) rate
  have small := Nat.mod_lt (d * 15 + (rate - 1)) pos
  rw [Nat.mul_comm] at euclid
  omega

/-! ## The events that end and begin moves (R99 to R101) -/

theorem exec_standstill (s : State) (a : Axis) :
    exec (.standstill a) s = .next (endEvent s (takeRecorded s (standstillAxis s a) a)) := rfl

theorem exec_lockReleaseEnd (s : State) (lock : s.axes.lock = .releasing) (phase : s.axes.mast.phase = .releasing) :
    exec .lockReleaseEnd s = .next (endEvent s (lockReleased s)) :=
  congrArg Host.Outcome.next (if_pos ⟨lock, phase⟩)

theorem exec_lockEngageEnd (s : State) (lock : s.axes.lock = .engaging) (phase : s.axes.mast.phase = .engaging) :
    exec .lockEngageEnd s = .next (endEvent s (takeRecorded s (lockEngaged s) .mast)) :=
  congrArg Host.Outcome.next (if_pos ⟨lock, phase⟩)

/-- A dish axis at standstill on its target (R101). -/
theorem standstill_arrived (s : State) (a : Axis) (free : noRequest s a) (dish : a ≠ .mast)
    (unrecorded : (s.axis a).next = none) (driving : (s.axis a).phase = .driving)
    (there : near a (s.axis a).target (s.axis a).position = true) (unstopped : (s.axis a).stop = none)
    (sound : (s.axis a).faultStop = false) :
    ∃ u, exec (.standstill a) s = .next (endEvent s u) ∧ (u.axis a).phase = .atRest ∧
      (u.axis a).target = (s.axis a).target ∧ (u.axis a).deadline = none ∧ noGrant u a := by
  obtain ⟨axis, grant, -⟩ := axisEnd_ended free
  refine ⟨axisEnd s a, ?_, ?_, ?_, ?_, grant⟩
  · rw [exec_standstill, standstill_onTarget s a dish driving there, takeRecorded_none _ _ _ (.inl unrecorded)]
  · rw [axis]
    simp [AxisState.ended, sound]
  · rw [axis]
    simp [AxisState.ended, AxisState.endTarget, sound, unstopped, unrecorded]
  · rw [axis]
    rfl

/-- A dish axis at standstill after a stop, with a target recorded meanwhile or none (R103, R105; log 50). -/
theorem standstill_stopped (s : State) (a : Axis) (free : noRequest s a) (dish : a ≠ .mast)
    (stopping : (s.axis a).phase = .stopping) (stop : (s.axis a).stop.isSome = true) :
    let x := s.axis a
    ∃ u, noGrant u a ∧ (u.axis a).stop = none ∧ (u.axis a).position = x.position ∧
      (u.axis a).phase = (if x.faultStop then .faulted else .atRest) ∧
      (x.faultStop = false → (u.axis a).target = x.position) ∧
      (x.next = none ∨ x.faultStop = true → exec (.standstill a) s = .next (endEvent s u)) ∧
      (∀ t p, x.next = some (t, p) → x.faultStop = false → exec (.standstill a) s = .next (endEvent s
        (if near a t x.position then u.withAxis a { u.axis a with target := t }
         else if recordStands u a t then orLimit (axisGive u a t p) a else u))) := by
  intro x
  obtain ⟨axis, grant, -⟩ := axisEnd_ended free
  have ends := standstill_stopping s a dish stopping
  have position : ((axisEnd s a).axis a).position = x.position := by
    rw [axis]
    rfl
  have phase : ((axisEnd s a).axis a).phase = if x.faultStop then .faulted else .atRest := by
    rw [axis]
    rfl
  refine ⟨axisEnd s a, grant, ?_, position, phase, fun sound => ?_, fun idle => ?_, fun t p next sound => ?_⟩
  · rw [axis]
    rfl
  · rw [axis]
    show x.endTarget = x.position
    simp [AxisState.endTarget, sound, show x.stop.isSome = true from stop]
  · rw [exec_standstill, ends, takeRecorded_none]
    refine idle.imp_right fun fault => ?_
    rw [phase, if_pos fault]
    decide
  · have rest : ((axisEnd s a).axis a).phase = .atRest := by
      rw [phase, sound]
      rfl
    have moved : (s.axis a).inMove = true := by simp [AxisState.inMove, stopping]
    rw [exec_standstill, ends, takeRecorded_dish s _ a t p dish next moved rest, position]

/-- A mast at standstill after its arrival or a stop starts its lock engage (R101, R105). -/
theorem standstill_engages (s : State)
    (ends : (s.axes.mast.phase = .driving ∧ s.axes.mast.arrived = true) ∨ s.axes.mast.phase = .stopping) :
    exec (.standstill .mast) s = .next (endEvent s (engageLock s false)) := by
  have engaging : ((engageLock s false).axis .mast).phase ≠ .atRest := by
    show (engageLock s false).axes.mast.phase ≠ .atRest
    rw [engageLock_phase]
    decide
  rw [exec_standstill, standstill_mast s ends, takeRecorded_none _ _ _ (.inr engaging)]

/-- The mast drives at the end of its lock release, under the deadline of its distance (R99, R102). -/
theorem lockReleaseEnd_drives (s : State) (lock : s.axes.lock = .releasing) (releasing : s.axes.mast.phase = .releasing)
    (unstopped : s.axes.mast.stop = none) (off : near .mast s.axes.mast.target s.axes.mast.position = false)
    (granted : grantedDraw s .mast = some (if s.axes.mast.position < s.axes.mast.target then 25 else 2)) :
    let x := s.axes.mast
    let d := (x.target - x.position).natAbs
    let rate := if x.position < x.target then 150 else 200
    ∃ u k, exec .lockReleaseEnd s = .next (endEvent s u) ∧ u.axes.mast.phase = .driving ∧
      u.axes.lock = .released ∧ u.axes.mast.deadline = some (k + 30) ∧ 15 * d ≤ k * rate ∧ k * rate < 15 * d + rate := by
  intro x d rate
  obtain ⟨k, tenths, low, high⟩ := deadlineTenths_bounds d rate (by positivity)
  have draw : drawOf .mast (decide (x.position < x.target)) = if x.position < x.target then 25 else 2 := by
    simp [drawOf]
  have speed : rateOf .mast (decide (x.position < x.target)) = rate := by
    simp [rateOf, rate]
  have drives : lockReleased s =
      (s.withLock .released).withAxis .mast ({ x with next := none }.drive .mast) := by
    have released : grantedDraw (s.withLock .released) .mast = some (drawOf .mast (decide (x.position < x.target))) := by
      rw [draw]
      exact granted
    have mast : (s.withLock .released).axes.mast = x := rfl
    simp only [lockReleased, mast, show x.stop = none from unstopped, show near .mast x.target x.position = false from off,
      released]
    rfl
  have deadline : ({ x with next := none }.drive .mast).deadline =
      some (deadlineTenths d (rateOf .mast (decide (x.position < x.target)))) := rfl
  refine ⟨lockReleased s, k, exec_lockReleaseEnd s lock releasing, ?_, ?_, ?_, low, high⟩
  · rw [drives]
    rfl
  · rw [drives]
    rfl
  · rw [drives]
    exact deadline.trans (by rw [speed, tenths])

/-- The mast ends its move at the end of its lock engage (R101, R105, R106). -/
theorem lockEngageEnd_ends (s : State) (free : noRequest s .mast) (lock : s.axes.lock = .engaging)
    (engaging : s.axes.mast.phase = .engaging) (still : s.axes.mast.skidding = false)
    (unrecorded : s.axes.mast.next = none) :
    let x := s.axes.mast
    ∃ u, exec .lockEngageEnd s = .next (endEvent s u) ∧ u.axes.lock = .engaged ∧ noGrant u .mast ∧
      u.axes.mast.phase = (if x.faultStop then .faulted else .atRest) ∧
      (x.faultStop = false → u.axes.mast.target = if x.stop.isSome then x.position else x.target) := by
  intro x
  obtain ⟨axis, grant, locked⟩ := axisEnd_ended (s := s.withLock .engaged) free
  have mast : (axisEnd (s.withLock .engaged) .mast).axes.mast = x.ended := axis
  have ends : lockEngaged s = axisEnd (s.withLock .engaged) .mast := by simp [lockEngaged, still]
  refine ⟨axisEnd (s.withLock .engaged) .mast, ?_, locked rfl, grant, ?_, fun sound => ?_⟩
  · rw [exec_lockEngageEnd s lock engaging, takeRecorded_none s _ .mast (.inl unrecorded), ends]
  · rw [mast]
    rfl
  · rw [mast]
    show x.endTarget = _
    simp [AxisState.endTarget, sound, show x.next = none from unrecorded]

/-! ## Targets given (R98, R103, R104, R108) -/

/-- What a new target makes of an axis that drives (R102, R103). -/
def AxisState.retargeted (x : AxisState) (a : Axis) (t : Int) : AxisState := { x with
  target := t, arrived := false
  deadline := some (deadlineTenths (t - x.position).natAbs (rateOf a (decide (x.position < t)))) }

section
variable (s : State) (a : Axis) (t : Int) (p : Priority) (low : travelLow a ≤ t) (high : t ≤ travelHigh a)
include low high

theorem axisGive_faulted (phase : (s.axis a).phase = .faulted) :
    axisGive s a t p = (s.withAxis a { s.axis a with target := t }, false) := by
  simp only [axisGive, phase, clampTravel_self a t low high]

theorem axisGive_recorded (phase : (s.axis a).phase = .stopping ∨ (s.axis a).phase = .engaging ∨
      ((s.axis a).phase = .releasing ∧ towardTripped s a t = false)) :
    axisGive s a t p = (s.withAxis a { s.axis a with target := t, next := some (t, p) }, false) := by
  rcases phase with stopping | engaging | ⟨releasing, free⟩
  · simp only [axisGive, stopping, clampTravel_self a t low high]
  · simp only [axisGive, engaging, clampTravel_self a t low high]
  · simp [axisGive, releasing, clampTravel_self a t low high, free]

theorem axisGive_atRest (phase : (s.axis a).phase = .atRest) : axisGive s a t p = giveAtRest s a t p := by
  simp only [axisGive, phase, clampTravel_self a t low high]

theorem axisGive_driving (phase : (s.axis a).phase = .driving)
    (free : near a t (s.axis a).position = true ∨ towardTripped s a t = false) :
    axisGive s a t p = (giveDriving s a t p, false) := by
  have unblocked : (towardTripped s a t && !near a t (s.axis a).position) = false := by
    rcases free with close | clear <;> simp [*]
  simp [axisGive, phase, clampTravel_self a t low high, unblocked]

theorem axisGive_waiting (phase : (s.axis a).phase = .waiting)
    (free : near a t (s.axis a).position = true ∨ towardTripped s a t = false) :
    axisGive s a t p = (giveWaiting s a t p, false) := by
  have unblocked : (towardTripped s a t && !near a t (s.axis a).position) = false := by
    rcases free with close | clear <;> simp [*]
  simp [axisGive, phase, clampTravel_self a t low high, unblocked]

theorem axisGive_waiting_blocked (phase : (s.axis a).phase = .waiting) (off : near a t (s.axis a).position = false)
    (tripped : towardTripped s a t = true) :
    axisGive s a t p = (immediateStop (s.withAxis a { s.axis a with target := t }) a true, true) := by
  simp [axisGive, phase, clampTravel_self a t low high, off, tripped]

end

/-- A request placed for an axis at rest, before its grant check (R98). -/
theorem giveAtRest_places (s : State) (a : Axis) (t : Int) (p : Priority) (off : near a t (s.axis a).position = false)
    (free : towardTripped s a t = false) :
    let x := s.axis a
    ∃ v, giveAtRest s a t p = (grantCheck v, false) ∧
      v.arb = { s.arb with waits := joinList ⟨a, drawOf a (decide (x.position < t)), p⟩ s.arb.waits } ∧
      v.axis a = { x with
        target := t, phase := .waiting, arrived := false, stop := none, faultStop := false, next := none } ∧
      (∀ b, b ≠ a → v.axis b = s.axis b) ∧ v.axes.lock = s.axes.lock ∧ v.stance = s.stance ∧ v.ctl = s.ctl := by
  intro x
  refine ⟨placeRequest (s.withAxis a { x with
    target := t, phase := .waiting, arrived := false, stop := none, faultStop := false, next := none })
    (requestFor s a t p), ?_, rfl, axis_withAxis_same .., fun b other => axis_withAxis_other _ _ _ _ other,
    Axes.put_lock .., rfl, rfl⟩
  simp [giveAtRest, off, free, x]

/-- A driving axis given a target within tolerance has arrived (log 43). -/
theorem giveDriving_arrives (s : State) (a : Axis) (t : Int) (p : Priority) (drives : a ≠ .mast ∨ (s.axis a).arrived = false)
    (close : near a t (s.axis a).position = true) :
    giveDriving s a t p = s.withAxis a { s.axis a with target := t, arrived := true, deadline := none } := by
  have unarrived : ¬ (a = .mast ∧ (s.axis a).arrived = true) := by
    rintro ⟨mast, arrived⟩
    rcases drives with dish | moving
    · exact dish mast
    · cases moving.symm.trans arrived
  rw [giveDriving, if_neg unarrived, if_pos close]

/-- A driving axis that need not turn round is given a new deadline (R103). -/
theorem giveDriving_retargets (s : State) (a : Axis) (t : Int) (p : Priority) (off : near a t (s.axis a).position = false)
    (onward : a ≠ .mast ∨ ((s.axis a).arrived = false ∧
      grantedDraw s .mast = some (drawOf .mast (decide ((s.axis a).position < t))))) :
    giveDriving s a t p = s.withAxis a ((s.axis a).retargeted a t) := by
  have unarrived : ¬ (a = .mast ∧ (s.axis a).arrived = true) := by
    rintro ⟨mast, arrived⟩
    rcases onward with dish | ⟨moving, -⟩
    · exact dish mast
    · cases moving.symm.trans arrived
  have straight : ¬ (a = .mast ∧ grantedDraw s .mast ≠ some (drawOf .mast (decide ((s.axis a).position < t)))) := by
    rintro ⟨mast, turns⟩
    rcases onward with dish | ⟨-, granted⟩
    · exact dish mast
    · exact turns granted
  rw [giveDriving, if_neg unarrived, if_neg (by simp [off]), if_neg straight]
  rfl

/-- The mast reverses: its grant is given up and its request placed before one grant check (R104, R120). -/
theorem giveDriving_reverses (s : State) (t : Int) (p : Priority) (off : near .mast t s.axes.mast.position = false)
    (moving : s.axes.mast.arrived = false)
    (turns : grantedDraw s .mast ≠ some (drawOf .mast (decide (s.axes.mast.position < t)))) :
    let x := s.axes.mast
    ∃ v, giveDriving s .mast t p = grantCheck v ∧
      v.arb = ⟨s.arb.grants.filter (fun g => g.axis != .mast),
        joinList ⟨.mast, drawOf .mast (decide (x.position < t)), p⟩ s.arb.waits⟩ ∧
      v.axes.mast = { x with target := t, phase := .waiting, deadline := none, arrived := false, stop := none } ∧
      (∀ b, b ≠ .mast → v.axis b = s.axis b) ∧ v.axes.lock = s.axes.lock := by
  intro x
  have reverses : giveDriving s .mast t p = reverse s t p := by
    have mast : s.axis .mast = x := rfl
    rw [giveDriving, mast, if_neg (by simp [show x.arrived = false from moving]),
      if_neg (by simp [show near .mast t x.position = false from off]), if_pos ⟨rfl, turns⟩]
  exact ⟨placeRequest (dropGrant (s.withAxis .mast
    { x with target := t, phase := .waiting, deadline := none, arrived := false, stop := none }) .mast)
    (requestFor s .mast t p), reverses, rfl, rfl, fun b other => axis_withAxis_other _ _ _ _ other, rfl⟩

/-- An axis that has withdrawn its request (R103). -/
def AxisState.withdrawn (x : AxisState) : AxisState := { x with
  phase := if x.faultStop then .faulted else .atRest
  target := x.position
  faultStop := false
  next := none }

/-- A mast that has withdrawn its request with the lock RELEASED after a reversal (log 45). -/
def AxisState.turnedBack (x : AxisState) : AxisState := { x with
  phase := .engaging, target := x.position, deadline := none, stop := some .controlled, skidding := false, next := none }

/-- A waiting axis withdraws its request; a mast whose lock a reversal left RELEASED engages it first (R103, log 45). -/
theorem withdraw_eq (s : State) (a : Axis) :
    let turning := a = .mast ∧ s.axes.lock = .released
    ∃ v, withdraw s a = grantCheck v ∧ v.arb = ⟨s.arb.grants, s.arb.waits.filter (fun q => q.axis != a)⟩ ∧
      (∀ b, b ≠ a → v.axis b = s.axis b) ∧
      (¬ turning → v.axes.lock = s.axes.lock ∧ v.axis a = (s.axis a).withdrawn) ∧
      (turning → v.axes.lock = .engaging ∧ v.axis a = (s.axis a).turnedBack) := by
  intro turning
  set w := dropRequest (s.withAxis a (s.axis a).withdrawn) a with hw
  have other : ∀ b, b ≠ a → w.axis b = s.axis b := fun b hb => axis_withAxis_other _ _ _ _ hb
  by_cases turns : turning
  · have whole : withdraw s a = grantCheck (engageLock
        (w.withAxis a { w.axis a with stop := some .controlled, faultStop := (s.axis a).faultStop }) false) :=
      congrArg grantCheck (if_pos turns)
    have ⟨mast, _⟩ := turns
    subst mast
    refine ⟨_, whole, rfl, fun b hb => ?_, fun straight => absurd turns straight, fun _ => ⟨rfl, rfl⟩⟩
    rw [← other b hb]
    cases b with
    | mast => exact absurd rfl hb
    | pan => rfl
    | tilt => rfl
    | pol => rfl
  · exact ⟨w, congrArg grantCheck (if_neg turns), rfl, other,
      fun _ => ⟨Axes.put_lock .., axis_withAxis_same ..⟩, fun back => absurd back turns⟩

theorem giveWaiting_withdraws (s : State) (a : Axis) (t : Int) (p : Priority) (close : near a t (s.axis a).position = true) :
    giveWaiting s a t p = withdraw s a := if_pos close

/-- The request of a waiting axis is placed anew for a new draw or a higher priority, in one grant check, and otherwise
kept (R103, R117; log 62). -/
theorem giveWaiting_rule (s : State) (a : Axis) (t : Int) (p : Priority) (old : Request)
    (off : near a t (s.axis a).position = false) (found : s.arb.waits.find? (fun q => q.axis == a) = some old) :
    let x := s.axis a
    let request : Request := ⟨a, drawOf a (decide (x.position < t)), p⟩
    let again := old.draw ≠ request.draw ∨ (old.priority = .ordinary ∧ p = .forcedStow)
    (again → ∃ v, giveWaiting s a t p = grantCheck v ∧
      v.arb = ⟨s.arb.grants, joinList request (s.arb.waits.filter (fun q => q.axis != a))⟩ ∧
      v.axis a = { x with target := t } ∧ (∀ b, b ≠ a → v.axis b = s.axis b) ∧ v.axes.lock = s.axes.lock) ∧
    (¬ again → giveWaiting s a t p = s.withAxis a { x with target := t }) := by
  intro x request again
  have cases : giveWaiting s a t p = if again then
      grantCheck (placeRequest (dropRequest (s.withAxis a { x with target := t }) a) request)
      else s.withAxis a { x with target := t } := by
    rw [giveWaiting, if_neg (by simp [off])]
    simp only [found]
    by_cases draw : old.draw = request.draw <;> simp [again, draw, requestFor, request, x]
  refine ⟨fun anew => ⟨_, cases.trans (if_pos anew), rfl, axis_withAxis_same .., fun b other => ?_, Axes.put_lock ..⟩,
    fun keeps => cases.trans (if_neg keeps)⟩
  exact axis_withAxis_other _ _ _ _ other

end Sys2Proof.Machine

open Sys2Proof Sys2Proof.Machine

/-- Settles O43: the end of a move from `AxisState.ended`, and a target given by the phase of its axis. -/
theorem standstillAndLock : Obligations.StandstillAndLock := by
  constructor
  · intro s a free x
    refine ⟨standstill_arrived s a free, standstill_stopped s a free, ?_, ?_, ?_⟩
    · rintro rfl ends
      exact ⟨engageLock s false, standstill_engages s ends, rfl, rfl, rfl, rfl, rfl⟩
    · rintro rfl
      exact lockReleaseEnd_drives s
    · rintro rfl
      exact lockEngageEnd_ends s free
  · intro s a t p low high x r request retargeted
    have rest := axisGive_atRest s a t p low high
    have drive := axisGive_driving s a t p low high
    have wait := axisGive_waiting s a t p low high
    refine ⟨axisGive_faulted s a t p low high, axisGive_recorded s a t p low high, fun phase close => ?_,
      fun phase off tripped => ?_, fun phase off free => ?_, fun phase drives close => ?_, fun phase off free => ?_,
      fun phase sound close => ?_, fun old phase off free found => ?_, axisGive_waiting_blocked s a t p low high⟩
    · exact (rest phase).trans (if_pos close)
    · exact (rest phase).trans ((if_neg (ne_true_of_eq_false off)).trans (if_pos tripped))
    · obtain ⟨v, gives, given⟩ := giveAtRest_places s a t p off free
      exact ⟨v, (rest phase).trans gives, given⟩
    · exact (drive phase (.inl close)).trans (congrArg (·, false) (giveDriving_arrives s a t p drives close))
    · have gives := drive phase (.inr free)
      refine ⟨fun dish => ?_, fun mast moving granted => ?_, ?_⟩
      · exact gives.trans (congrArg (·, false) (giveDriving_retargets s a t p off (.inl dish)))
      · subst mast
        exact gives.trans (congrArg (·, false) (giveDriving_retargets s .mast t p off (.inr ⟨moving, granted⟩)))
      · rintro rfl moving turns
        obtain ⟨v, reverses, given⟩ := giveDriving_reverses s t p off moving turns
        exact ⟨v, gives.trans (congrArg (·, false) reverses), given⟩
    · obtain ⟨v, withdraws, arb, other, straight, back⟩ := withdraw_eq s a
      refine ⟨v, ?_, arb, other, fun still => ?_, back⟩
      · rw [← withdraws, ← giveWaiting_withdraws s a t p close]
        exact wait phase (.inl close)
      · have withdrawn : x.withdrawn = { x with phase := .atRest, target := x.position, next := none } := by
          simp [AxisState.withdrawn, sound]
        exact withdrawn ▸ straight still
    · obtain ⟨anew, keeps⟩ := giveWaiting_rule s a t p old off found
      refine ⟨fun again => ?_, fun kept => (wait phase (.inr free)).trans (congrArg (·, false) (keeps kept))⟩
      obtain ⟨v, gives, given⟩ := anew again
      exact ⟨v, (wait phase (.inr free)).trans (congrArg (·, false) gives), given⟩

end

section
/-! PROOFS. The immediate stop (R106), and the assertion of HOLD_LINE (R27, R88, R112, R121): O31. -/
namespace Sys2Proof.Machine

/-! ## The immediate stop, phase by phase (R106) -/

/-- An axis marked for an immediate stop: what was recorded is dropped, an own fault noted. -/
def AxisState.marked (x : AxisState) (fault : Bool) : AxisState :=
  { x with faultStop := x.faultStop || fault, next := none }

/-- An axis that drove, or was stopping, as an immediate stop leaves it but for its phase. -/
def AxisState.braked (x : AxisState) (fault : Bool) : AxisState :=
  { x.marked fault with deadline := none, arrived := false, stop := some .immediate }

/-- The mast stopped so: it skids over its engaging lock. -/
def AxisState.skids (x : AxisState) (fault : Bool) : AxisState :=
  { x.braked fault with phase := .engaging, skidding := true }

section
variable {s : State} {a : Axis} (fault : Bool)

theorem immediateStop_faulted (phase : (s.axis a).phase = .faulted) : immediateStop s a fault = s := by
  simp only [immediateStop, phase]

theorem immediateStop_atRest (phase : (s.axis a).phase = .atRest) : immediateStop s a fault =
    if fault then s.withAxis a { s.axis a with phase := .faulted } else s := by
  simp only [immediateStop, phase]

theorem immediateStop_waiting (phase : (s.axis a).phase = .waiting) :
    immediateStop s a fault = withdraw (s.withAxis a ((s.axis a).marked fault)) a := by
  simp only [immediateStop, phase, AxisState.marked]

/-- In a lock phase the axis is marked and gives its grant up, and the phase runs to its end (log 19). -/
theorem immediateStop_lockPhase (phase : (s.axis a).phase = .releasing ∨ (s.axis a).phase = .engaging) :
    immediateStop s a fault =
      releaseGrant (s.withAxis a { (s.axis a).marked fault with stop := some .immediate }) a := by
  rcases phase with phase | phase <;> simp only [immediateStop, phase, AxisState.marked]

theorem immediateStop_mast (phase : s.axes.mast.phase = .driving ∨ s.axes.mast.phase = .stopping) :
    immediateStop s .mast fault =
      releaseGrant ((s.withAxis .mast (s.axes.mast.skids fault)).withLock .engaging) .mast := by
  have mast : s.axis .mast = s.axes.mast := rfl
  rcases phase with phase | phase <;> simp only [immediateStop, mast, phase] <;> rfl

/-- A dish axis that makes an immediate stop already is only marked. -/
theorem immediateStop_again (dish : a ≠ .mast) (phase : (s.axis a).phase = .stopping)
    (stop : (s.axis a).stop = some .immediate) :
    immediateStop s a fault = s.withAxis a ((s.axis a).marked fault) := by
  simp only [immediateStop, phase, stop, AxisState.marked]
  simp [dish]

theorem immediateStop_dish (dish : a ≠ .mast) (phase : (s.axis a).phase = .driving ∨
      ((s.axis a).phase = .stopping ∧ (s.axis a).stop ≠ some .immediate)) :
    immediateStop s a fault =
      releaseGrant (s.withAxis a { (s.axis a).braked fault with phase := .stopping }) a := by
  rcases phase with phase | ⟨phase, stop⟩
  · simp only [immediateStop, phase]
    rw [if_neg dish, if_neg (by simp)]
    rfl
  · simp only [immediateStop, phase]
    rw [if_neg dish, if_neg fun again => stop again.2]
    rfl

end

/-! ## Every axis stopped at once, with nothing granted and nothing waiting (R112) -/

theorem releaseGrant_empty (s : State) (a : Axis) (empty : s.arb = ⟨[], []⟩) : releaseGrant s a = s := by
  have dropped : dropGrant s a = s := by
    have arb : { s.arb with grants := s.arb.grants.filter (fun g => g.axis != a) } = s.arb := by rw [empty]; rfl
    rw [dropGrant, arb]
    rfl
  rw [releaseGrant, dropped, grantCheck_idle s (by rw [empty])]

/-- What an immediate stop that is for no fault makes of its axis, with the arbiter empty: it stands or stops. -/
structure HeldAlone (a : Axis) (s u : State) : Prop where
  arb : u.arb = ⟨[], []⟩
  others : ∀ b, b ≠ a → u.axis b = s.axis b
  lock : a ≠ .mast → u.axes.lock = s.axes.lock
  stands : (u.axis a).phase ≠ .waiting ∧ (u.axis a).phase ≠ .driving
  dish : a ≠ .mast → (s.axis a).phase = .driving → u.axis a = { (s.axis a).braked false with phase := .stopping }
  mast : a = .mast → (s.axis a).phase = .driving → u.axes.lock = .engaging ∧ u.axis a = (s.axis a).skids false

/-- A stop of an axis that does not drive. -/
theorem HeldAlone.of_idle {a : Axis} {s : State} (x : AxisState) (empty : s.arb = ⟨[], []⟩)
    (idle : (s.axis a).phase ≠ .driving) (stands : x.phase ≠ .waiting ∧ x.phase ≠ .driving) :
    HeldAlone a s (s.withAxis a x) :=
  ⟨empty, fun _ other => axis_withAxis_other _ _ _ _ other, fun _ => Axes.put_lock .., by rwa [axis_withAxis_same],
    fun _ drives => absurd drives idle, fun _ drives => absurd drives idle⟩

theorem HeldAlone.of_still {a : Axis} {s : State} (empty : s.arb = ⟨[], []⟩)
    (driving : (s.axis a).phase ≠ .driving) (waiting : (s.axis a).phase ≠ .waiting) : HeldAlone a s s := by
  simpa only [withAxis_self] using HeldAlone.of_idle (s.axis a) empty driving ⟨waiting, driving⟩

theorem HeldAlone.of_waiting {a : Axis} {s : State} (empty : s.arb = ⟨[], []⟩) (waiting : (s.axis a).phase = .waiting) :
    HeldAlone a s (immediateStop s a false) := by
  obtain ⟨v, withdraws, arb, others, straight, back⟩ := withdraw_eq (s.withAxis a ((s.axis a).marked false)) a
  have emptied : v.arb = ⟨[], []⟩ := by
    rw [arb, withAxis_arb, empty]
    rfl
  have idle : (s.axis a).phase ≠ .driving := by simp [waiting]
  rw [immediateStop_waiting false waiting, withdraws, grantCheck_idle v (by rw [emptied])]
  refine ⟨emptied, fun b other => (others b other).trans (axis_withAxis_other _ _ _ _ other), fun dish => ?_, ?_,
    fun _ drives => absurd drives idle, fun _ drives => absurd drives idle⟩
  · exact (straight fun turning => dish turning.1).1.trans (Axes.put_lock ..)
  · by_cases turning : a = .mast ∧ (s.withAxis a ((s.axis a).marked false)).axes.lock = .released
    · simp [(back turning).2, AxisState.turnedBack]
    · rw [(straight turning).2]
      unfold AxisState.withdrawn
      dsimp only
      split <;> decide

theorem HeldAlone.of_braked {a : Axis} {s : State} (empty : s.arb = ⟨[], []⟩)
    (phase : (s.axis a).phase = .driving ∨ (s.axis a).phase = .stopping) : HeldAlone a s (immediateStop s a false) := by
  by_cases mast : a = .mast
  · subst mast
    set v := (s.withAxis .mast (s.axes.mast.skids false)).withLock .engaging with hv
    rw [immediateStop_mast false phase, releaseGrant_empty v .mast empty]
    refine ⟨empty, fun b other => ?_, fun dish => absurd rfl dish, ?_, fun dish => absurd rfl dish, fun _ _ => ⟨rfl, rfl⟩⟩
    · cases b with
      | mast => exact absurd rfl other
      | pan => rfl
      | tilt => rfl
      | pol => rfl
    · show (s.axes.mast.skids false).phase ≠ .waiting ∧ (s.axes.mast.skids false).phase ≠ .driving
      simp [AxisState.skids]
  by_cases again : (s.axis a).phase = .stopping ∧ (s.axis a).stop = some .immediate
  · obtain ⟨stopping, stop⟩ := again
    rw [immediateStop_again false mast stopping stop]
    exact .of_idle _ empty (by simp [stopping]) (by simp [AxisState.marked, stopping])
  · rw [immediateStop_dish false mast (phase.imp_right fun stopping => ⟨stopping, fun stop => again ⟨stopping, stop⟩⟩),
      releaseGrant_empty (s.withAxis a _) a empty]
    refine ⟨empty, fun b other => axis_withAxis_other _ _ _ _ other, fun _ => Axes.put_lock .., ?_, fun _ _ => ?_,
      fun h => absurd h mast⟩
    · simp
    · simp

theorem immediateStop_heldAlone (s : State) (a : Axis) (empty : s.arb = ⟨[], []⟩) :
    HeldAlone a s (immediateStop s a false) := by
  cases phase : (s.axis a).phase with
  | atRest =>
    exact immediateStop_atRest false phase ▸ .of_still empty (by simp [phase]) (by simp [phase])
  | faulted =>
    rw [immediateStop_faulted false phase]
    exact .of_still empty (by simp [phase]) (by simp [phase])
  | waiting => exact .of_waiting empty phase
  | releasing =>
    rw [immediateStop_lockPhase false (.inl phase), releaseGrant_empty (s.withAxis a _) a empty]
    exact .of_idle _ empty (by simp [phase]) (by simp [phase, AxisState.marked])
  | engaging =>
    rw [immediateStop_lockPhase false (.inr phase), releaseGrant_empty (s.withAxis a _) a empty]
    exact .of_idle _ empty (by simp [phase]) (by simp [phase, AxisState.marked])
  | stopping => exact .of_braked empty (.inr phase)
  | driving => exact .of_braked empty (.inl phase)

/-- What immediate stops of some axes make of the axes and the lock, with the arbiter empty. -/
structure AxesHeld (l : List Axis) (s u : State) : Prop where
  arb : u.arb = ⟨[], []⟩
  others : ∀ a, a ∉ l → u.axis a = s.axis a
  lock : .mast ∉ l → u.axes.lock = s.axes.lock
  stands : ∀ a ∈ l, (u.axis a).phase ≠ .waiting ∧ (u.axis a).phase ≠ .driving
  dish : ∀ a ∈ l, a ≠ .mast → (s.axis a).phase = .driving →
    u.axis a = { (s.axis a).braked false with phase := .stopping }
  mast : .mast ∈ l → (s.axis .mast).phase = .driving →
    u.axes.lock = .engaging ∧ u.axis .mast = (s.axis .mast).skids false

theorem foldl_immediateStop_held (l : List Axis) (distinct : l.Nodup) (s : State) (empty : s.arb = ⟨[], []⟩) :
    AxesHeld l s (l.foldl (fun t a => immediateStop t a false) s) := by
  induction l generalizing s with
  | nil => exact ⟨empty, fun _ _ => rfl, fun _ => rfl, nofun, nofun, nofun⟩
  | cons a l ih =>
    obtain ⟨fresh, rest⟩ := List.nodup_cons.mp distinct
    have first := immediateStop_heldAlone s a empty
    rw [List.foldl_cons]
    generalize immediateStop s a false = v at *
    have later := ih rest v first.arb
    generalize l.foldl (fun t a => immediateStop t a false) v = u at *
    have own : u.axis a = v.axis a := later.others a fresh
    have other : ∀ b ∈ l, v.axis b = s.axis b := fun b hb => first.others b fun same => fresh (same ▸ hb)
    refine ⟨later.arb, fun b hb => ?_, fun hm => ?_, fun b hb => ?_, fun b hb dish driving => ?_, fun hm driving => ?_⟩
    · obtain ⟨apart, out⟩ := List.ne_and_not_mem_of_not_mem_cons hb
      exact (later.others b out).trans (first.others b apart)
    · obtain ⟨apart, out⟩ := List.ne_and_not_mem_of_not_mem_cons hm
      exact (later.lock out).trans (first.lock (Ne.symm apart))
    · rcases List.mem_cons.mp hb with rfl | inside
      · exact own ▸ first.stands
      · exact later.stands b inside
    · rcases List.mem_cons.mp hb with rfl | inside
      · exact own.trans (first.dish dish driving)
      · rw [← other b inside] at driving ⊢
        exact later.dish b inside dish driving
    · rcases List.mem_cons.mp hm with rfl | inside
      · obtain ⟨lock, skids⟩ := first.mast rfl driving
        exact ⟨(later.lock fresh).trans lock, own.trans skids⟩
      · rw [← other .mast inside] at driving ⊢
        exact later.mast inside driving

theorem holdAxes_drives (s : State) : onlyDrives s (holdAxes s) :=
  aside_foldl _ (fun t a => aside_immediateStop t a false) allAxes (s.withArb ⟨[], []⟩)

/-- HOLD_LINE empties the arbiter and stops every axis (R112). -/
theorem holdAxes_held (s : State) : AxesHeld allAxes (s.withArb ⟨[], []⟩) (holdAxes s) :=
  foldl_immediateStop_held allAxes (by decide) (s.withArb ⟨[], []⟩) rfl

/-! ## The stance under HOLD_LINE (R27) -/

/-- The search ended and the open PEAK with it, peak pending kept for an AIM whose search is still to come. -/
def holdCommands (s : State) : State :=
  let s1 := endWhere (stopSearch s .abandoned true) (ofKinds [.peak]) .halted
  if aimSearchOpen s1 then s1 else s1.withPeakPending false

theorem holdStance_eq (before s : State) : holdStance before s =
    if before.level.search.isSome || !dishAtRest before then dishStands (holdCommands s) else holdCommands s := rfl

theorem stopSearch_keeping (s : State) (o : SearchOutcome) : (stopSearch s o true).stance = s.stance := by
  obtain ⟨-, -, -, -, told, -⟩ := tellSearch_same s o
  rw [← told, stopSearch, dropSearch]
  split <;> rfl

/-- What the commands ended by HOLD_LINE leave alone. -/
theorem holdCommands_same (s : State) : let u := holdCommands s
    u.axes = s.axes ∧ u.arb = s.arb ∧ u.ilk = s.ilk ∧ u.ctl = s.ctl ∧ u.level.search = none := by
  obtain ⟨-, -, -, -, ctl, -, -, axes, arb, -, ilk, -⟩ := stopSearch_same s .abandoned true
  obtain ⟨-, -, -, -, ctl', -, level', -, axes', arb', -, ilk', -⟩ :=
    endWhere_same (stopSearch s .abandoned true) (ofKinds [.peak]) .halted
  have search := stopSearch_search s .abandoned true
  unfold holdCommands
  dsimp only
  split <;> simp [*]

theorem ofKinds_peak (c : OpenCommand) : ofKinds [.peak] c = true ↔ c.kind = .peak := by simp [ofKinds]

/-- A search told to its commands, and an open PEAK ended, leave an open AIM with peak-after as it is (R13). -/
theorem aimSearchOpen_ended (s : State) (hs : (s.board.openSet.map (·.slot)).Nodup) :
    aimSearchOpen (endWhere (stopSearch s .abandoned true) (ofKinds [.peak]) .halted) = aimSearchOpen s := by
  obtain ⟨f, opened, told⟩ := stopSearch_openSet s .abandoned true
  have slots : ((stopSearch s .abandoned true).board.openSet.map (·.slot)).Nodup := by
    rw [opened, map_slot_told told]
    exact hs
  rw [aimSearchOpen, endWhere_openSet _ _ _ slots, opened, List.any_filter, List.any_map, aimSearchOpen]
  refine List.any_congr rfl fun c => ?_
  obtain ⟨-, kind, after, -⟩ := told c
  rw [Function.comp, ofKinds_told told, kind, after]
  cases k : c.kind <;> simp [ofKinds, k]

theorem holdCommands_stance (s : State) (hs : (s.board.openSet.map (·.slot)).Nodup) : (holdCommands s).stance =
    { s.stance with peakPending :=
      s.stance.peakPending && s.board.openSet.any (fun c => c.kind == .aim && c.peakAfter) } := by
  obtain ⟨-, -, -, stance, -⟩ := endWhere_same (stopSearch s .abandoned true) (ofKinds [.peak]) .halted
  have aims := aimSearchOpen_ended s hs
  rw [stopSearch_keeping] at stance
  rw [show s.board.openSet.any _ = aimSearchOpen s from rfl, ← aims, holdCommands]
  dsimp only
  split
  next waits => rw [stance, waits, Bool.and_true]
  next idle => rw [withPeakPending_stance, stance, eq_false_of_ne_true idle, Bool.and_false]

theorem holdCommands_peak (s : State) (hw : Memory.wf s.mem = true) (hs : (s.board.openSet.map (·.slot)).Nodup) :
    (∀ c ∈ s.board.openSet, c.kind = .peak → Answered (holdCommands s) c.slot 19) ∧
      ∀ c ∈ (holdCommands s).board.openSet, c.kind ≠ .peak := by
  obtain ⟨f, opened, told⟩ := stopSearch_openSet s .abandoned true
  obtain ⟨-, mem, -⟩ := stopSearch_same s .abandoned true
  have ended := (endWhere_ended (stopSearch s .abandoned true) (ofKinds [.peak]) .halted (mem ▸ hw)).1
  have left := endWhere_openSet (stopSearch s .abandoned true) (ofKinds [.peak]) .halted (by
    rw [opened, map_slot_told told]
    exact hs)
  have board : (holdCommands s).board = (endWhere (stopSearch s .abandoned true) (ofKinds [.peak]) .halted).board := by
    unfold holdCommands
    dsimp only
    split <;> rfl
  have bytes : (holdCommands s).mem = (endWhere (stopSearch s .abandoned true) (ofKinds [.peak]) .halted).mem := by
    unfold holdCommands
    dsimp only
    split <;> rfl
  refine ⟨fun c hc peak => ?_, fun c hc => ?_⟩
  · have answered := ended (f c) (opened ▸ List.mem_map_of_mem hc) (by rw [ofKinds_told told, ofKinds_peak, peak])
    rw [(told c).1] at answered
    unfold Answered at answered ⊢
    rwa [board, bytes]
  · rw [board, left] at hc
    simpa [ofKinds] using (List.mem_filter.mp hc).2

/-- What a dish that may be stopping leaves alone. -/
theorem holdStance_same (before s : State) : let u := holdStance before s
    let v := holdCommands s
    u.axes = v.axes ∧ u.arb = v.arb ∧ u.ilk = v.ilk ∧ u.stance = v.stance ∧ u.level.search = v.level.search ∧
      u.board = v.board ∧ u.mem = v.mem ∧ u.ctl.mode = v.ctl.mode := by
  dsimp only
  rw [holdStance_eq]
  split
  · obtain ⟨axes, arb, mem, board, -⟩ := dishStands_same (holdCommands s)
    obtain ⟨d, x, ctl⟩ := dishStands_ctl (holdCommands s)
    exact ⟨axes, arb, dishStands_ilk _, dishStands_stance _, dishStands_search _, board, mem, by rw [ctl]⟩
  · exact ⟨rfl, rfl, rfl, rfl, rfl, rfl, rfl, rfl⟩

theorem exec_holdLineAssert (s : State) (run : running s = true) (settled : s.power.phase ≠ .settle)
    (free : s.ilk.lines.hold = false) :
    let t := s.withLines { s.ilk.lines with hold := true }
    exec .holdLineAssert s = .next (endEvent s
      (if t.swap.phase = .quiesce then holdAxes t else holdStance t (holdAxes t))) := by
  have differs : { s.ilk.lines with hold := true } ≠ s.ilk.lines := fun same => by
    have hold : true = s.ilk.lines.hold := congrArg Lines.hold same
    rw [free] at hold
    cases hold
  refine congrArg Host.Outcome.next ?_
  rw [lineEvent, if_neg (by tauto)]
  dsimp only
  rw [if_pos run]

end Sys2Proof.Machine

open Sys2Proof Sys2Proof.Machine

/-- Settles O31: the arbiter is emptied and every axis makes an immediate stop; outside an exchange the search and the open
PEAK end besides. -/
theorem holdStops : Obligations.HoldStops := by
  rintro s ⟨hw, -, hs, -⟩ run settled free
  set t := s.withLines { s.ilk.lines with hold := true } with ht
  have drives := holdAxes_drives t
  have held := holdAxes_held t
  have event : exec .holdLineAssert s = .next (endEvent s
      (if t.swap.phase = .quiesce then holdAxes t else holdStance t (holdAxes t))) :=
    exec_holdLineAssert s run settled free
  generalize holdAxes t = v at *
  set u := if t.swap.phase = .quiesce then v else holdStance t v with hu
  obtain ⟨axes, arb, ilk, ctl, search⟩ := holdCommands_same v
  obtain ⟨axes', arb', ilk', stance', search', board', mem', mode'⟩ := holdStance_same t v
  obtain ⟨uaxes, uarb, uilk⟩ : u.axes = v.axes ∧ u.arb = v.arb ∧ u.ilk = t.ilk := by
    rw [hu, ← drives.ilk]
    split
    · exact ⟨rfl, rfl, rfl⟩
    · exact ⟨axes'.trans axes, arb'.trans arb, ilk'.trans ilk⟩
  have axis : ∀ a, u.axis a = v.axis a := fun a => congrArg (Axes.get · a) uaxes
  refine ⟨u, event, by rw [uilk]; rfl, by rw [uilk]; rfl, uarb.trans held.arb, fun a => ?_, fun a dish driving => ?_,
    fun driving => ?_, fun idle => ?_, fun quiesce => ?_⟩
  · exact axis a ▸ held.stands a (mem_allAxes a)
  · rw [axis, held.dish a (mem_allAxes a) dish driving]
    show { (s.axis a).braked false with phase := .stopping } = _
    simp [AxisState.braked, AxisState.marked]
  · obtain ⟨lock, skids⟩ := held.mast (mem_allAxes _) driving
    rw [uaxes]
    refine ⟨lock, skids.trans ?_⟩
    show s.axes.mast.skids false = _
    simp [AxisState.skids, AxisState.braked, AxisState.marked]
  · have branch : u = holdStance t v := if_neg (by rw [show t.swap = s.swap from rfl, idle]; decide)
    have slots : (v.board.openSet.map (·.slot)).Nodup := drives.board ▸ hs
    obtain ⟨answered, left⟩ := holdCommands_peak v (drives.mem ▸ hw) slots
    rw [drives.board] at answered
    rw [branch, board', mode', ctl, drives.ctl]
    refine ⟨search'.trans search, ?_, rfl, fun c hc peak => ?_, left⟩
    · rw [stance', holdCommands_stance v slots, drives.stance, drives.board]
      rfl
    · have told := answered c hc peak
      unfold Answered at told ⊢
      rwa [board', mem']
  · have branch : u = v := if_pos quiesce
    rw [branch]
    exact ⟨drives.stance, drives.ctl, drives.level, drives.swap, drives.board, drives.mem⟩

end

section
/-! PROOFS. Encoder readings (R7, R11, R97, R100, R109, R152, R166): O40. -/
namespace Sys2Proof.Machine

/-! ## The reading as the position (R97, R109, R152) -/

/-- An axis as a valid reading leaves it; the first of WARM_UP is the target too (R166). -/
def AxisState.read (x : AxisState) (v : Int) (first : Bool) : AxisState := { x with
  position := v, encValid := true, everValid := true, lastValid := v, target := if first then v else x.target }

/-- The lamp as a reading of an axis leaves it (R152). -/
def litPower (s : State) (a : Axis) (v : Int) : Power :=
  if a = .mast then { s.power with mastUpLamp := decide (20 < v) } else s.power

theorem putReading_eq (s : State) (a : Axis) (v : Int) : putReading s a v =
    (s.withAxis a ((s.axis a).read v (s.power.phase == .warmUp && !(s.axis a).everValid))).withPower (litPower s a v) := by
  cases a <;> rfl

theorem exec_reading (s : State) (a : Axis) (v : Int) (c : Instr)
    (reading : c = .encoderReading a v ∨ c = .encoderValidReturn a v) (settled : s.power.phase ≠ .settle)
    (on : s.ctl.mode ≠ .standby ∨ s.power.standby = .waking) : exec c s = .next (takeEncoder s a v) := by
  have sensing : sensorsOff s = false := by
    rcases on with awake | waking <;> simp [sensorsOff, *]
  rcases reading with rfl | rfl <;> exact congrArg Host.Outcome.next (if_neg (ne_true_of_eq_false sensing))

theorem kept_mastArrival (s : State) (old : Int) : (mastArrival s old).kept = s.kept := by
  unfold mastArrival
  split
  · exact kept_withAxis _ _ _ rfl
  · rfl

theorem kept_readingMoves (s : State) (a : Axis) (old : Int) : (readingMoves s a old).kept = s.kept := by
  unfold readingMoves
  split
  · rw [kept_nestCrossings, kept_mastArrival]
  · rfl

/-- What a reading shows of the encoders. -/
theorem putReading_sensed (s : State) (a : Axis) (v : Int) :
    (putReading s a v).kept.axis a = (v, true, true, v) ∧ ∀ b, b ≠ a → (putReading s a v).kept.axis b = s.kept.axis b := by
  refine ⟨?_, fun b other => ?_⟩
  · rw [← sensed_axis, putReading_eq]
    exact congrArg AxisState.sensed (axis_withAxis_same ..)
  · rw [← sensed_axis, ← sensed_axis, putReading_eq]
    exact congrArg AxisState.sensed (axis_withAxis_other _ _ _ _ other)

/-! ## Reports and header writes leave the drives alone (R139, R162) -/

theorem swapEarlyEnd_drives (s : State) (code : Code) :
    (swapEarlyEnd s code).axes = s.axes ∧ (swapEarlyEnd s code).arb = s.arb := by
  unfold swapEarlyEnd completeSwap
  dsimp only
  (repeat' split) <;> simp

theorem putFault_arb (s : State) (f : FaultId) : (putFault s f).arb = s.arb := by
  unfold putFault makeRoom
  dsimp only
  (repeat' split) <;> rfl

theorem reportFault_drives (s : State) (f : FaultId) :
    (reportFault s f).axes = s.axes ∧ (reportFault s f).arb = s.arb := by
  obtain ⟨axes, arb⟩ := swapEarlyEnd_drives (putFault s f) .faulted
  unfold reportFault
  split
  · exact ⟨rfl, rfl⟩
  · exact ⟨axes.trans (putFault_axes s f), arb.trans (putFault_arb s f)⟩

theorem updateHeader_same (before s : State) :
    (updateHeader before s).axes = s.axes ∧ (updateHeader before s).ilk = s.ilk := by
  unfold updateHeader updateHeaderWith
  split <;> exact ⟨rfl, rfl⟩

/-! ## The end of WARM_UP (R166) -/

theorem sensorsValid_iff (s : State) :
    sensorsValid s = true ↔ (∀ a, (s.axis a).encValid = true) ∧ s.ilk.inclValid = true := by
  rw [sensorsValid, Bool.and_eq_true, List.all_eq_true]
  exact and_congr_left' ⟨fun all a => all a (mem_allAxes a), fun all a _ => all a⟩

/-- Where every sensor is valid, the end of WARM_UP records the switches and starts the priming. -/
def warmUpClear (s : State) : State :=
  startPriming ((s.withAxes { s.axes with tripped := s.axes.contacts }).withPower { s.power with phase := .priming })

theorem warmUpEnded_clear (s : State) (valid : sensorsValid s = true) : warmUpEnded s = warmUpClear s := by
  obtain ⟨encoders, incl⟩ := (sensorsValid_iff s).mp valid
  have axes : allAxes.foldl warmAxis s = s := by
    have step : ∀ a, warmAxis s a = s := fun a => if_pos (encoders a)
    simp only [allAxes, List.foldl, step]
  rw [warmUpEnded, axes, warmIncl, if_pos incl]
  rfl

theorem kept_withWind (s : State) (w : Wind) : (s.withWind w).kept = { s.kept with wind := w } := rfl

/-- A priming that starts writes the Wind Monitor, and reports the loss of an ANEMO_OK that is low (R133). -/
theorem startPriming_rule (s : State) : let u := startPriming s
    u.kept = { s.kept with wind := u.wind } ∧ u.axes = s.axes ∧
      u.wind.running = true ∧ u.wind.priming = true ∧ u.wind.window = [] ∧ (s.wind.anemoOk = true → u.ilk = s.ilk) := by
  dsimp only
  unfold startPriming primingLoss
  dsimp only
  split
  · exact ⟨kept_withWind .., rfl, rfl, rfl, rfl, fun _ => rfl⟩
  next low =>
    set w : Wind := { s.wind with
      running := true, priming := true, primingLost := false, window := [], anem := .sampling, holdTimer := none
      refill := 0, lowInSecond := !s.wind.anemoOk } with hw
    have kept := kept_reportFault (s.withWind w) (.sensor .anemo)
    have wind : (reportFault (s.withWind w) (.sensor .anemo)).wind = w := congrArg Kept.wind kept
    refine ⟨?_, (reportFault_drives ..).1, ?_, ?_, ?_, fun ok => absurd ok low⟩
    · rw [kept_withWind, kept, kept_withWind, withWind_wind]
    · rw [withWind_wind, wind]
    · rw [withWind_wind, wind]
    · rw [withWind_wind, wind]

/-! ## A reading before READY, in standby, or of a running module (R97, R166) -/

/-- The reading that ends WARM_UP. -/
abbrev readingEnds (s : State) (a : Axis) : Prop :=
  running s = false ∧ s.power.phase = .warmUp ∧ s.ilk.inclValid = true ∧ ∀ b, b ≠ a → (s.axis b).encValid = true

theorem putReading_phase (s : State) (a : Axis) (v : Int) : (putReading s a v).power.phase = s.power.phase := by
  rw [putReading_eq, withPower_power, litPower]
  split <;> rfl

theorem putReading_valid (s : State) (a : Axis) (v : Int) : sensorsValid (putReading s a v) = true ↔
    s.ilk.inclValid = true ∧ ∀ b, b ≠ a → (s.axis b).encValid = true := by
  have incl : (putReading s a v).ilk = s.ilk := by rw [putReading_eq]; rfl
  obtain ⟨own, others⟩ := putReading_sensed s a v
  have valid : ∀ (u : State) b, (u.axis b).encValid = (u.kept.axis b).2.1 := fun u b => by rw [← sensed_axis]; rfl
  rw [sensorsValid_iff, incl, and_comm]
  refine and_congr_right' ⟨fun all b other => ?_, fun rest b => ?_⟩
  · rw [valid, ← others b other, ← valid]
    exact all b
  · by_cases same : b = a
    · rw [same, valid, own]
    · rw [valid, others b same, ← valid]
      exact rest b same

theorem warmUpReading_ends (s : State) (a : Axis) (v : Int) (ends : readingEnds s a) :
    warmUpReading (putReading s a v) = warmUpClear (putReading s a v) := by
  obtain ⟨-, warm, sensors⟩ := ends
  have valid := (putReading_valid s a v).mpr sensors
  rw [warmUpReading, if_pos ⟨(putReading_phase s a v).trans warm, valid⟩, warmUpEnded_clear _ valid]

theorem warmUpReading_stays (s : State) (a : Axis) (v : Int) (stopped : running s = false) (stays : ¬ readingEnds s a) :
    warmUpReading (putReading s a v) = putReading s a v := by
  refine if_neg fun ends => stays ⟨stopped, ?_, (putReading_valid s a v).mp ends.2⟩
  exact (putReading_phase s a v).symm.trans ends.1

/-- A reading that does not end WARM_UP changes nothing of what is kept but the position and the lamp. -/
theorem takeEncoder_stays (s : State) (a : Axis) (v : Int) (stays : ¬ readingEnds s a) :
    (takeEncoder s a v).kept = (putReading s a v).kept := by
  unfold takeEncoder
  dsimp only
  split
  · rw [kept_endEvent, kept_readingMoves]
  next stopped => rw [kept_updateHeader, warmUpReading_stays s a v (eq_false_of_ne_true stopped) stays]

theorem takeEncoder_stopped (s : State) (a : Axis) (v : Int) (stopped : running s = false) :
    takeEncoder s a v = updateHeader s (warmUpReading (putReading s a v)) := if_neg (ne_true_of_eq_false stopped)

/-- The reading that ends WARM_UP. -/
theorem takeEncoder_ends (s : State) (a : Axis) (v : Int) (ends : readingEnds s a) : let t := takeEncoder s a v
    t.kept = { (putReading s a v).kept with
      tripped := s.axes.contacts, power := { litPower s a v with phase := .priming }, wind := t.wind } ∧
    t.wind.running = true ∧ t.wind.priming = true ∧ t.wind.window = [] ∧
    (s.wind.anemoOk = true → t.ilk.faults = s.ilk.faults) := by
  set r := putReading s a v with hr
  set w := (r.withAxes { r.axes with tripped := r.axes.contacts }).withPower { r.power with phase := .priming } with hw
  have whole : takeEncoder s a v = updateHeader s (startPriming w) := by
    rw [takeEncoder_stopped s a v ends.1, warmUpReading_ends s a v ends]
    rfl
  have wind : (takeEncoder s a v).wind = (startPriming w).wind := by
    rw [whole]
    exact congrArg Kept.wind (kept_updateHeader ..)
  have ilk : (takeEncoder s a v).ilk = (startPriming w).ilk := by
    rw [whole]
    exact (updateHeader_same ..).2
  have power : r.power = litPower s a v := by rw [hr, putReading_eq, withPower_power]
  have contacts : r.axes.contacts = s.axes.contacts := by
    rw [hr, putReading_eq]
    exact Axes.put_contacts ..
  have same : w.wind = s.wind ∧ w.ilk = s.ilk := by
    rw [hw, hr, putReading_eq]
    exact ⟨rfl, rfl⟩
  obtain ⟨kept, -, runs, primes, window, quiet⟩ := startPriming_rule w
  rw [same.1, same.2] at quiet
  dsimp only
  rw [wind, ilk]
  refine ⟨?_, runs, primes, window, fun ok => by rw [quiet ok]⟩
  rw [whole, kept_updateHeader, kept, ← power, ← contacts]
  rfl

theorem warmUpClear_axis (s : State) (a : Axis) : (warmUpClear s).axis a = s.axis a := by
  obtain ⟨-, axes, -⟩ :=
    startPriming_rule ((s.withAxes { s.axes with tripped := s.axes.contacts }).withPower { s.power with phase := .priming })
  refine (congrArg (Axes.get · a) axes).trans ?_
  cases a <;> rfl

/-- The first reading of WARM_UP is the target too (R166). -/
theorem takeEncoder_first (s : State) (a : Axis) (v : Int) (stopped : running s = false) (warm : s.power.phase = .warmUp)
    (first : (s.axis a).everValid = false) : ((takeEncoder s a v).axis a).target = v := by
  have target : ((putReading s a v).axis a).target = v := by
    rw [putReading_eq, warm, first]
    exact congrArg AxisState.target (axis_withAxis_same ..)
  have axis : (takeEncoder s a v).axis a = (warmUpReading (putReading s a v)).axis a := by
    rw [takeEncoder_stopped s a v stopped]
    exact congrArg (Axes.get · a) (updateHeader_same ..).1
  rw [axis]
  by_cases ends : readingEnds s a
  · rw [warmUpReading_ends s a v ends, warmUpClear_axis, target]
  · rw [warmUpReading_stays s a v stopped ends, target]

theorem sensed_read {s t : State} {a : Axis} {v : Int} (shown : ∀ b, t.kept.axis b = (putReading s a v).kept.axis b) :
    (t.axis a).position = v ∧ (t.axis a).encValid = true ∧ (t.axis a).everValid = true ∧ (t.axis a).lastValid = v ∧
    ∀ b, b ≠ a → (t.axis b).position = (s.axis b).position ∧ (t.axis b).encValid = (s.axis b).encValid := by
  obtain ⟨own, others⟩ := putReading_sensed s a v
  have mine : (t.axis a).sensed = (v, true, true, v) := by rw [sensed_axis, shown, own]
  have theirs : ∀ b, b ≠ a → (t.axis b).sensed = (s.axis b).sensed := fun b other => by
    rw [sensed_axis, sensed_axis, shown, others b other]
  simp only [AxisState.sensed, Prod.mk.injEq] at mine theirs
  obtain ⟨position, encValid, everValid, lastValid⟩ := mine
  refine ⟨position, encValid, everValid, lastValid, fun b other => ?_⟩
  obtain ⟨position, encValid, -⟩ := theirs b other
  exact ⟨position, encValid⟩

/-- What a reading shows of the encoders stands after its event. -/
theorem takeEncoder_axis (s : State) (a : Axis) (v : Int) (b : Axis) :
    (takeEncoder s a v).kept.axis b = (putReading s a v).kept.axis b := by
  by_cases e : readingEnds s a
  · obtain ⟨kept, -⟩ := takeEncoder_ends s a v e
    rw [kept]
    cases b <;> rfl
  · exact congrArg (Kept.axis · b) (takeEncoder_stays s a v e)

theorem takeEncoder_sensed (s : State) (a : Axis) (v : Int) : let t := takeEncoder s a v
    (t.axis a).position = v ∧ (t.axis a).encValid = true ∧ (t.axis a).everValid = true ∧ (t.axis a).lastValid = v ∧
    ∀ b, b ≠ a → (t.axis b).position = (s.axis b).position ∧ (t.axis b).encValid = (s.axis b).encValid :=
  sensed_read (takeEncoder_axis s a v)

theorem takeEncoder_surroundings (s : State) (a : Axis) (v : Int) : let t := takeEncoder s a v
    t.limits = s.limits ∧ t.geo.fix = s.geo.fix ∧ t.ilk.lines = s.ilk.lines ∧ t.board.intake = s.board.intake := by
  have read : (putReading s a v).kept.limits = s.limits ∧ (putReading s a v).kept.fix = s.geo.fix ∧
      (putReading s a v).kept.lines = s.ilk.lines ∧ (putReading s a v).kept.intake = s.board.intake := by
    rw [putReading_eq]
    exact ⟨rfl, rfl, rfl, rfl⟩
  obtain ⟨limits, fix, lines, intake⟩ := read
  by_cases e : readingEnds s a
  · obtain ⟨kept, -⟩ := takeEncoder_ends s a v e
    exact ⟨(congrArg Kept.limits kept).trans limits, (congrArg Kept.fix kept).trans fix,
      (congrArg Kept.lines kept).trans lines, (congrArg Kept.intake kept).trans intake⟩
  · have kept := takeEncoder_stays s a v e
    exact ⟨(congrArg Kept.limits kept).trans limits, (congrArg Kept.fix kept).trans fix,
      (congrArg Kept.lines kept).trans lines, (congrArg Kept.intake kept).trans intake⟩

/-! ## The mast's reading of a running module (R7, R11, R100) -/

/-- A reading takes the mast to its target, or past it (log 20). -/
abbrev mastMeets (s : State) (v : Int) : Prop :=
  let x := s.axes.mast
  x.phase = .driving ∧ x.arrived = false ∧ ((x.target - v).natAbs ≤ 20 ∨
    (extension s < x.target ∧ x.target < v) ∨ (v < x.target ∧ x.target < extension s))

/-- The mast and its lamp as a reading leaves them, before the nest crossings (R100). -/
def mastRead (s : State) (v : Int) : State :=
  let x := s.axes.mast
  let read := { x with position := v, encValid := true, everValid := true, lastValid := v }
  (s.withAxes { s.axes with mast := if mastMeets s v then { read with arrived := true, deadline := none } else read }
    ).withPower { s.power with mastUpLamp := decide (20 < v) }

/-- From READY on a reading is the position alone, and no target (R166). -/
theorem putReading_running (s : State) (v : Int) (done : s.power.phase = .done) : putReading s .mast v =
    (s.withAxis .mast (s.axes.mast.read v false)).withPower { s.power with mastUpLamp := decide (20 < v) } := by
  rw [putReading_eq, done]
  rfl

theorem mastArrives_iff (s : State) (v : Int) (done : s.power.phase = .done) :
    mastArrives (putReading s .mast v) (extension s) = true ↔ mastMeets s v := by
  rw [putReading_running s v done]
  simp [mastArrives, extension, mastMeets, mastNear_iff, State.withAxis, State.withPower, AxisState.read, Axes.put]
  omega

theorem mastArrival_read (s : State) (v : Int) (done : s.power.phase = .done) :
    mastArrival (putReading s .mast v) (extension s) = mastRead s v := by
  have meets := mastArrives_iff s v done
  unfold mastArrival mastRead
  dsimp only
  by_cases m : mastMeets s v
  · rw [if_pos (meets.mpr m), if_pos m, putReading_running s v done]
    rfl
  · rw [if_neg (mt meets.mp m), if_neg m, putReading_running s v done]
    rfl

theorem mastRead_axis (s : State) (v : Int) (a : Axis) (dish : a ≠ .mast) : (mastRead s v).axis a = s.axis a := by
  cases a with
  | mast => exact absurd rfl dish
  | pan => rfl
  | tilt => rfl
  | pol => rfl

theorem mastRead_extension (s : State) (v : Int) : extension (mastRead s v) = v := by
  by_cases meets : mastMeets s v
  · exact congrArg AxisState.position (if_pos meets)
  · exact congrArg AxisState.position (if_neg meets)

theorem mastRead_mastPhase (s : State) (v : Int) : (mastRead s v).axes.mast.phase = s.axes.mast.phase := by
  by_cases meets : mastMeets s v
  · exact (congrArg AxisState.phase (if_pos meets)).trans rfl
  · exact (congrArg AxisState.phase (if_neg meets)).trans rfl

theorem mastRead_phase (s : State) (v : Int) (a : Axis) : ((mastRead s v).axis a).phase = (s.axis a).phase := by
  by_cases mast : a = .mast
  · rw [mast]
    exact mastRead_mastPhase s v
  · rw [mastRead_axis s v a mast]

theorem mastRead_sound (s : State) (v : Int) (sound : requestsSound s) : requestsSound (mastRead s v) :=
  ⟨fun q hq => (mastRead_phase s v q.axis).trans (sound.1 q hq), sound.2⟩

theorem takeEncoder_mast (s : State) (v : Int) (run : running s = true) (done : s.power.phase = .done) :
    takeEncoder s .mast v = endEvent s (nestCrossings (extension s) (mastRead s v)) := by
  rw [takeEncoder, if_pos run, ← mastArrival_read s v done]
  rfl

/-! ## Controlled stops of some dish axes (R105, R107) -/

/-- What controlled stops of some axes, the mast not one of them, make of the axes and the arbiter. -/
structure AxesHalted (s u : State) (l : List Axis) : Prop where
  drives : onlyDrives s u
  own : ∀ a ∈ l, u.axis a = (s.axis a).halted
  waits : ∀ q ∈ u.arb.waits, q.axis ∉ l
  others : ∀ a, a ∉ l → (s.axis a).startedFrom a (u.axis a)

theorem halted_unwaiting (x : AxisState) : x.halted.phase ≠ .waiting := by
  cases phase : x.phase <;> simp [AxisState.halted, phase]

theorem controlledStops_axesHalted (s : State) (l : List Axis) (distinct : l.Nodup) (dish : Axis.mast ∉ l)
    (sound : requestsSound s) : AxesHalted s (controlledStops s l) l := by
  have axis := stopsOf_axis s l distinct
  have unlocked : Axis.mast ∉ waitingOf s l := fun h => dish ((mem_waitingOf s l _).mp h).1
  have drives : onlyDrives s (controlledStops s l) := aside_controlledStops ..
  rw [controlledStops_unlocked s l unlocked] at drives ⊢
  have still : ∀ q ∈ (stopsOf s l).arb.waits, q ∈ s.arb.waits ∧ q.axis ∉ l := fun q hq => by
    rw [stopsOf_waits, List.mem_filter, decide_eq_true_eq, mem_waitingOf] at hq
    exact ⟨hq.1, fun member => hq.2 ⟨member, sound.1 q hq.1⟩⟩
  have soundStops : requestsSound (stopsOf s l) := by
    refine ⟨fun q hq => ?_, ?_⟩
    · rw [axis, if_neg (still q hq).2]
      exact sound.1 q (still q hq).1
    · rw [stopsOf_waits]
      exact sound.2.sublist (List.filter_sublist.map _)
  obtain ⟨-, -, left, started⟩ := grantCheck_made _ soundStops
  refine ⟨drives, fun a member => ?_, fun q hq => (still q (left q hq)).2, fun a other => ?_⟩
  · have own := (axis a).trans (if_pos member)
    rw [← own]
    exact (started a).settled (own ▸ halted_unwaiting _)
  · exact (axis a).trans (if_neg other) ▸ started a

/-- Every axis stopped has its controlled stop. -/
theorem AxesHalted.stopMade {s u : State} {l : List Axis} (h : AxesHalted s u l) {a : Axis} (member : a ∈ l) :
    controlledStopMade s u a := by
  have own := h.own a member
  refine ⟨fun driving => own.trans (halted_driving driving), fun waiting _ => ?_⟩
  rw [own, halted_waiting waiting]
  exact ⟨rfl, rfl, fun q hq same => h.waits q hq (same ▸ member)⟩

/-! ## The nest crossings (R7, R11) -/

theorem mem_straying (s : State) (a : Axis) :
    a ∈ straying s ↔ a ≠ .mast ∧ (s.axis a).inMove = true ∧ (s.axis a).target ≠ stowTarget a := by
  cases a <;> simp [straying, strays, stowTarget]

theorem straying_nodup (s : State) : (straying s).Nodup := by
  unfold straying
  (repeat' split) <;> decide

theorem mem_straying_read (s : State) (v : Int) (a : Axis) :
    a ∈ straying (mastRead s v) ↔ a ≠ .mast ∧ (s.axis a).inMove = true ∧ (s.axis a).target ≠ stowTarget a := by
  rw [mem_straying]
  refine and_congr_right fun dish => ?_
  rw [mastRead_axis s v a dish]

/-- No target is issued at the upward crossing while none may be (R25, R27, R88). -/
theorem upCrossing_barred (s : State) (barred : canIssue s = false) : upCrossing s = s := if_pos (by simp [barred])

/-- A dish that waits for the nest height, or will, turns to its goal (R7). -/
theorem upCrossing_dish (s : State) (able : canIssue s = true)
    (awaits : s.ctl.dishState = .nestWait ∨ s.ctl.dishShort = some .nest) : upCrossing s = pursueDish s := by
  rw [upCrossing, if_neg (by simp [able]), if_pos awaits, pursueDish, if_pos able]

/-- A search that waits for its probe targets is given them (R11, log 24). -/
theorem upCrossing_moving (s : State) (able : canIssue s = true)
    (content : ¬ (s.ctl.dishState = .nestWait ∨ s.ctl.dishShort = some .nest)) (c : Search)
    (search : s.level.search = some c) (moves : c.wait = .moving) : upCrossing s = giveDish s c.asked := by
  rw [upCrossing, if_neg (by simp [able]), if_neg content, search]
  exact if_pos moves

theorem upCrossing_settled (s : State) (able : canIssue s = true)
    (content : ¬ (s.ctl.dishState = .nestWait ∨ s.ctl.dishShort = some .nest))
    (settled : ∀ c, s.level.search = some c → c.wait ≠ .moving) : upCrossing s = s := by
  rw [upCrossing, if_neg (by simp [able]), if_neg content]
  cases search : s.level.search with
  | none => rfl
  | some c => exact if_neg (settled c search)

/-- The downward crossing of a dish that strays: its stops, and NEST_WAIT to come for an aimed goal (R11). -/
theorem downCrossing_eq (s : State) (strayed : straying s ≠ []) : downCrossing s =
    let u := controlledStops s (straying s)
    if s.level.search = none ∧ s.stance.dishGoal.aimed = true then u.withDishShort (some .nest) else u := by
  unfold downCrossing
  rw [if_neg strayed]
  cases s.level.search <;> cases s.stance.dishGoal <;> rfl

/-- What the downward crossing makes of a state whose dish strays (R11). -/
theorem downCrossing_stops (s : State) (strayed : straying s ≠ []) (sound : requestsSound s) :
    let u := downCrossing s
    ∃ w, AxesHalted s w (straying s) ∧ u.axes = w.axes ∧ u.arb = w.arb ∧ u.stance = s.stance ∧ u.level = s.level ∧
      u.ctl = { s.ctl with dishShort :=
        if s.level.search = none ∧ s.stance.dishGoal.aimed = true then some .nest else s.ctl.dishShort } := by
  have dish : Axis.mast ∉ straying s := fun member => ((mem_straying s _).mp member).1 rfl
  have halts := controlledStops_axesHalted s (straying s) (straying_nodup s) dish sound
  refine ⟨_, halts, ?_⟩
  rw [downCrossing_eq s strayed]
  generalize controlledStops s (straying s) = w at *
  dsimp only
  split
  · exact ⟨rfl, rfl, halts.drives.stance, halts.drives.level, by simp [State.withDishShort, halts.drives.ctl]⟩
  · exact ⟨rfl, rfl, halts.drives.stance, halts.drives.level, halts.drives.ctl⟩

end Sys2Proof.Machine

open Sys2Proof Sys2Proof.Machine

/-- Settles O40: before READY a reading changes what `putReading` changes, and the one that completes WARM_UP starts the
priming; from READY on the mast's reading is `mastRead`, and `nestCrossings` splits by the side of the nest height. -/
theorem encoderReadings : Obligations.EncoderReadings := by
  constructor
  · intro s a v c reading settled on ends lit
    have idle : s.ctl.mode = .starting → running s = false := fun mode => by simp [running, mode]
    obtain ⟨limits, fix, lines, intake⟩ := takeEncoder_surroundings s a v
    obtain ⟨position, encValid, everValid, lastValid, others⟩ := takeEncoder_sensed s a v
    refine ⟨takeEncoder s a v, exec_reading s a v c reading settled on, position, encValid, everValid, lastValid, others,
      fun stays => ?_, fun e => ?_, limits, fix, lines, intake, fun mode => takeEncoder_first s a v (idle mode)⟩
    · have kept := takeEncoder_stays s a v stays
      rw [putReading_eq] at kept
      exact ⟨congrArg Kept.power kept, congrArg Kept.wind kept⟩
    · obtain ⟨kept, runs, primes, window, quiet⟩ := takeEncoder_ends s a v e
      exact ⟨congrArg Kept.power kept, runs, primes, window, congrArg Kept.tripped kept, quiet⟩
  · intro s v c reading run done x old arrives read m leads up down awaits strays
    have on : s.ctl.mode ≠ .standby := by
      intro mode
      rw [running, mode] at run
      cases run
    have crossed : ∀ w, nestCrossings old m = w → leads w := fun w crossing => by
      show exec c s = .next (endEvent s w)
      rw [exec_reading s .mast v c reading (by simp [done]) (.inl on), takeEncoder_mast s v run done, ← crossing]
      rfl
    have ext : extension m = v := mastRead_extension s v
    have rises : up → nestCrossings old m = upCrossing m := fun up => if_pos (by rw [ext]; exact up)
    have sinks : down → nestCrossings old m = downCrossing m := fun down => by
      rw [nestCrossings, if_neg (by rw [ext]; exact fun up => absurd down.1 (Int.not_le.mpr up.1))]
      exact if_pos (by rw [ext]; exact down)
    have strayed : ∀ a, a ∈ straying m ↔ strays a := mem_straying_read s v
    refine ⟨fun nup ndown => crossed m ?_, fun u barred => crossed m ?_, fun u able due => crossed _ ?_,
      fun u able undue => ⟨fun d search moves => crossed _ ?_, fun settled => crossed m ?_⟩, fun d none => crossed m ?_,
      fun d stray sound => ⟨downCrossing m, crossed _ (sinks d), ?_⟩⟩
    · rw [nestCrossings, if_neg (by rw [ext]; exact nup), if_neg (by rw [ext]; exact ndown)]
    · exact (rises u).trans (upCrossing_barred m barred)
    · exact (rises u).trans (upCrossing_dish m able due)
    · exact (rises u).trans (upCrossing_moving m able undue d search moves)
    · exact (rises u).trans (upCrossing_settled m able undue settled)
    · rw [sinks d, downCrossing, if_pos (List.eq_nil_iff_forall_not_mem.mpr fun a member => none a ((strayed a).mp member))]
    · obtain ⟨b, stray⟩ := stray
      obtain ⟨w, halts, axes, arb, stance, level, ctl⟩ :=
        downCrossing_stops m (List.ne_nil_of_mem ((strayed b).mpr stray)) (mastRead_sound s v sound)
      have axis : ∀ a, (downCrossing m).axis a = w.axis a := fun a => congrArg (Axes.get · a) axes
      refine ⟨stance, level, fun a stray => ?_, fun a still other => ?_, ctl⟩
      · have made := halts.stopMade ((strayed a).mpr stray)
        simpa only [controlledStopMade, axis, arb] using made
      · rw [axis]
        exact (halts.others a (mt (strayed a).mp still)).settled ((mastRead_phase s v a).trans_ne other)

end

section
/-! PROOFS. The immediate stop for an axis's own fault (R106), and what the stance's reaction leaves of the drives (R25,
R26): for O41 and O44. -/
namespace Sys2Proof.Machine

/-! ## What a fault stop has made stands where the grants pass the axis over -/

theorem faultStopMade.passed {s v u : State} {a : Axis} (made : faultStopMade s v a) (passed : PassedOver a v u) :
    faultStopMade s u a := by
  obtain ⟨rest, waiting, moving, lock⟩ := made
  obtain ⟨axis, locked, request, grant⟩ := passed
  simp only [faultStopMade, axis]
  refine ⟨rest, fun phase => ?_, fun phase => ?_, fun mast phase => ?_⟩
  · obtain ⟨-, straight, back⟩ := waiting phase
    exact ⟨request, straight, fun mast released => locked mast ▸ back mast released⟩
  · obtain ⟨stop, fault, next, once, dish, mast⟩ := moving phase
    refine ⟨stop, fault, next, fun first => (once first).imp_right grant, dish, fun isMast => ?_⟩
    rw [locked isMast]
    exact mast isMast
  · obtain ⟨same, stop, fault, none⟩ := lock mast phase
    exact ⟨same, stop, fault, grant none⟩

/-- What the stop for its own fault makes of an axis, and of the others: nothing is left for a controlled stop of it. -/
structure FaultStopped (s v : State) (a : Axis) : Prop where
  sound : requestsSound v
  free : noRequest v a
  still : (v.axis a).halted = v.axis a
  others : ∀ b, b ≠ a → (s.axis b).startedFrom b (v.axis b)
  made : faultStopMade s v a

theorem FaultStopped.grantCheck {s v : State} {a : Axis} (h : FaultStopped s v a) : FaultStopped s (grantCheck v) a := by
  have granted := grantCheck_made v h.sound
  have passed := grantCheck_passedOver v h.free
  exact ⟨granted.sound, passed.request, passed.axis.symm ▸ h.still, fun b other => (h.others b other).trans (granted.axes b),
    h.made.passed passed⟩

/-- A stop of an axis that has no request changes its own state, and of the arbiter the grants at most. -/
theorem FaultStopped.of_unwaiting {s v : State} {a : Axis} (sound : requestsSound s) (other : (s.axis a).phase ≠ .waiting)
    (waits : v.arb.waits = s.arb.waits) (others : ∀ b, b ≠ a → v.axis b = s.axis b)
    (still : (v.axis a).halted = v.axis a) (made : faultStopMade s v a) : FaultStopped s v a := by
  have free : noRequest v a := by
    rw [noRequest, waits]
    exact sound.noRequest other
  refine ⟨⟨fun q hq => ?_, waits ▸ sound.2⟩, free, still, fun b hb => .inl (others b hb), made⟩
  rw [others q.axis (free q hq)]
  exact sound.1 q (waits ▸ hq)

theorem dropGrant_noGrant (s : State) (a : Axis) : noGrant (dropGrant s a) a := fun g hg => by
  have left : g ∈ s.arb.grants.filter (fun g => g.axis != a) := hg
  simpa using (List.mem_filter.mp left).2

section
variable {s : State} {a : Axis} (sound : requestsSound s)
include sound

theorem immediateStop_rests (phase : (s.axis a).phase = .atRest ∨ (s.axis a).phase = .faulted) :
    FaultStopped s (immediateStop s a true) a := by
  rcases phase with phase | phase
  · have own : ((s.withAxis a { s.axis a with phase := .faulted }).axis a).phase = .faulted := by rw [axis_withAxis_same]
    rw [immediateStop_atRest true phase, if_pos rfl]
    refine .of_unwaiting sound (by simp [phase]) rfl (fun b other => axis_withAxis_other _ _ _ _ other) ?_ ?_
    · simp only [AxisState.halted, own]
    · exact ⟨fun _ => own, by simp [phase], by simp [phase], by simp [phase]⟩
  · rw [immediateStop_faulted true phase]
    refine .of_unwaiting sound (by simp [phase]) rfl (fun _ _ => rfl) ?_ ?_
    · simp only [AxisState.halted, phase]
    · exact ⟨fun _ => phase, by simp [phase], by simp [phase], by simp [phase]⟩

theorem immediateStop_withdraws (waiting : (s.axis a).phase = .waiting) : FaultStopped s (immediateStop s a true) a := by
  obtain ⟨v, withdraws, arb, others, straight, back⟩ := withdraw_eq (s.withAxis a ((s.axis a).marked true)) a
  rw [immediateStop_waiting true waiting, withdraws]
  rw [axis_withAxis_same] at straight back
  have lock : (s.withAxis a ((s.axis a).marked true)).axes.lock = s.axes.lock := Axes.put_lock ..
  rw [lock] at straight back
  have away : ∀ b, b ≠ a → v.axis b = s.axis b := fun b other =>
    (others b other).trans (axis_withAxis_other _ _ _ _ other)
  have left : ∀ q ∈ v.arb.waits, q ∈ s.arb.waits ∧ q.axis ≠ a := fun q hq => by
    rw [arb] at hq
    simpa using List.mem_filter.mp hq
  have free : noRequest v a := fun q hq => (left q hq).2
  refine FaultStopped.grantCheck ⟨⟨fun q hq => ?_, ?_⟩, free, ?_, fun b other => .inl (away b other), ?_⟩
  · rw [away q.axis (left q hq).2]
    exact sound.1 q (left q hq).1
  · rw [arb]
    exact sound.2.sublist (List.filter_sublist.map _)
  · by_cases turning : a = .mast ∧ s.axes.lock = .released
    · rw [(back turning).2]
      rfl
    · rw [(straight turning).2]
      simp [AxisState.withdrawn, AxisState.marked, AxisState.halted]
  · refine ⟨by simp [waiting], fun _ => ⟨free, fun turning => ?_, fun mast released => ?_⟩,
      by simp [waiting], by simp [waiting]⟩
    · rw [(straight turning).2]
      simp [AxisState.withdrawn, AxisState.marked]
    · obtain ⟨locked, own⟩ := back ⟨mast, released⟩
      rw [own]
      exact ⟨rfl, locked, by simp [AxisState.turnedBack, AxisState.marked]⟩

theorem immediateStop_marks (phase : (s.axis a).phase = .releasing ∨ (s.axis a).phase = .engaging) :
    FaultStopped s (immediateStop s a true) a := by
  set x := { (s.axis a).marked true with stop := some .immediate } with hx
  have own : ((dropGrant (s.withAxis a x) a).axis a) = x := axis_withAxis_same ..
  have other : (s.axis a).phase ≠ .waiting := by rcases phase with phase | phase <;> simp [phase]
  rw [immediateStop_lockPhase true phase]
  refine (FaultStopped.of_unwaiting (v := dropGrant (s.withAxis a x) a) sound other rfl
    (fun b hb => axis_withAxis_other _ _ _ _ hb) ?_ ?_).grantCheck
  · rw [own]
    rcases phase with phase | phase <;> simp [hx, AxisState.halted, AxisState.marked, phase]
  · refine ⟨?_, fun waiting => absurd waiting other, ?_, fun _ _ => ?_⟩
    · rcases phase with phase | phase <;> simp [phase]
    · rcases phase with phase | phase <;> simp [phase]
    · rw [own]
      exact ⟨rfl, rfl, by simp [hx, AxisState.marked], dropGrant_noGrant _ _⟩

theorem immediateStop_skids (phase : s.axes.mast.phase = .driving ∨ s.axes.mast.phase = .stopping) :
    FaultStopped s (immediateStop s .mast true) .mast := by
  set v := dropGrant ((s.withAxis .mast (s.axes.mast.skids true)).withLock .engaging) .mast with hv
  have own : v.axis .mast = s.axes.mast.skids true := rfl
  have away : ∀ b, b ≠ .mast → v.axis b = s.axis b := fun b other => by
    cases b with
    | mast => exact absurd rfl other
    | pan => rfl
    | tilt => rfl
    | pol => rfl
  have mast : s.axis .mast = s.axes.mast := rfl
  have other : (s.axis .mast).phase ≠ .waiting := by rcases phase with phase | phase <;> simp [mast, phase]
  rw [immediateStop_mast true phase]
  refine (FaultStopped.of_unwaiting (v := v) sound other rfl away ?_ ?_).grantCheck
  · rw [own]
    rfl
  · refine ⟨?_, fun waiting => absurd waiting other, fun _ => ?_, ?_⟩
    · rcases phase with phase | phase <;> simp [mast, phase]
    · rw [own]
      exact ⟨rfl, by simp [AxisState.skids, AxisState.braked, AxisState.marked], rfl, fun _ => ⟨rfl, dropGrant_noGrant _ _⟩,
        fun dish => absurd rfl dish, fun _ => ⟨rfl, rfl, rfl⟩⟩
    · rcases phase with phase | phase <;> simp [mast, phase]

theorem immediateStop_brakes (dish : a ≠ .mast) (phase : (s.axis a).phase = .driving ∨ (s.axis a).phase = .stopping) :
    FaultStopped s (immediateStop s a true) a := by
  have other : (s.axis a).phase ≠ .waiting := by rcases phase with phase | phase <;> simp [phase]
  by_cases again : (s.axis a).phase = .stopping ∧ (s.axis a).stop = some .immediate
  · obtain ⟨stopping, stop⟩ := again
    rw [immediateStop_again true dish stopping stop]
    refine .of_unwaiting sound other rfl (fun b hb => axis_withAxis_other _ _ _ _ hb) ?_ ?_
    · rw [axis_withAxis_same]
      simp [AxisState.halted, AxisState.marked, stopping]
    · rw [faultStopMade, axis_withAxis_same]
      simp [AxisState.marked, stopping, stop, dish]
  · set x := { (s.axis a).braked true with phase := .stopping } with hx
    have own : (dropGrant (s.withAxis a x) a).axis a = x := axis_withAxis_same ..
    rw [immediateStop_dish true dish (phase.imp_right fun stopping => ⟨stopping, fun stop => again ⟨stopping, stop⟩⟩)]
    refine (FaultStopped.of_unwaiting (v := dropGrant (s.withAxis a x) a) sound other rfl
      (fun b hb => axis_withAxis_other _ _ _ _ hb) ?_ ?_).grantCheck
    · rw [own]
      rfl
    · refine ⟨?_, fun waiting => absurd waiting other, fun _ => ?_, fun mast => absurd mast dish⟩
      · rcases phase with phase | phase <;> simp [phase]
      · rw [own]
        exact ⟨rfl, by simp [hx, AxisState.braked, AxisState.marked], rfl, fun _ => ⟨rfl, dropGrant_noGrant _ _⟩,
          fun _ => rfl, fun mast => absurd mast dish⟩

/-- The stop of R106 for an axis's own fault, phase by phase. -/
theorem immediateStop_faultStopped : FaultStopped s (immediateStop s a true) a := by
  cases phase : (s.axis a).phase with
  | atRest => exact immediateStop_rests sound (.inl phase)
  | faulted => exact immediateStop_rests sound (.inr phase)
  | waiting => exact immediateStop_withdraws sound phase
  | releasing => exact immediateStop_marks sound (.inl phase)
  | engaging => exact immediateStop_marks sound (.inr phase)
  | driving =>
    by_cases mast : a = .mast
    · subst mast
      exact immediateStop_skids sound (.inl phase)
    · exact immediateStop_brakes sound mast (.inl phase)
  | stopping =>
    by_cases mast : a = .mast
    · subst mast
      exact immediateStop_skids sound (.inr phase)
    · exact immediateStop_brakes sound mast (.inr phase)

end

/-! ## What the stance's reaction leaves of the drives (R25, R26, R147) -/

theorem halted_halted (x : AxisState) : x.halted.halted = x.halted := by
  cases phase : x.phase <;> simp [AxisState.halted, phase]

/-- What the reaction to a fault leaves of the drives: the dish halted, and a faulted axis passed over. -/
structure DishFell (a : Axis) (s u : State) : Prop where
  sound : requestsSound u
  dish : ∀ b, b ≠ .mast → u.axis b = (s.axis b).halted
  passed : PassedOver a s u

theorem DishFell.congr {a : Axis} {s t u v : State} (h : DishFell a s u) (before : t.axes = s.axes ∧ t.arb = s.arb)
    (after : v.axes = u.axes ∧ v.arb = u.arb) : DishFell a t v := by
  obtain ⟨sound, dish, axis, lock, request, grant⟩ := h
  refine ⟨requestsSound_congr after.1 after.2 sound, ?_, ?_, ?_, ?_, ?_⟩
  · simpa only [State.axis, before.1, after.1] using dish
  · simpa only [State.axis, before.1, after.1] using axis
  · simpa only [before.1, after.1] using lock
  · simpa only [noRequest, after.2] using request
  · simpa only [noGrant, before.2, after.2] using grant

/-- The dish halted a second time is as the first time. -/
theorem DishFell.trans {a : Axis} {s t u : State} (h : DishFell a s t) (k : DishFell a t u) : DishFell a s u :=
  ⟨k.sound, fun b other => by rw [k.dish b other, h.dish b other, halted_halted], h.passed.trans k.passed⟩

theorem foldl_lock (F : State → Axis → State) (step : ∀ t b, (F t b).axes.lock = t.axes.lock) (l : List Axis) (s : State) :
    (l.foldl F s).axes.lock = s.axes.lock := by
  induction l generalizing s with
  | nil => rfl
  | cons b l ih => rw [List.foldl_cons, ih, step]

theorem stopsOf_lock (s : State) (l : List Axis) : (stopsOf s l).axes.lock = s.axes.lock := by
  rw [stopsOf, foldl_lock withdrawStep (fun _ _ => Axes.put_lock ..), foldl_lock controlledStop]
  intro t b
  unfold controlledStop
  dsimp only
  split <;> simp [State.withAxis]

theorem stopsOf_grants (s : State) (l : List Axis) : (stopsOf s l).arb.grants = s.arb.grants := by
  have withdrawn : ∀ (m : List Axis) (t : State), (m.foldl withdrawStep t).arb.grants = t.arb.grants := fun m => by
    induction m with
    | nil => exact fun _ => rfl
    | cons b m ih => exact fun t => ih (withdrawStep t b)
  rw [stopsOf, withdrawn, foldl_controlledStop_arb]

theorem controlledStops_fell {s : State} {a : Axis} (sound : requestsSound s) (free : noRequest s a)
    (still : (s.axis a).halted = s.axis a) : DishFell a s (controlledStops s dishAxes) := by
  obtain ⟨after, dish, -⟩ := controlledStops_halted s sound
  have unlocked : Axis.mast ∉ waitingOf s dishAxes := fun h => (mem_dishAxes _).mp ((mem_waitingOf s _ _).mp h).1 rfl
  refine ⟨after, dish, ?_⟩
  rw [controlledStops_unlocked s dishAxes unlocked]
  have own : (stopsOf s dishAxes).axis a = s.axis a := by
    rw [stopsOf_dish]
    split
    · rfl
    · exact still
  have left : noRequest (stopsOf s dishAxes) a := fun q hq => by
    rw [stopsOf_waits] at hq
    exact free q (List.mem_filter.mp hq).1
  have stopped : PassedOver a s (stopsOf s dishAxes) :=
    ⟨own, fun _ => stopsOf_lock .., left, fun none => by rwa [noGrant, stopsOf_grants]⟩
  exact stopped.trans (grantCheck_passedOver _ left)

/-- A faulted axis that has been passed over is so again. -/
theorem DishFell.again {a : Axis} {s u : State} (h : DishFell a s u) (still : (s.axis a).halted = s.axis a) :
    DishFell a u (controlledStops u dishAxes) :=
  controlledStops_fell h.sound h.passed.request (h.passed.axis.symm ▸ still)

theorem dishToNone_drives (s : State) : (dishToNone s).axes = (controlledStops (writeDishGoal s .none) dishAxes).axes ∧
    (dishToNone s).arb = (controlledStops (writeDishGoal s .none) dishAxes).arb := by
  obtain ⟨axes, arb, -⟩ := dishStands_same (controlledStops (writeDishGoal s .none) dishAxes)
  exact ⟨axes, arb⟩

/-- The entry into HALTED, before the dish is stopped: an exchange has ended, and the mode is HALTED (R25, R92). -/
def haltBegun (s : State) : State :=
  let v := swapEarlyEnd s .faulted
  v.withCtl { v.ctl with
    returnMode := if v.ctl.mode = .recovery then .recovery else .normal, mode := .halted, upwardDue := false }

theorem haltStance_eq (s : State) : haltStance s = dishToNone
    ((stopThenEnd (controlledStops (haltBegun s) dishAxes) .faulted stanceKinds .faulted).withPeakPending false) := rfl

theorem haltBegun_drives (s : State) : (haltBegun s).axes = s.axes ∧ (haltBegun s).arb = s.arb :=
  swapEarlyEnd_drives s .faulted

section
variable {s : State} {a : Axis} (sound : requestsSound s) (free : noRequest s a) (still : (s.axis a).halted = s.axis a)
include sound free still

theorem dishToNone_fell : DishFell a s (dishToNone s) :=
  (controlledStops_fell (s := writeDishGoal s .none) sound free still).congr ⟨rfl, rfl⟩ (dishToNone_drives s)

theorem haltStance_fell : DishFell a s (haltStance s) := by
  have early := haltBegun_drives s
  rw [haltStance_eq]
  generalize haltBegun s = v1 at *
  have first : DishFell a s (controlledStops v1 dishAxes) := by
    have stops := controlledStops_fell (s := v1) (a := a) (requestsSound_congr early.1 early.2 sound)
      (by rwa [noRequest, early.2])
      (by rwa [show v1.axis a = s.axis a from congrArg (Axes.get · a) early.1])
    exact stops.congr ⟨early.1.symm, early.2.symm⟩ ⟨rfl, rfl⟩
  generalize controlledStops v1 dishAxes = w at *
  obtain ⟨-, axes, arb, -⟩ := stopThenEnd_same w .faulted stanceKinds .faulted
  generalize stopThenEnd w .faulted stanceKinds .faulted = x at *
  have second : DishFell a s (x.withPeakPending false) := first.congr ⟨rfl, rfl⟩ ⟨axes, arb⟩
  exact second.trans (dishToNone_fell second.sound second.passed.request (second.passed.axis.symm ▸ still))

theorem enterHalted_fell : DishFell a s (enterHalted s) := by
  have fell := haltStance_fell sound free still
  rw [enterHalted_eq]
  generalize haltStance s = w at *
  obtain ⟨axes, arb, -⟩ := haltedGoal_same w
  exact fell.congr ⟨rfl, rfl⟩ ⟨axes, arb⟩

end

end Sys2Proof.Machine
end

section
/-! PROOFS. What an axis's own fault does to the stance and to its commands (R25, R26, R74, R92, R147): for O41 and O44. -/
namespace Sys2Proof.Machine

/-! ## Commands that a fault has ended -/

/-- Commands have at most ended FAULTED, and those ended so stay so. -/
structure FaultEnds (s u : State) : Prop where
  wf : Memory.wf u.mem = true
  keeps : ∀ n, Answered s n 18 → Answered u n 18
  left : u.board.openSet.Sublist s.board.openSet
  ended : ∀ c ∈ s.board.openSet, c ∈ u.board.openSet ∨ Answered u c.slot 18

theorem Answered.congr {s u : State} (mem : u.mem = s.mem) (notice : u.board.notice = s.board.notice) {n : Slot} {k : Nat}
    (h : Answered s n k) : Answered u n k := by
  rwa [Answered, mem, notice]

theorem FaultEnds.of_same {s u : State} (hw : Memory.wf s.mem = true) (mem : u.mem = s.mem) (board : u.board = s.board) :
    FaultEnds s u :=
  ⟨mem ▸ hw, fun _ h => h.congr mem (by rw [board]), by rw [board], fun _ open_ => .inl (board ▸ open_)⟩

theorem FaultEnds.trans {s t u : State} (h : FaultEnds s t) (k : FaultEnds t u) : FaultEnds s u := by
  refine ⟨k.wf, fun n answered => k.keeps n (h.keeps n answered), k.left.trans h.left, fun c hc => ?_⟩
  rcases h.ended c hc with stays | answered
  · exact k.ended c stays
  · exact .inr (k.keeps _ answered)

/-- An early end writes the memory and the board as the completion of the SWAP does. -/
theorem swapEarlyEnd_records (s : State) (code : Code) (quiesce : s.swap.phase = .quiesce) :
    (swapEarlyEnd s code).mem = (completeSwap s s.swap.slot code Warnings.empty (earlyData s)).mem ∧
    (swapEarlyEnd s code).board = (completeSwap s s.swap.slot code Warnings.empty (earlyData s)).board := by
  have ends : swapEarlyEnd s code =
      (let v := completeSwap s s.swap.slot code Warnings.empty (earlyData s)
       let w := (v.withSwap { v.swap with phase := .idle }).withCtl { v.ctl with resumeDue := true }
       if w.ctl.dishState = .locked ∧ w.stance.watch = true then w.withLevel { w.level with watch := some 0 } else w) := by
    rw [swapEarlyEnd, if_pos quiesce]
    rfl
  rw [ends]
  generalize completeSwap s s.swap.slot code Warnings.empty (earlyData s) = v
  dsimp only
  split <;> exact ⟨rfl, rfl⟩

/-- An exchange that a fault ends is a SWAP answered FAULTED (R92, R93). -/
theorem swapEarlyEnd_faultEnds (s : State) (hw : Memory.wf s.mem = true) : FaultEnds s (swapEarlyEnd s .faulted) := by
  cases phase : s.swap.phase with
  | idle =>
    rw [swapEarlyEnd_idle s _ phase]
    exact .of_same hw rfl rfl
  | quiesce =>
    obtain ⟨answered, -, -, -, -, -, -, opened, others, wf⟩ := swapEarlyEnd_quiesce s .faulted phase hw
    refine ⟨wf, fun n before => ?_, opened ▸ List.filter_sublist, fun c hc => ?_⟩
    · by_cases own : n = s.swap.slot
      · exact own ▸ answered
      · obtain ⟨mem, board⟩ := swapEarlyEnd_records s .faulted phase
        exact (completeSwap_keeps s n _ _ _ _ 18 (Ne.symm own) before).congr mem (by rw [board])
    · by_cases own : c.slot = s.swap.slot
      · exact .inr (own ▸ answered)
      · refine .inl (opened ▸ List.mem_filter.mpr ⟨hc, ?_⟩)
        simpa using own

theorem putFault_mem (s : State) (f : FaultId) : (putFault s f).mem = s.mem := by
  unfold putFault makeRoom
  dsimp only
  (repeat' split) <;> rfl

/-- A further bit of NOTICE set. -/
theorem notice_or {x y : BitVec 16} {n : Nat} (h : x.getLsbD n = true) : (x ||| y).getLsbD n = true := by
  rw [BitVec.getLsbD_or, h, Bool.true_or]

theorem putFault_notice (s : State) (f : FaultId) (n : Nat) (h : s.board.notice.getLsbD n = true) :
    (putFault s f).board.notice.getLsbD n = true := by
  have room : (makeRoom s).board = s.board := by
    unfold makeRoom
    dsimp only
    (repeat' split) <;> rfl
  unfold putFault
  dsimp only
  (repeat' split)
  · exact notice_or (room ▸ h)
  · exact notice_or (room ▸ h)
  · exact room ▸ h

theorem putFault_faultEnds (s : State) (f : FaultId) (hw : Memory.wf s.mem = true) : FaultEnds s (putFault s f) := by
  have mem := putFault_mem s f
  have opened := putFault_openSet s f
  refine ⟨mem ▸ hw, fun n h => ?_, by rw [opened], fun c hc => .inl (opened ▸ hc)⟩
  obtain ⟨owner, code, notice⟩ := h
  exact ⟨by rw [mem, owner], by rw [mem, code], putFault_notice s f _ notice⟩

theorem reportFault_faultEnds (s : State) (f : FaultId) (hw : Memory.wf s.mem = true) : FaultEnds s (reportFault s f) := by
  have put := putFault_faultEnds s f hw
  unfold reportFault
  split
  · exact .of_same hw rfl rfl
  · exact put.trans (swapEarlyEnd_faultEnds _ put.wf)

theorem swapEarlyEnd_ctl (s : State) (code : Code) : ∃ b, (swapEarlyEnd s code).ctl = { s.ctl with resumeDue := b } := by
  unfold swapEarlyEnd completeSwap
  dsimp only
  (repeat' split)
  · exact ⟨true, by simp⟩
  · exact ⟨true, by simp⟩
  · exact ⟨s.ctl.resumeDue, rfl⟩

theorem reportFault_ctl (s : State) (f : FaultId) : ∃ b, (reportFault s f).ctl = { s.ctl with resumeDue := b } := by
  unfold reportFault
  split
  · exact ⟨s.ctl.resumeDue, rfl⟩
  · obtain ⟨b, ctl⟩ := swapEarlyEnd_ctl (putFault s f) .faulted
    exact ⟨b, ctl.trans (by rw [putFault_ctl])⟩

/-! ## Commands told of the end of their search and then ended (R74) -/

/-- A condition on open commands that does not look at what the end of a search tells them. -/
def deafToSearch (p : OpenCommand → Bool) : Prop := ∀ f, SearchTold f → ∀ c, p (f c) = p c

theorem ofKinds_deaf (ks : List Kind) : deafToSearch (ofKinds ks) := fun _ told c => ofKinds_told told ks c

section
variable {t w : State} {p : OpenCommand → Bool} (deaf : deafToSearch p) (hw : Memory.wf t.mem = true)
  (mem : w.mem = t.mem) (board : w.board = (stopSearch t .faulted false).board)
include deaf hw mem board

theorem toldEnds_answered : ∀ c ∈ t.board.openSet, p c = true → Answered (endWhere w p .faulted) c.slot 18 := by
  obtain ⟨f, opened, told⟩ := stopSearch_openSet t .faulted false
  intro c hc pc
  have there : f c ∈ w.board.openSet := by
    rw [board, opened]
    exact List.mem_map_of_mem hc
  have ended := (endWhere_ended w p .faulted (mem ▸ hw)).1 (f c) there ((deaf f told c).trans pc)
  exact (told c).1 ▸ ended

omit deaf in
theorem toldEnds_keeps (n : Slot) (h : Answered t n 18) : Answered (endWhere w p .faulted) n 18 := by
  obtain ⟨-, -, -, -, -, -, -, -, -, -, -, -, -, -, notice, -⟩ := stopSearch_same t .faulted false
  exact answered_endWhere w p .faulted n (mem ▸ hw) (h.congr mem (by rw [board, notice]))

omit deaf hw mem in
theorem toldEnds_left (slots : (t.board.openSet.map (·.slot)).Nodup) :
    ∀ c ∈ (endWhere w p .faulted).board.openSet, p c = false := by
  obtain ⟨f, opened, told⟩ := stopSearch_openSet t .faulted false
  have toldSlots : (w.board.openSet.map (·.slot)).Nodup := by
    rw [board, opened, map_slot_told told]
    exact slots
  intro c hc
  rw [endWhere_openSet w p .faulted toldSlots] at hc
  simpa using List.of_mem_filter hc

/-- The outcome of the search stands in the result data of the PEAK whose it was (R74, 10.2). -/
theorem toldEnds_peak (slots : (t.board.openSet.map (·.slot)).Nodup) {c : Search} {d : OpenCommand}
    (search : t.level.search = some c) (full : c.kind = .full) (hd : d ∈ t.board.openSet) (peak : d.kind = .peak)
    (pd : p d = true) :
    readU8 (endWhere w p .faulted).mem (slotAddr d.slot + 40) = SearchOutcome.faulted.toNat := by
  have opened := stopSearch_openSet_full t c .faulted false search full
  have told := told_searchTold c .faulted
  rw [← board] at opened
  have toldSlots : (w.board.openSet.map (·.slot)).Nodup := by
    rw [opened, map_slot_told told]
    exact slots
  have there : c.told .faulted d ∈ w.board.openSet := opened ▸ List.mem_map_of_mem hd
  have own : ownsSearch d = true := by simp [ownsSearch, peak]
  have data : resultData w (c.told .faulted d) = leBytes 1 SearchOutcome.faulted.toNat ++ leBytes 1 c.probes ++
      le16 c.centrePan ++ le16 c.centreTilt ++ le16 (c.lc.getD 0) := by
    simp [Search.told, own, OpenCommand.withSearch, resultData, peak, Search.fields]
  obtain ⟨-, bytes⟩ := endWhere_bytes w p .faulted (mem ▸ hw) toldSlots _ there ((deaf _ told d).trans pd)
  have first := bytes 0 (by simp)
  rw [(told d).1, Nat.add_zero] at first
  rw [readU8, first]
  simp only [data]
  exact outcomeByte_toNat .faulted

end

/-! ## The dish falls: what a fault makes of the search, the goal and the commands (R25, R26) -/

/-- Memory keeps its form, and no slot is open twice. -/
abbrev Filed (s : State) : Prop := Memory.wf s.mem = true ∧ (s.board.openSet.map (·.slot)).Nodup

/-- A search that ran is over, the dish goal is NONE, and the open commands that meet a condition have ended FAULTED, a PEAK
with the outcome of its search. -/
structure StanceFell (p : OpenCommand → Bool) (s u : State) : Prop where
  search : u.level.search = none
  dishGoal : u.stance.dishGoal = .none
  peakPending : u.stance.peakPending = false
  keeps : Filed s → ∀ n, Answered s n 18 → Answered u n 18
  ended : Filed s → endedFaulted s u p
  peak : Filed s → s.swap.phase = .idle → ∀ c d, s.level.search = some c → c.kind = .full → d ∈ s.board.openSet →
    d.kind = .peak → readU8 u.mem (slotAddr d.slot + 40) = SearchOutcome.faulted.toNat

/-- A step on the way there: commands have at most ended FAULTED, an exchange's at most, and the search is untouched. -/
structure FaultNoted (s t : State) : Prop where
  ends : Memory.wf s.mem = true → FaultEnds s t
  search : t.level.search = s.level.search
  idle : s.swap.phase = .idle → t.swap.phase = .idle ∧ t.board.openSet = s.board.openSet

theorem FaultNoted.of_same {s t : State} (mem : t.mem = s.mem) (board : t.board = s.board) (level : t.level = s.level)
    (swap : t.swap = s.swap) : FaultNoted s t :=
  ⟨fun hw => .of_same hw mem board, by rw [level], fun idle => ⟨by rw [swap, idle], by rw [board]⟩⟩

theorem FaultNoted.of_drives {s t : State} (drives : onlyDrives s t) : FaultNoted s t :=
  .of_same drives.mem drives.board drives.level drives.swap

theorem FaultNoted.trans {s t u : State} (h : FaultNoted s t) (k : FaultNoted t u) : FaultNoted s u := by
  refine ⟨fun hw => (h.ends hw).trans (k.ends (h.ends hw).wf), k.search.trans h.search, fun idle => ?_⟩
  obtain ⟨still, opened⟩ := h.idle idle
  obtain ⟨stays, after⟩ := k.idle still
  exact ⟨stays, after.trans opened⟩

theorem reportFault_faultNoted (s : State) (f : FaultId) : FaultNoted s (reportFault s f) := by
  refine ⟨reportFault_faultEnds s f, reportFault_search s f, fun idle => ?_⟩
  obtain ⟨-, swap, -, opened⟩ := reportFault_same s f idle
  exact ⟨swap ▸ idle, opened⟩

theorem haltBegun_faultNoted (s : State) : FaultNoted s (haltBegun s) := by
  refine ⟨fun hw => ?_, swapEarlyEnd_search s .faulted, fun idle => ?_⟩
  · have ends := swapEarlyEnd_faultEnds s hw
    exact ends.trans (.of_same ends.wf rfl rfl)
  · have early := swapEarlyEnd_idle s .faulted idle
    exact ⟨(congrArg (·.swap.phase) early).trans idle, congrArg (·.board.openSet) early⟩

theorem FaultEnds.filed {s t : State} (h : FaultEnds s t) (filed : Filed s) : Filed t :=
  ⟨h.wf, filed.2.sublist (h.left.map _)⟩

theorem StanceFell.after {p : OpenCommand → Bool} {s t u : State} (h : StanceFell p t u) (noted : FaultNoted s t) :
    StanceFell p s u := by
  have ends := fun filed : Filed s => noted.ends filed.1
  have filed' := fun filed : Filed s => (ends filed).filed filed
  refine ⟨h.search, h.dishGoal, h.peakPending, fun filed n answered => ?_, fun filed => ?_, fun filed idle c d search => ?_⟩
  · exact h.keeps (filed' filed) n ((ends filed).keeps n answered)
  · obtain ⟨answered, left⟩ := h.ended (filed' filed)
    refine ⟨fun c hc pc => ?_, left⟩
    rcases (ends filed).ended c hc with stays | told
    · exact answered c stays pc
    · exact h.keeps (filed' filed) _ told
  · obtain ⟨still, opened⟩ := noted.idle idle
    rw [← opened]
    exact h.peak (filed' filed) still c d (noted.search.trans search)

/-- The search is told to the commands, and those that meet the condition are ended. -/
theorem StanceFell.of_told {p : OpenCommand → Bool} {t w u : State} (deaf : deafToSearch p)
    (covers : ∀ d : OpenCommand, d.kind = .peak → p d = true) (mem : w.mem = t.mem)
    (board : w.board = (stopSearch t .faulted false).board) (memAfter : u.mem = (endWhere w p .faulted).mem)
    (boardAfter : u.board = (endWhere w p .faulted).board) (search : u.level.search = none)
    (dishGoal : u.stance.dishGoal = .none) (peakPending : u.stance.peakPending = false) : StanceFell p t u := by
  have notice : u.board.notice = (endWhere w p .faulted).board.notice := by rw [boardAfter]
  refine ⟨search, dishGoal, peakPending, fun filed n before => ?_, fun filed => ⟨fun c hc pc => ?_, ?_⟩,
    fun filed _ c d running full hd peak => ?_⟩
  · exact (toldEnds_keeps filed.1 mem board n before).congr memAfter notice
  · exact (toldEnds_answered deaf filed.1 mem board c hc pc).congr memAfter notice
  · rw [boardAfter]
    exact toldEnds_left board filed.2
  · rw [memAfter]
    exact toldEnds_peak deaf filed.1 mem board filed.2 running full hd peak (covers d peak)

/-! ## The entry into HALTED (R25) -/

theorem haltStance_stanceFell (s : State) : StanceFell (ofKinds stanceKinds) s (haltStance s) := by
  rw [haltStance_eq]
  have begun := haltBegun_faultNoted s
  generalize haltBegun s = v1 at *
  have stops : onlyDrives v1 (controlledStops v1 dishAxes) := aside_controlledStops ..
  generalize controlledStops v1 dishAxes = t at *
  have noted : FaultNoted s t := begun.trans (.of_drives stops)
  obtain ⟨-, mem, -⟩ := stopSearch_same t .faulted false
  obtain ⟨-, -, -, -, search, stance⟩ := stopThenEnd_same t .faulted stanceKinds .faulted
  obtain ⟨-, stance', -, search', mem', board', -⟩ :=
    dishToNone_dropped ((stopThenEnd t .faulted stanceKinds .faulted).withPeakPending false)
  refine (StanceFell.of_told (t := t) (w := stopSearch t .faulted false) (ofKinds_deaf stanceKinds) ?_ mem rfl mem' board' ?_
    ?_ ?_).after noted
  · intro d peak
    simp [ofKinds, stanceKinds, peak]
  · exact search'.trans search
  · rw [stance']
  · rw [stance']
    rfl

theorem enterHalted_stanceFell (s : State) : StanceFell (ofKinds stanceKinds) s (enterHalted s) := by
  have fell := haltStance_stanceFell s
  rw [enterHalted_eq]
  generalize haltStance s = w at *
  obtain ⟨-, -, -, level, mem, board, -, -, -, dishGoal, peakPending, -⟩ := haltedGoal_same w
  obtain ⟨search, goal, pending, keeps, ended, peak⟩ := fell
  generalize haltedGoal w = v at *
  refine ⟨(congrArg Level.search level).trans search, dishGoal.trans goal, peakPending.trans pending, ?_, ?_, ?_⟩
  · simpa only [Answered, setEff_mem, setEff_board, mem, board] using keeps
  · simpa only [endedFaulted, Answered, setEff_mem, setEff_board, mem, board] using ended
  · simpa only [setEff_mem, mem] using peak

theorem haltedGoal_mastState (s : State) : (haltedGoal s).ctl.mastState = s.ctl.mastState := by
  unfold haltedGoal
  (repeat' split) <;> simp [State.withGoalAtRest, State.withMastGoal]

theorem haltBegun_modes (s : State) : (haltBegun s).ctl.mode = .halted ∧ (haltBegun s).ctl.mastState = s.ctl.mastState := by
  obtain ⟨b, ctl⟩ := swapEarlyEnd_ctl s .faulted
  refine ⟨rfl, ?_⟩
  show (swapEarlyEnd s .faulted).ctl.mastState = _
  rw [ctl]

/-- The entry into HALTED leaves the mast state to its caller. -/
theorem enterHalted_modes (s : State) : (enterHalted s).ctl.mode = .halted ∧
    (enterHalted s).ctl.mastState = s.ctl.mastState := by
  have begun := haltBegun_modes s
  rw [enterHalted_eq, haltStance_eq]
  generalize haltBegun s = v1 at *
  have stops : onlyDrives v1 (controlledStops v1 dishAxes) := aside_controlledStops ..
  generalize controlledStops v1 dishAxes = t at *
  obtain ⟨ctl, -⟩ := stopThenEnd_same t .faulted stanceKinds .faulted
  generalize stopThenEnd t .faulted stanceKinds .faulted = w at *
  obtain ⟨-, -, ⟨d, x, ctl'⟩, -⟩ := dishToNone_dropped (w.withPeakPending false)
  generalize dishToNone (w.withPeakPending false) = v at *
  have control : (w.withPeakPending false).ctl = v1.ctl := ctl.trans stops.ctl
  obtain ⟨-, -, -, -, -, -, mode, -⟩ := haltedGoal_same v
  constructor
  · show (haltedGoal v).ctl.mode = .halted
    rw [mode, ctl', control, begun.1]
  · show (haltedGoal v).ctl.mastState = _
    rw [haltedGoal_mastState, ctl', control, begun.2]

/-! ## A dish axis fault (R26) -/

/-- The dish lost to a fault, before the commands that go with it are ended. -/
def dishLost (s : State) : State :=
  (writeDishGoal (((stopSearch (controlledStops s dishAxes) .faulted false).withPeakPending false).withDish .failed)
    .none).withDishShort none

/-- The commands that a dish axis fault ends: RAISE and LOWER too, where the stance is not to be reached without it. -/
def dishEnds (low : Bool) (c : OpenCommand) : Bool :=
  ofKinds [.aim, .peak, .point, .stow] c || (ofKinds [.raise, .lower] c && low)

theorem dishEnds_deaf (low : Bool) : deafToSearch (dishEnds low) := fun f told c => by
  rw [dishEnds, dishEnds, ofKinds_deaf _ f told, ofKinds_deaf _ f told]

theorem dishFaultReact_eq (s : State) (mode : s.ctl.mode ≠ .forcedStow) : dishFaultReact s =
    endWhere (dishLost s)
      (dishEnds (decide ((dishLost s).stance.mastGoal < 1500) && !inWindow (dishLost s))) .faulted := if_neg mode

theorem dishLost_drives (s : State) : (dishLost s).axes = (controlledStops s dishAxes).axes ∧
    (dishLost s).arb = (controlledStops s dishAxes).arb := by
  obtain ⟨-, -, -, -, -, -, -, axes, arb, -⟩ := stopSearch_same (controlledStops s dishAxes) .faulted false
  rw [dishLost, withDishShort_axes, writeDishGoal_axes, withDish_axes, withPeakPending_axes, withDishShort_arb,
    writeDishGoal_arb, withDish_arb, withPeakPending_arb]
  exact ⟨axes, arb⟩

theorem dishLost_stance (s : State) :
    (dishLost s).stance = { s.stance with dishGoal := .none, peakPending := false } := by
  have stops : onlyDrives s (controlledStops s dishAxes) := aside_controlledStops ..
  have stance := stopSearch_stance (controlledStops s dishAxes) .faulted false false
  rw [stops.stance] at stance
  rw [dishLost, withDishShort_stance, writeDishGoal_stance, withDish_stance]
  exact congrArg (fun x : Stance => { x with dishGoal := .none }) stance

theorem dishLost_modes (s : State) : (dishLost s).ctl.mode = s.ctl.mode ∧ (dishLost s).ctl.dishState = .failed := by
  have stops : onlyDrives s (controlledStops s dishAxes) := aside_controlledStops ..
  obtain ⟨-, -, -, -, ctl, -⟩ := stopSearch_same (controlledStops s dishAxes) .faulted false
  simp [dishLost, State.withDishShort, ctl, stops.ctl]

theorem dishLost_search (s : State) : (dishLost s).level.search = none := by
  rw [dishLost, withDishShort_level, writeDishGoal_level, withDish_search]
  exact stopSearch_search ..

theorem dishLost_mem (s : State) : (dishLost s).mem = (controlledStops s dishAxes).mem := by
  obtain ⟨-, mem, -⟩ := stopSearch_same (controlledStops s dishAxes) .faulted false
  rw [dishLost, withDishShort_mem, writeDishGoal_mem, withDish_mem]
  exact mem

theorem dishLost_board (s : State) :
    (dishLost s).board = (stopSearch (controlledStops s dishAxes) .faulted false).board := by
  rw [dishLost, withDishShort_board, writeDishGoal_board, withDish_board]
  rfl

theorem dishFaultReact_drives (s : State) (mode : s.ctl.mode ≠ .forcedStow) :
    (dishFaultReact s).axes = (controlledStops s dishAxes).axes ∧
    (dishFaultReact s).arb = (controlledStops s dishAxes).arb := by
  obtain ⟨axes, arb⟩ := dishLost_drives s
  rw [dishFaultReact_eq s mode]
  obtain ⟨-, -, -, -, -, -, -, -, axes', arb', -⟩ := endWhere_same (dishLost s)
    (dishEnds (decide ((dishLost s).stance.mastGoal < 1500) && !inWindow (dishLost s))) .faulted
  exact ⟨axes'.trans axes, arb'.trans arb⟩

theorem dishFaultReact_fell {s : State} {a : Axis} (sound : requestsSound s) (free : noRequest s a)
    (still : (s.axis a).halted = s.axis a) (mode : s.ctl.mode ≠ .forcedStow) : DishFell a s (dishFaultReact s) :=
  (controlledStops_fell sound free still).congr ⟨rfl, rfl⟩ (dishFaultReact_drives s mode)

theorem dishFaultReact_shown (s : State) (mode : s.ctl.mode ≠ .forcedStow) : let u := dishFaultReact s
    u.stance = { s.stance with dishGoal := .none, peakPending := false } ∧ u.ctl.mode = s.ctl.mode ∧
    u.ctl.dishState = .failed ∧ StanceFell (dishEnds (decide (s.stance.mastGoal < 1500 ∧ inWindow u = false))) s u := by
  intro u
  have stops : onlyDrives s (controlledStops s dishAxes) := aside_controlledStops ..
  obtain ⟨sameMode, failed⟩ := dishLost_modes s
  have stance := dishLost_stance s
  have search := dishLost_search s
  have mem := dishLost_mem s
  have board := dishLost_board s
  have whole : u = _ := dishFaultReact_eq s mode
  obtain ⟨-, -, -, stance', ctl', -, level', -, axes', -⟩ := endWhere_same (dishLost s)
    (dishEnds (decide ((dishLost s).stance.mastGoal < 1500) && !inWindow (dishLost s))) .faulted
  rw [← whole] at stance' ctl' level' axes'
  have low : (decide ((dishLost s).stance.mastGoal < 1500) && !inWindow (dishLost s)) =
      decide (s.stance.mastGoal < 1500 ∧ inWindow u = false) := by
    have window : inWindow u = inWindow (dishLost s) := by simp only [inWindow, axes']
    rw [window, stance]
    simp
  rw [low] at whole
  refine ⟨stance'.trans stance, ?_, ?_, StanceFell.after (t := controlledStops s dishAxes) ?_ (.of_drives stops)⟩
  · rw [ctl', sameMode]
  · rw [ctl', failed]
  · refine .of_told (w := dishLost s) (dishEnds_deaf _) ?_ mem board (congrArg State.mem whole)
      (congrArg State.board whole) ?_ ?_ ?_
    · intro d peak
      simp [dishEnds, ofKinds, peak]
    · rw [level', search]
    · rw [stance', stance]
    · rw [stance', stance]

end Sys2Proof.Machine
end

section
/-! PROOFS. An axis's own fault as the stance shows it (R25, R26, R102, R105, R106, R147): O44. -/
namespace Sys2Proof.Machine

/-! ## The stance's reaction, by axis (R25, R26, R147) -/

/-- The mast FAILED (R4). -/
def mastFailed (s : State) : State := s.withCtl { s.ctl with mastState := .failed }

theorem axisReact_stopped (s : State) (a : Axis) (stopped : running s = false) : axisReact s a = s :=
  if_neg (ne_true_of_eq_false stopped)

theorem axisReact_mast (s : State) (run : running s = true) :
    axisReact s .mast = if s.ctl.mode = .halted then mastFailed s else enterHalted (mastFailed s) := if_pos run

theorem axisReact_dish (s : State) (a : Axis) (dish : a ≠ .mast) (run : running s = true) :
    axisReact s a = dishFaultReact s := (if_pos run).trans (if_neg dish)

/-- A faulted axis, once stopped, is left alone by the stance's reaction. -/
theorem axisReact_passed {r : State} {a : Axis} (sound : requestsSound r) (free : noRequest r a)
    (still : (r.axis a).halted = r.axis a) : PassedOver a r (axisReact r a) := by
  by_cases run : running r = true
  · by_cases mast : a = .mast
    · subst mast
      have failed : (mastFailed r).axes = r.axes ∧ (mastFailed r).arb = r.arb := ⟨rfl, rfl⟩
      rw [axisReact_mast r run]
      generalize mastFailed r = t at *
      have passed : PassedOver .mast r t := .of_same failed.1 failed.2 free
      split
      · exact passed
      · have fell := enterHalted_fell (s := t) (requestsSound_congr failed.1 failed.2 sound) passed.request
          (passed.axis.symm ▸ still)
        exact passed.trans fell.passed
    · rw [axisReact_dish r a mast run]
      by_cases mode : r.ctl.mode = .forcedStow
      · rw [dishFaultReact, if_pos mode]
        exact .of_same (withDish_axes ..) (withDish_arb ..) free
      · exact (dishFaultReact_fell sound free still mode).passed
  · rw [axisReact_stopped r a (eq_false_of_ne_true run)]
    exact .of_same rfl rfl free

theorem FaultStopped.reported {s v : State} {a : Axis} (h : FaultStopped s v a) (f : FaultId) :
    FaultStopped s (reportFault v f) a := by
  obtain ⟨axes, arb⟩ := reportFault_drives v f
  obtain ⟨sound, free, still, others, made⟩ := h
  have passed : PassedOver a v (reportFault v f) := .of_same axes arb free
  have axis : ∀ b, (reportFault v f).axis b = v.axis b := fun b => congrArg (Axes.get · b) axes
  refine ⟨requestsSound_congr axes arb sound, passed.request, passed.axis.symm ▸ still, fun b other => ?_,
    made.passed passed⟩
  exact axis b ▸ others b other

/-! ## The dish stands (R25, R26) -/

theorem halted_undriving (x : AxisState) : x.halted.phase ≠ .driving := by
  cases phase : x.phase <;> simp [AxisState.halted, phase]

theorem Sound.filed {s : State} (sound : Sound s) : Filed s := by
  obtain ⟨hw, -, slots, -⟩ := sound
  exact ⟨hw, slots⟩

/-- A faulted axis stopped and its dish halted, with the search and the goal gone: the dish stands. -/
theorem dishStopped_of {s r u : State} {a : Axis} {p : OpenCommand → Bool}
    (others : ∀ b, b ≠ a → (s.axis b).startedFrom b (r.axis b)) (fell : DishFell a r u) (stance : StanceFell p s u) :
    dishStopped s u a := by
  refine ⟨fun b dish => ?_, fun b dish other driving => ?_, stance.search, stance.peakPending, stance.dishGoal,
    fun sound => stance.peak sound.filed⟩
  · rw [fell.dish b dish]
    exact ⟨halted_unwaiting _, halted_undriving _⟩
  · have kept : r.axis b = s.axis b := (others b other).settled (by simp [driving])
    refine ⟨fun _ => ?_, fun waiting => by simp [driving] at waiting⟩
    rw [fell.dish b dish, kept]
    exact halted_driving driving

/-! ## The fault at the stance -/

/-- What a fault of an axis has led to when the stance learns of it: the axis is stopped, the fault reported. -/
structure FaultReported (s r : State) (a : Axis) : Prop where
  noted : FaultNoted s r
  stopped : FaultStopped s r a
  stance : r.stance = s.stance
  ctl : ∃ b, r.ctl = { s.ctl with resumeDue := b }
  idle : s.swap.phase = .idle → r.ctl = s.ctl

theorem FaultReported.mode {s r : State} {a : Axis} (h : FaultReported s r a) : r.ctl.mode = s.ctl.mode := by
  obtain ⟨b, ctl⟩ := h.ctl
  rw [ctl]

theorem FaultReported.running {s r : State} {a : Axis} (h : FaultReported s r a) : running r = running s := by
  simp only [Machine.running, h.mode]

/-- A mast fault (R25). -/
theorem FaultReported.mast {s r : State} (h : FaultReported s r .mast) (run : Machine.running s = true) :
    let u := axisReact r .mast
    u.ctl.mastState = .failed ∧ u.ctl.mode = .halted ∧
    (s.ctl.mode ≠ .halted → dishStopped s u .mast ∧ (Sound s → endedFaulted s u (ofKinds stanceKinds))) := by
  intro u
  have whole : u = _ := axisReact_mast r (h.running.trans run)
  have mode : (mastFailed r).ctl.mode = s.ctl.mode := h.mode
  have failed : (mastFailed r).ctl.mastState = .failed := rfl
  have noted : FaultNoted s (mastFailed r) := h.noted.trans (.of_same rfl rfl rfl rfl)
  have stopped : FaultStopped s (mastFailed r) .mast := by
    obtain ⟨sound, free, still, others, made⟩ := h.stopped
    exact ⟨sound, free, still, others, made⟩
  rw [whole]
  generalize mastFailed r = t at *
  rw [h.mode]
  split
  next halted => exact ⟨failed, mode.trans halted, fun active => absurd halted active⟩
  · obtain ⟨halted, kept⟩ := enterHalted_modes t
    have fell := (enterHalted_stanceFell t).after noted
    exact ⟨kept.trans failed, halted, fun _ =>
      ⟨dishStopped_of stopped.others (enterHalted_fell stopped.sound stopped.free stopped.still) fell,
        fun sound => fell.ended sound.filed⟩⟩

/-- A fault of a dish axis in NORMAL or RECOVERY (R26). -/
theorem FaultReported.dish {s r : State} {a : Axis} (h : FaultReported s r a) (dish : a ≠ .mast)
    (active : s.ctl.mode = .normal ∨ s.ctl.mode = .recovery) : let u := axisReact r a
    u.ctl.dishState = .failed ∧ u.ctl.mode = s.ctl.mode ∧ dishStopped s u a ∧
    u.stance = { s.stance with dishGoal := .none, peakPending := false } ∧
    (Sound s → endedFaulted s u (fun c => ofKinds [.aim, .peak, .point, .stow] c ||
      (ofKinds [.raise, .lower] c && decide (s.stance.mastGoal < 1500 ∧ inWindow u = false)))) := by
  have run : Machine.running r = true := by
    rw [h.running, Machine.running]
    rcases active with mode | mode <;> rw [mode]
  have mode : r.ctl.mode ≠ .forcedStow := by
    rw [h.mode]
    rcases active with mode | mode <;> rw [mode] <;> decide
  intro u
  have whole : u = dishFaultReact r := axisReact_dish r a dish run
  have fell := dishFaultReact_fell h.stopped.sound h.stopped.free h.stopped.still mode
  obtain ⟨stance, sameMode, failed, stanceFell⟩ := dishFaultReact_shown r mode
  rw [← whole] at fell stance sameMode failed stanceFell
  rw [h.stance] at stance stanceFell
  have shown := stanceFell.after h.noted
  exact ⟨failed, sameMode.trans h.mode, dishStopped_of h.stopped.others fell shown, stance,
    fun sound => shown.ended sound.filed⟩

/-- A fault of a dish axis in FORCED_STOW (R147). -/
theorem FaultReported.forcedStow {s r : State} {a : Axis} (h : FaultReported s r a) (dish : a ≠ .mast)
    (mode : s.ctl.mode = .forcedStow) (idle : s.swap.phase = .idle) : let u := axisReact r a
    u.ctl = { s.ctl with dishState := .failed } ∧ u.stance = s.stance ∧ u.board.openSet = s.board.openSet ∧
    ∀ b, b ≠ a → (u.axis b).target = (s.axis b).target ∧ ((s.axis b).phase ≠ .waiting → u.axis b = s.axis b) := by
  have run : Machine.running r = true := by rw [h.running, Machine.running, mode]
  intro u
  have whole : u = r.withDish .failed := by
    have react : u = dishFaultReact r := axisReact_dish r a dish run
    rw [react, dishFaultReact, if_pos (h.mode.trans mode)]
  obtain ⟨-, opened⟩ := h.noted.idle idle
  have axis : ∀ b, u.axis b = r.axis b := fun b => by
    rw [whole]
    exact congrArg (Axes.get · b) (withDish_axes ..)
  refine ⟨?_, ?_, ?_, fun b other => ?_⟩
  · rw [whole, withDish_ctl, h.idle idle]
  · rw [whole, withDish_stance, h.stance]
  · rw [whole, withDish_board, opened]
  · rw [axis]
    exact ⟨(h.stopped.others b other).target, (h.stopped.others b other).settled⟩

/-- An axis fault shows at the stance as R25, R26 and R147 have it. -/
theorem FaultReported.shown {s r : State} {a : Axis} (h : FaultReported s r a) : axisFaultShown s (axisReact r a) a := by
  refine ⟨?_, h.dish, h.forcedStow⟩
  rintro rfl
  exact h.mast

theorem FaultReported.made {s r : State} {a : Axis} (h : FaultReported s r a) : faultStopMade s (axisReact r a) a :=
  h.stopped.made.passed (axisReact_passed h.stopped.sound h.stopped.free h.stopped.still)

/-! ## From the immediate stop to the reaction (R102, R106, R110) -/

/-- What the fault itself records of the axis and its switches is nothing that its stop goes by. -/
structure StopsAlike (a : Axis) (s t : State) : Prop where
  drives : onlyDrives s t
  arb : t.arb = s.arb
  others : ∀ b, b ≠ a → t.axis b = s.axis b
  phase : (t.axis a).phase = (s.axis a).phase
  stop : (t.axis a).stop = (s.axis a).stop
  lock : t.axes.lock = s.axes.lock

theorem StopsAlike.refl (a : Axis) (s : State) : StopsAlike a s s :=
  ⟨onlyDrives_refl s, rfl, fun _ _ => rfl, rfl, rfl, rfl⟩

theorem StopsAlike.sound {a : Axis} {s t : State} (h : StopsAlike a s t) (sound : requestsSound s) : requestsSound t := by
  have phase : ∀ b, (t.axis b).phase = (s.axis b).phase := fun b => by
    by_cases own : b = a
    · rw [own, h.phase]
    · rw [h.others b own]
  simpa only [requestsSound, h.arb, phase] using sound

theorem StopsAlike.stopped {a : Axis} {s t v : State} (h : StopsAlike a s t) (stopped : FaultStopped t v a) :
    FaultStopped s v a := by
  obtain ⟨sound, free, still, others, made⟩ := stopped
  refine ⟨sound, free, still, fun b other => h.others b other ▸ others b other, ?_⟩
  simpa only [faultStopMade, h.phase, h.stop, h.lock] using made

/-- The stop for an axis's own fault and its report. -/
theorem StopsAlike.reported {a : Axis} {s t : State} (h : StopsAlike a s t) (sound : requestsSound s) (f : FaultId) :
    FaultReported s (reportFault (immediateStop t a true) f) a := by
  have stopped := h.stopped (immediateStop_faultStopped (a := a) (h.sound sound))
  have drives : onlyDrives s (immediateStop t a true) := h.drives.trans (aside_immediateStop ..)
  generalize immediateStop t a true = v at *
  refine ⟨(FaultNoted.of_drives drives).trans (reportFault_faultNoted v f), stopped.reported f, ?_, ?_, fun idle => ?_⟩
  · rw [reportFault_stance, drives.stance]
  · rw [← drives.ctl]
    exact reportFault_ctl v f
  · obtain ⟨ctl, -⟩ := reportFault_same v f (by rw [drives.swap, idle])
    exact ctl.trans drives.ctl

theorem axisFault_shown {a : Axis} {s t : State} (h : StopsAlike a s t) (sound : requestsSound s) (f : FaultId) :
    faultStopMade s (axisFault (immediateStop t a true) a f) a ∧
    axisFaultShown s (axisFault (immediateStop t a true) a f) a :=
  have reported := h.reported sound f
  ⟨reported.made, reported.shown⟩

/-! ## The report stands (R139) -/

theorem dishToNone_ilk (s : State) : (dishToNone s).ilk = s.ilk := by
  have stops : onlyDrives (writeDishGoal s .none) (controlledStops (writeDishGoal s .none) dishAxes) :=
    aside_controlledStops ..
  rw [dishToNone, dishStands_ilk, stops.ilk]
  rfl

theorem haltedGoal_ilk (s : State) : (haltedGoal s).ilk = s.ilk := by
  unfold haltedGoal
  (repeat' split) <;> rfl

theorem enterHalted_ilk (s : State) : (enterHalted s).ilk = s.ilk := by
  have begun : (haltBegun s).ilk = s.ilk := swapEarlyEnd_ilk s .faulted
  rw [enterHalted_eq, setEff_ilk, haltedGoal_ilk, haltStance_eq, dishToNone_ilk]
  generalize haltBegun s = v at *
  have stops : onlyDrives v (controlledStops v dishAxes) := aside_controlledStops ..
  obtain ⟨-, -, -, -, -, -, -, -, -, -, stopped, -⟩ := stopSearch_same (controlledStops v dishAxes) .faulted false
  rw [withPeakPending_ilk, stopThenEnd, endWhere_ilk, stopped, stops.ilk, begun]

theorem axisReact_ilk (s : State) (a : Axis) : (axisReact s a).ilk = s.ilk := by
  by_cases run : running s = true
  · by_cases mast : a = .mast
    · subst mast
      rw [axisReact_mast s run]
      split
      · rfl
      · rw [enterHalted_ilk]
        rfl
    · rw [axisReact_dish s a mast run, dishFaultReact_ilk]
  · rw [axisReact_stopped s a (eq_false_of_ne_true run)]

theorem mem_axisFault (s : State) (a : Axis) (f : FaultId) (room : s.ilk.faults.length < 16) :
    f ∈ (axisFault s a f).ilk.faults := by
  rw [axisFault, axisReact_ilk]
  exact mem_reportFault_self s f room

/-- The fault of a stop for it is in the set, where there was room. -/
theorem mem_axisFault_stopped (s : State) (a : Axis) (f : FaultId) (room : s.ilk.faults.length < 16) :
    f ∈ (axisFault (immediateStop s a true) a f).ilk.faults := by
  have drives : onlyDrives s (immediateStop s a true) := aside_immediateStop ..
  refine mem_axisFault _ a f ?_
  rwa [drives.ilk]

theorem axisFault_kept (s : State) (a : Axis) (f : FaultId) :
    (axisFault (immediateStop s a true) a f).kept = s.kept := by
  rw [kept_axisFault, kept_immediateStop]

/-- A fault moves no axis and leaves the encoders' flags. -/
theorem axisFault_sensed (s : State) (a : Axis) (f : FaultId) (b : Axis) :
    ((axisFault (immediateStop s a true) a f).axis b).sensed = (s.axis b).sensed := by
  rw [sensed_axis, sensed_axis, axisFault_kept]

end Sys2Proof.Machine

open Sys2Proof Sys2Proof.Machine

/-- Settles O44: each of the three timers leads to `stall`, the immediate stop for the axis's own fault with its report. -/
theorem stallsReported : Obligations.StallsReported := by
  intro s a c ends
  have stalls : exec c s = .next (endEvent s (stall s a)) := by
    rcases ends with ⟨rfl, due⟩ | ⟨rfl, stops⟩ | ⟨rfl, stops⟩
    · exact congrArg Host.Outcome.next (if_pos due)
    · exact congrArg Host.Outcome.next (if_pos stops)
    · exact congrArg Host.Outcome.next (if_pos (by simpa [immediateUnderWay] using stops))
  refine ⟨stall s a, stalls, congrArg Prod.fst (axisFault_sensed s a (.stall a) a), mem_axisFault_stopped s a (.stall a),
    fun sound => axisFault_shown (.refl a s) sound (.stall a)⟩

end

section
/-! PROOFS. An axis's own fault: the loss of an encoder and the trip of a limit switch, and the fault set (R106, R108, R109,
R139, R140, R142): O41. -/
namespace Sys2Proof.Machine

/-! ## The loss of an encoder (R109) -/

theorem sensorsOff_iff (s : State) :
    sensorsOff s = true ↔ s.power.phase = .settle ∨ (s.ctl.mode = .standby ∧ s.power.standby ≠ .waking) := by
  simp [sensorsOff]

theorem sensorsWarming_iff (s : State) :
    sensorsWarming s = true ↔ s.power.phase = .warmUp ∨ s.power.standby = .waking := by
  simp [sensorsWarming]

theorem exec_encoderInvalid_ignored (s : State) (a : Axis)
    (ignored : s.power.phase = .settle ∨ (s.ctl.mode = .standby ∧ s.power.standby ≠ .waking) ∨ (s.axis a).encValid = false) :
    exec (.encoderInvalid a) s = .next s := by
  refine congrArg Host.Outcome.next (if_pos ?_)
  rw [Bool.or_eq_true, sensorsOff_iff, Bool.not_eq_true', or_assoc]
  exact ignored

section
variable {s : State} {a : Axis} (settled : s.power.phase ≠ .settle)
  (on : s.ctl.mode ≠ .standby ∨ s.power.standby = .waking) (valid : (s.axis a).encValid = true)
include settled on valid

theorem encoderInvalid_heard : ¬ (sensorsOff s || !(s.axis a).encValid) = true := by
  rw [Bool.or_eq_true, sensorsOff_iff, valid]
  rintro ((settle | ⟨standby, asleep⟩) | invalid)
  · exact settled settle
  · exact on.elim (· standby) asleep
  · cases invalid

/-- In a warm-up the loss clears the flag alone. -/
theorem exec_encoderInvalid_warming (warming : s.power.phase = .warmUp ∨ s.power.standby = .waking) :
    exec (.encoderInvalid a) s = .next (clearValid s a) :=
  congrArg Host.Outcome.next ((if_neg (encoderInvalid_heard settled on valid)).trans
    (if_pos ((sensorsWarming_iff s).mpr warming)))

theorem exec_encoderInvalid_fault (warm : s.power.phase ≠ .warmUp) (awake : s.power.standby ≠ .waking) :
    exec (.encoderInvalid a) s =
      .next (endEvent s (axisFault (immediateStop (clearValid s a) a true) a (.sensor (.axis a)))) :=
  congrArg Host.Outcome.next ((if_neg (encoderInvalid_heard settled on valid)).trans
    (if_neg fun warming => ((sensorsWarming_iff s).mp warming).elim warm awake))

end

theorem clearValid_alike (s : State) (a : Axis) : StopsAlike a s (clearValid s a) where
  drives := aside_withAxis ..
  arb := withAxis_arb ..
  others _ other := axis_withAxis_other _ _ _ _ other
  phase := (congrArg AxisState.phase (axis_withAxis_same ..)).trans rfl
  stop := (congrArg AxisState.stop (axis_withAxis_same ..)).trans rfl
  lock := Axes.put_lock ..

/-! ## Limit switches (R108) -/

/-- A switch's contact as it stands, and its record from the end of WARM_UP on. -/
theorem putSwitch_eq (s : State) (sw : Switch) (b : Bool) : putSwitch s sw b = s.withAxes { s.axes with
    contacts := s.axes.contacts.put sw b
    tripped := if s.power.phase = .settle ∨ s.power.phase = .warmUp then s.axes.tripped
      else s.axes.tripped.put sw b } := by
  have unread : switchesUnread s = true ↔ s.power.phase = .settle ∨ s.power.phase = .warmUp := by simp [switchesUnread]
  unfold putSwitch
  by_cases early : s.power.phase = .settle ∨ s.power.phase = .warmUp
  · rw [if_pos early, if_pos (unread.mpr early)]
  · rw [if_neg early, if_neg (mt unread.mp early)]

theorem putSwitch_alike (s : State) (sw : Switch) (b : Bool) : StopsAlike (switchAxis sw) s (putSwitch s sw b) := by
  have axis : ∀ a, (putSwitch s sw b).axis a = s.axis a := fun a => by cases a <;> rfl
  exact ⟨rfl, rfl, fun a _ => axis a, by rw [axis], by rw [axis], rfl⟩

theorem exec_limitSwitchTrip_closed (s : State) (sw : Switch) (closed : s.axes.contacts.get sw = true) :
    exec (.limitSwitchTrip sw) s = .next s := congrArg Host.Outcome.next (if_pos closed)

theorem exec_limitSwitchTrip_noted (s : State) (sw : Switch) (opened : s.axes.contacts.get sw = false)
    (passes : tripStops s sw = false) : exec (.limitSwitchTrip sw) s = .next (putSwitch s sw true) :=
  congrArg Host.Outcome.next ((if_neg (ne_true_of_eq_false opened)).trans (if_neg (ne_true_of_eq_false passes)))

theorem exec_limitSwitchTrip_stops (s : State) (sw : Switch) (opened : s.axes.contacts.get sw = false)
    (stops : tripStops s sw = true) : exec (.limitSwitchTrip sw) s = .next (endEvent s
      (axisFault (immediateStop (putSwitch s sw true) (switchAxis sw) true) (switchAxis sw) (.limit (switchAxis sw)))) :=
  congrArg Host.Outcome.next ((if_neg (ne_true_of_eq_false opened)).trans (if_pos stops))

theorem tripStops_driving (s : State) (sw : Switch) (driving : (s.axis (switchAxis sw)).phase = .driving)
    (moving : (s.axis (switchAxis sw)).arrived = false) (toward : towardSwitch s sw = true) : tripStops s sw = true := by
  simp [tripStops, AxisState.inMove, driving, moving, toward]

/-! ## The fault set (R139, R140, R142) -/

theorem addFault_present {s : State} {f : FaultId} (present : f ∈ s.ilk.faults) : addFault s f = s :=
  if_pos (List.contains_iff_mem.mpr present)

theorem addFault_absent {s : State} {f : FaultId} (absent : f ∉ s.ilk.faults) : addFault s f = putFault s f :=
  if_neg (mt List.contains_iff_mem.mp absent)

/-- A fault put where room was made joins the end of the set with FAULT_NEW, and starts the alarm if it is VAN_MOVED. -/
theorem putFault_joins (s : State) (f : FaultId) (room : (makeRoom s).ilk.faults.length < 16) : let u := putFault s f
    u.ilk.faults = (makeRoom s).ilk.faults ++ [f] ∧ u.board.notice.getLsbD 8 = true ∧ u.ilk.first = firstAfter s f ∧
    (f = .vanMoved → u.ilk.alarmRunning = true ∧ u.ilk.alarmOn = true) ∧
    (f ≠ .vanMoved → u.ilk.alarmRunning = (makeRoom s).ilk.alarmRunning ∧ u.ilk.alarmOn = (makeRoom s).ilk.alarmOn) := by
  have bit : ∀ t : State, (setNotice t noticeFault).board.notice.getLsbD 8 = true := fun t => by
    show (t.board.notice ||| BitVec.ofNat 16 (2 ^ 8)).getLsbD 8 = true
    rw [BitVec.getLsbD_or]
    simp
  intro u
  by_cases van : f = .vanMoved
  · have whole : u = alarmPeriodStart (setNotice ((makeRoom s).withIlk { (makeRoom s).ilk with
        faults := (makeRoom s).ilk.faults ++ [f], first := firstAfter s f }) noticeFault) :=
      (if_pos room).trans (if_pos van)
    rw [whole]
    exact ⟨rfl, bit _, rfl, fun _ => ⟨rfl, rfl⟩, fun other => absurd van other⟩
  · have whole : u = setNotice ((makeRoom s).withIlk { (makeRoom s).ilk with
        faults := (makeRoom s).ilk.faults ++ [f], first := firstAfter s f }) noticeFault :=
      (if_pos room).trans (if_neg van)
    rw [whole]
    exact ⟨rfl, bit _, rfl, fun same => absurd same van, fun _ => ⟨rfl, rfl⟩⟩

/-- A set with room is left as it is. -/
theorem makeRoom_roomy (s : State) (room : s.ilk.faults.length < 16) : makeRoom s = s := if_pos room

theorem isStall_iff (f : FaultId) : f.isStall = true ↔ ∃ a, f = .stall a := by
  cases f <;> simp [FaultId.isStall]

theorem spent_iff (s : State) (f : FaultId) : spent s f = true ↔ (∃ a, f = .stall a) ∨ removable s f = true := by
  rw [spent, Bool.or_eq_true, isStall_iff]

/-- In a full set the oldest spent entry gives way, VAN_MOVED with its alarm (R140). -/
theorem makeRoom_full {s : State} {older newer : List FaultId} {d : FaultId} (full : s.ilk.faults.length = 16)
    (distinct : s.ilk.faults.Nodup) (split : s.ilk.faults = older ++ d :: newer) (gives : spent s d = true)
    (stays : ∀ g ∈ older, spent s g = false) :
    (makeRoom s).ilk.faults = older ++ newer ∧
    (d = .vanMoved → (makeRoom s).ilk.alarmRunning = false ∧ (makeRoom s).ilk.alarmOn = false) := by
  have oldest : oldestSpent s = some d := by
    have none : older.find? (spent s) = none := List.find?_eq_none.mpr fun g hg => by simp [stays g hg]
    rw [oldestSpent, split, List.find?_append, none, List.find?_cons_of_pos gives]
    rfl
  rw [split] at distinct
  have left : s.ilk.faults.filter (· != d) = older ++ newer := by
    obtain ⟨fresh, -⟩ := List.nodup_middle.mp distinct |> List.nodup_cons.mp
    have others : ∀ g ∈ older ++ newer, (g != d) = true := fun g hg => by
      simpa using fun same : g = d => fresh (same ▸ hg)
    obtain ⟨before, after⟩ := List.forall_mem_append.mp others
    rw [split, List.filter_append, List.filter_cons_of_neg (by simp), List.filter_eq_self.mpr before,
      List.filter_eq_self.mpr after]
  have whole : makeRoom s = if d = .vanMoved then alarmStop (s.withFaults (s.ilk.faults.filter (· != d)))
      else s.withFaults (s.ilk.faults.filter (· != d)) := by
    rw [makeRoom, if_neg (by omega), oldest]
  rw [whole, left]
  split
  · exact ⟨rfl, fun _ => ⟨rfl, rfl⟩⟩
  next other => exact ⟨rfl, fun van => absurd van other⟩

end Sys2Proof.Machine

open Sys2Proof Sys2Proof.Machine

/-- Settles O41: a loss or a trip that stops its axis is the immediate stop with its report and the stance's reaction; the
fault set by whether it has room. -/
theorem ownFaultStops : Obligations.OwnFaultStops := by
  refine ⟨fun s a => ⟨exec_encoderInvalid_ignored s a, exec_encoderInvalid_warming, ?_⟩, ?_, ?_⟩
  · intro settled warm awake unwaking valid room sound
    have exec := exec_encoderInvalid_fault settled (.inl awake) valid warm unwaking
    have cleared : (clearValid s a).axis a = { s.axis a with encValid := false } := axis_withAxis_same ..
    have sensed := axisFault_sensed (clearValid s a) a (.sensor (.axis a)) a
    rw [cleared] at sensed
    exact ⟨_, exec, congrArg (·.2.1) sensed, congrArg (·.1) sensed, mem_axisFault_stopped _ a _ room,
      axisFault_shown (clearValid_alike s a) sound _⟩
  · intro s sw unread a marked
    have marks : ∀ b, putSwitch s sw b = marked b := putSwitch_eq s sw
    refine ⟨congrArg Host.Outcome.next (marks false), exec_limitSwitchTrip_closed s sw, fun opened passes => ?_,
      fun opened stops room sound => ?_, tripStops_driving s sw⟩
    · rw [exec_limitSwitchTrip_noted s sw opened passes, marks]
    · have kept := axisFault_kept (putSwitch s sw true) a (.limit a)
      refine ⟨_, exec_limitSwitchTrip_stops s sw opened stops, congrArg Kept.contacts kept, ?_,
        mem_axisFault_stopped _ a _ room, axisFault_shown (putSwitch_alike s sw true) sound _⟩
      exact (congrArg Kept.tripped kept).trans (congrArg (·.axes.tripped) (marks true))
  · intro s f u
    refine ⟨addFault_present, fun absent room => ?_, fun older d newer absent full distinct split gives stays => ?_⟩
    · have roomy := makeRoom_roomy s room
      have joins := putFault_joins s f (roomy.symm ▸ room)
      rw [← addFault_absent absent, roomy] at joins
      obtain ⟨faults, notice, first, van, -⟩ := joins
      refine ⟨faults, notice, first.trans ?_, van⟩
      simp [firstAfter]
    · obtain ⟨left, alarm⟩ := makeRoom_full full distinct split ((spent_iff s d).mpr gives) fun g hg => by
        obtain ⟨noStall, cause⟩ := stays g hg
        exact eq_false_of_ne_true fun spent => ((spent_iff s g).mp spent).elim (fun ⟨a, same⟩ => noStall a same)
          fun gone => by simp [cause] at gone
      have room : (makeRoom s).ilk.faults.length < 16 := by
        rw [split] at full
        rw [left]
        simp at full ⊢
        omega
      have joins := putFault_joins s f room
      rw [← addFault_absent absent, left] at joins
      obtain ⟨faults, notice, first, -, quiet⟩ := joins
      refine ⟨faults, notice, first.trans ?_, fun van => ?_⟩
      · simp [firstAfter, split]
      · have other : f ≠ .vanMoved := fun same => absent (by rw [split, same, ← van]; simp)
        obtain ⟨running, on⟩ := quiet other
        rw [show u.ilk.alarmRunning = _ from running, show u.ilk.alarmOn = _ from on]
        exact alarm van

end

section
/-! PROOFS. The grant check (R117, R118) and the start of what it grants (R99, R102): O55. -/
namespace Sys2Proof.Machine

/-! ## The start of one granted axis (R99, R102) -/

/-- A grant to this axis has its lock to release before it drives (R99). -/
def releasesFirst (s : State) (a : Axis) : Prop := a = .mast ∧ s.axes.lock ≠ .released

/-- A mast that releases its lock (R99). -/
def AxisState.releasing (x : AxisState) : AxisState := { x with phase := .releasing, arrived := false, stop := none }

theorem startGranted_drives (s : State) (a : Axis) (free : ¬ releasesFirst s a) :
    startGranted s a = s.withAxis a ((s.axis a).drive a) := by
  cases a with
  | mast => exact if_pos (not_not.mp fun locked => free ⟨rfl, locked⟩)
  | pan => rfl
  | tilt => rfl
  | pol => rfl

theorem startGranted_releases (s : State) (locked : s.axes.lock ≠ .released) :
    startGranted s .mast = (s.withAxis .mast s.axes.mast.releasing).withLock .releasing :=
  if_neg locked

theorem startGranted_lock_free (s : State) (a : Axis) (free : ¬ releasesFirst s a) :
    (startGranted s a).axes.lock = s.axes.lock := by
  rw [startGranted_drives s a free]
  exact Axes.put_lock ..

/-- The start of an axis does not see the arbiter. -/
theorem startGranted_withArb (s : State) (y : Arbiter) (a : Axis) :
    startGranted (s.withArb y) a = (startGranted s a).withArb y := by
  by_cases first : releasesFirst s a
  · obtain ⟨rfl, locked⟩ := first
    rw [startGranted_releases s locked, startGranted_releases (s.withArb y) locked]
    rfl
  · rw [startGranted_drives s a first, startGranted_drives (s.withArb y) a first]
    rfl

/-- The start of an axis sees that axis alone, and the mast's its lock. -/
theorem startGranted_congr {s t : State} {a : Axis} (axis : t.axis a = s.axis a)
    (lock : a = .mast → t.axes.lock = s.axes.lock) :
    (startGranted t a).axis a = (startGranted s a).axis a ∧
      (a = .mast → (startGranted t a).axes.lock = (startGranted s a).axes.lock) := by
  by_cases first : releasesFirst s a
  · obtain ⟨rfl, locked⟩ := first
    rw [startGranted_releases s locked, startGranted_releases t (lock rfl ▸ locked)]
    exact ⟨congrArg AxisState.releasing axis, fun _ => rfl⟩
  · have free : ¬ releasesFirst t a := fun ⟨mast, locked⟩ => first ⟨mast, lock mast ▸ locked⟩
    refine ⟨?_, fun mast => ?_⟩
    · rw [startGranted_drives s a first, startGranted_drives t a free, axis_withAxis_same, axis_withAxis_same, axis]
    · rw [startGranted_lock_free s a first, startGranted_lock_free t a free, lock mast]

theorem rateOf_pos (a : Axis) (up : Bool) : 0 < rateOf a up := by
  cases a with
  | mast => cases up <;> decide
  | pan => exact Nat.succ_pos _
  | tilt => exact Nat.succ_pos _
  | pol => exact Nat.succ_pos _

/-- The deadline of a drive, in tenths rounded up (R102). -/
theorem drive_deadline (x : AxisState) (a : Axis) :
    let d := (x.target - x.position).natAbs
    let rate := rateOf a (decide (x.position < x.target))
    ∃ k, x.drive a = { x with phase := .driving, arrived := false, stop := none, deadline := some (k + 30) } ∧
      15 * d ≤ k * rate ∧ k * rate < 15 * d + rate := by
  intro d rate
  obtain ⟨k, tenths, low, high⟩ := deadlineTenths_bounds d rate (rateOf_pos ..)
  exact ⟨k, by rw [← tenths]; rfl, low, high⟩

/-! ## The start of every granted axis -/

/-- The axes of some requests started one after another, the arbiter untouched. -/
def startAll (s : State) (l : List Request) : State := l.foldl (fun t r => startGranted t r.axis) s

theorem startAll_cons (s : State) (r : Request) (l : List Request) :
    startAll s (r :: l) = startAll (startGranted s r.axis) l := rfl

theorem startAll_withArb (s : State) (y : Arbiter) (l : List Request) :
    startAll (s.withArb y) l = (startAll s l).withArb y := by
  induction l generalizing s with
  | nil => rfl
  | cons r l ih => rw [startAll_cons, startAll_cons, startGranted_withArb, ih]

theorem startAll_other (s : State) (l : List Request) (a : Axis) (other : ∀ r ∈ l, r.axis ≠ a) :
    (startAll s l).axis a = s.axis a := by
  induction l generalizing s with
  | nil => rfl
  | cons r l ih =>
    obtain ⟨first, rest⟩ := List.forall_mem_cons.mp other
    rw [startAll_cons, ih _ rest, startGranted_other _ _ _ first.symm]

theorem startAll_lock_free (s : State) (l : List Request) (free : ∀ r ∈ l, ¬ releasesFirst s r.axis) :
    (startAll s l).axes.lock = s.axes.lock := by
  induction l generalizing s with
  | nil => rfl
  | cons r l ih =>
    obtain ⟨first, rest⟩ := List.forall_mem_cons.mp free
    have same := startGranted_lock_free s r.axis first
    rw [startAll_cons, ih _ (by simpa only [releasesFirst, same] using rest), same]

/-- With one request for each axis, an axis is started as if it were the only one. -/
theorem startAll_member (s : State) (l : List Request) (distinct : (l.map (·.axis)).Nodup) (r : Request) (member : r ∈ l) :
    (startAll s l).axis r.axis = (startGranted s r.axis).axis r.axis ∧
      (r.axis = .mast → (startAll s l).axes.lock = (startGranted s r.axis).axes.lock) := by
  induction l generalizing s with
  | nil => cases member
  | cons q l ih =>
    obtain ⟨fresh, nodup⟩ := List.nodup_cons.mp distinct
    have others : ∀ p ∈ l, p.axis ≠ q.axis := fun p hp same => fresh (List.mem_map.mpr ⟨p, hp, same⟩)
    rw [startAll_cons]
    rcases List.mem_cons.mp member with rfl | later
    · exact ⟨startAll_other _ l _ others,
        fun mast => startAll_lock_free _ l fun p hp first => others p hp (first.1.trans mast.symm)⟩
    · have other := others r later
      obtain ⟨axis, lock⟩ := ih (startGranted s q.axis) nodup later
      obtain ⟨sameAxis, sameLock⟩ := startGranted_congr (startGranted_other s q.axis r.axis other)
        fun mast => startGranted_lock s q.axis fun first => other (mast.trans first.symm)
      exact ⟨axis.trans sameAxis, fun mast => (lock mast).trans (sameLock mast)⟩

/-! ## The grants of a grant check (R118) -/

/-- Some requests granted and their axes started, with the rest of the list left to wait. -/
def granting (s : State) (granted left : List Request) : State :=
  (startAll s granted).withArb ⟨s.arb.grants ++ granted.map (fun r => ⟨r.axis, r.draw⟩), left⟩

theorem granting_nil (s : State) (l : List Request) (waits : s.arb.waits = l) : granting s [] l = s := by
  simp [← waits, granting, startAll, State.withArb]

theorem granting_grantHead (s : State) (r : Request) (rest granted left : List Request) :
    granting (grantHead s r rest) granted left = granting s (r :: granted) left := by
  rw [granting, grantHead, startGranted_arb, startGranted_withArb, startAll_withArb]
  simp [granting, startAll_cons, State.withArb]

theorem currentInUse_granting (s : State) (granted left : List Request) :
    currentInUse (granting s granted left) = currentInUse s + (granted.map (·.draw)).sum := by
  simp [currentInUse, granting, State.withArb, Function.comp_def]

theorem currentInUse_grantHead (s : State) (r : Request) (rest : List Request) :
    currentInUse (grantHead s r rest) = currentInUse s + r.draw := by
  simp [currentInUse, grantHead, startGranted_arb, State.withArb]

theorem grantHead_limits (s : State) (r : Request) (rest : List Request) : (grantHead s r rest).limits = s.limits :=
  congrArg (a₁ := (grantHead s r rest).aside) (a₂ := s.aside) State.limits (aside_startGranted (s.withArb _) _)

/-- A grant check splits the wait list: the first part fits in the budget, and the head of the rest does not (R118). -/
theorem grantLoop_granting (l : List Request) (s : State) (waits : s.arb.waits = l) : ∃ granted left,
    l = granted ++ left ∧ grantLoop l s = granting s granted left ∧
    (granted ≠ [] → currentInUse s + (granted.map (·.draw)).sum ≤ s.limits.budget) ∧
    (∀ h rest, left = h :: rest → s.limits.budget < currentInUse s + (granted.map (·.draw)).sum + h.draw) := by
  induction l generalizing s with
  | nil => exact ⟨[], [], rfl, (granting_nil s _ waits).symm, fun granted => absurd rfl granted, nofun⟩
  | cons r l ih =>
    rw [grantLoop]
    split
    next fits =>
      have rest : (grantHead s r l).arb.waits = l := by
        rw [grantHead, startGranted_arb]
        rfl
      obtain ⟨granted, left, parts, made, budget, stops⟩ := ih (grantHead s r l) rest
      rw [currentInUse_grantHead, grantHead_limits, Nat.add_assoc] at budget stops
      refine ⟨r :: granted, left, by rw [parts]; rfl, by rw [made, granting_grantHead], fun _ => ?_, ?_⟩
      · cases granted with
        | nil => exact fits
        | cons q granted => exact budget (List.cons_ne_nil q granted)
      · exact stops
    next full =>
      refine ⟨[], r :: l, rfl, (granting_nil s _ waits).symm, fun granted => absurd rfl granted, ?_⟩
      rintro _ _ ⟨⟩
      exact not_le.mp full

end Sys2Proof.Machine

open Sys2Proof Sys2Proof.Machine

/-- Settles O55: the split of the wait list from `grantLoop_granting`, and what each grant starts from `startAll_member`. -/
theorem grantOrder : Obligations.GrantOrder := by
  intro s
  obtain ⟨granted, left, parts, made, budget, stops⟩ := grantLoop_granting s.arb.waits s rfl
  have check : grantCheck s = granting s granted left := made
  have inUse := currentInUse_granting s granted left
  have limits : (grantCheck s).limits = s.limits :=
    congrArg (a₁ := (grantCheck s).aside) (a₂ := s.aside) State.limits (aside_grantCheck s)
  rw [← check] at inUse
  rw [← inUse] at budget stops
  refine ⟨granted, left, parts, ?_, ?_, budget, stops, inUse, limits, fun distinct => ?_⟩
  · rw [check]
    rfl
  · rw [check]
    rfl
  rw [parts, List.map_append] at distinct
  have started := startAll_member s granted (List.nodup_append.mp distinct).1
  have axes : (grantCheck s).axes = (startAll s granted).axes := by
    rw [check]
    rfl
  have axis : ∀ a, (grantCheck s).axis a = (startAll s granted).axis a := fun a => congrArg (Axes.get · a) axes
  refine ⟨fun r member free => ?_, fun r member first => ?_, fun a other => ?_, fun free => ?_⟩
  · intro x d rate
    have speed : rateOf r.axis (decide (x.position < x.target)) = rate := by
      cases own : r.axis with
      | mast => simp [rateOf, rate, own]
      | pan => simp [rateOf, rate, own]
      | tilt => simp [rateOf, rate, own]
      | pol => simp [rateOf, rate, own]
    obtain ⟨k, drive, low, high⟩ := drive_deadline x r.axis
    rw [speed] at low high
    refine ⟨k, ?_, low, high⟩
    rw [axis, (started r member).1, startGranted_drives s r.axis free, axis_withAxis_same]
    exact drive
  · obtain ⟨mast, locked⟩ := first
    obtain ⟨own, lock⟩ := started r member
    rw [mast, startGranted_releases s locked] at own lock
    exact ⟨(congrArg Axes.lock axes).trans (lock rfl), (axis .mast).trans own⟩
  · exact (axis a).trans (startAll_other s granted a other)
  · exact (congrArg Axes.lock axes).trans (startAll_lock_free s granted free)

end

section
/-! PROOFS. A sample time of the Wind Monitor (R125 to R128, R131, R132): its window and figure in each anemometer
state, and the judgement of the figure: O33, O34. -/
namespace Sys2Proof.Machine

variable {s : State} {pulses : Nat}

/-! ## The hand-off of the ceiling and the end of the event (R128) -/

theorem kept_handOff (before s : State) : (handOff before s).kept = s.kept := by
  unfold handOff
  (repeat' split) <;> simp

/-- The Wind Monitor, and all that is kept with it, are at the end of the event as the hand-off found them. -/
theorem kept_endEvent_handOff (s v u : State) : (endEvent s (handOff v u)).kept = u.kept :=
  (kept_endEvent _ _).trans (kept_handOff v u)

theorem updateHeader_notice (before s : State) : (updateHeader before s).board.notice = s.board.notice := by
  unfold updateHeader updateHeaderWith
  split <;> rfl

/-- The end of an event clears no NOTICE bit. -/
theorem endEvent_notice (before s : State) (k : Nat) (h : s.board.notice.getLsbD k = true) :
    (endEvent before s).board.notice.getLsbD k = true := by
  rw [endEvent, updateHeader_notice]
  exact (Confined.all s).settle.notice k h

/-- The hand-off of a changed band sets CONDITION. -/
theorem handOff_condition (before s : State) (changed : before.wind.band ≠ s.wind.band) :
    (handOff before s).board.notice.getLsbD 9 = true := by
  unfold handOff
  dsimp only
  rw [if_neg changed]
  show (_ ||| BitVec.ofNat 16 (2 ^ 9)).getLsbD 9 = true
  rw [BitVec.getLsbD_or, Bool.or_eq_true]
  exact .inr (by decide)

/-- A band that the event changed has set CONDITION in NOTICE at its end. -/
theorem endEvent_handOff_condition (s v u : State)
    (changed : (endEvent s (handOff v u)).wind.band ≠ v.wind.band) :
    (endEvent s (handOff v u)).board.notice.getLsbD 9 = true := by
  have wind : (endEvent s (handOff v u)).wind = u.wind := congrArg Kept.wind (kept_endEvent_handOff s v u)
  rw [wind] at changed
  exact endEvent_notice s _ 9 (handOff_condition v u changed.symm)

/-! ## Samples (R125) -/

theorem secondHigh_iff (s : State) : secondHigh s = true ↔ s.wind.anemoOk = true ∧ s.wind.lowInSecond = false := by
  simp [secondHigh]

/-- Of a window of at most three speeds, the newest two stay and the new one joins. -/
theorem joinWindow_eq (w : List Nat) (speed : Nat) (short : w.length ≤ 3) :
    joinWindow w speed = (w ++ [speed]).drop (w.length - 2) := by
  unfold joinWindow
  dsimp only
  rw [List.length_append, List.length_singleton]
  split
  · rw [show w.length - 2 = 1 by omega, List.drop_one]
  · rw [show w.length - 2 = 0 by omega, List.drop_zero]

/-- The window with the speed of a second's pulses. -/
def sampledWindow (s : State) (pulses : Nat) : List Nat := joinWindow s.wind.window (speedOf s.limits.anemoK pulses)

theorem sampledWindow_eq (short : s.wind.window.length ≤ 3) : sampledWindow s pulses =
    (s.wind.window ++ [min 999 (pulses * 10 / s.limits.anemoK)]).drop (s.wind.window.length - 2) :=
  joinWindow_eq _ _ short

theorem sampleWindow_high (high : secondHigh s = true) :
    sampleWindow s pulses = s.withWind { s.wind with window := sampledWindow s pulses } := if_pos high

theorem sampleWindow_low (low : secondHigh s = false) : sampleWindow s pulses = s := if_neg (by simp [low])

/-! ## The figure of a sample time, by the anemometer state (R125, R131, R132) -/

theorem sampleFigure_sampling_high (anem : s.wind.anem = .sampling) (high : secondHigh s = true) :
    sampleFigure s pulses = s.withWind { s.wind with
      window := sampledWindow s pulses, figure := largest (sampledWindow s pulses) } := by
  simp only [sampleFigure, anem, high, if_true, sampleWindow_high high]
  rfl

theorem sampleFigure_sampling_low (anem : s.wind.anem = .sampling) (low : secondHigh s = false) :
    sampleFigure s pulses = s := by
  simp [sampleFigure, anem, low, sampleWindow_low low]

theorem sampleFigure_hold (anem : s.wind.anem = .hold) : sampleFigure s pulses = s := by
  simp only [sampleFigure, anem]

theorem sampleFigure_degraded (anem : s.wind.anem = .degraded) :
    sampleFigure s pulses = s.withFigure s.limits.t2 := by
  simp only [sampleFigure, anem]

theorem sampleFigure_refill (anem : s.wind.anem = .refill) : sampleFigure s pulses = refillSample s pulses := by
  simp only [sampleFigure, anem]

/-- The third fresh speed ends REFILL. -/
theorem refillSample_ends (high : secondHigh s = true) (third : s.wind.refill = 2) :
    refillSample s pulses = s.withWind { s.wind with
      window := sampledWindow s pulses, refill := 3, anem := .sampling
      figure := largest (sampledWindow s pulses) } := by
  simp only [refillSample, high, third, if_true, sampleWindow_high high]
  rfl

theorem refillSample_counts (high : secondHigh s = true) (more : s.wind.refill < 2) :
    refillSample s pulses = s.withWind { s.wind with
      window := sampledWindow s pulses, refill := s.wind.refill + 1, figure := carriedFigure s } := by
  have short : s.wind.refill + 1 ≠ 3 := by omega
  simp only [refillSample, high, if_true, if_neg short, sampleWindow_high high]
  rfl

theorem refillSample_low (low : secondHigh s = false) (more : s.wind.refill ≤ 2) :
    refillSample s pulses = s.withFigure (carriedFigure s) := by
  have short : s.wind.refill ≠ 3 := by omega
  simp only [refillSample, low, if_neg Bool.false_ne_true, if_neg short, sampleWindow_low low]
  rfl

theorem carriedFigure_eq (s : State) :
    carriedFigure s = if s.wind.carry = .heldFigure then s.wind.figure else s.limits.t2 := by
  unfold carriedFigure
  cases s.wind.carry <;> rfl

/-- Whatever the anemometer state, a sample time's figure writes these four fields alone. -/
theorem sampleFigure_eq (s : State) (pulses : Nat) : let w := (sampleFigure s pulses).wind
    sampleFigure s pulses = s.withWind { s.wind with
      window := w.window, figure := w.figure, refill := w.refill, anem := w.anem } := by
  cases anem : s.wind.anem with
  | sampling =>
    cases high : secondHigh s with
    | true =>
      rw [sampleFigure_sampling_high anem high]
      rfl
    | false =>
      rw [sampleFigure_sampling_low anem high]
      rfl
  | hold =>
    rw [sampleFigure_hold anem]
    rfl
  | degraded =>
    rw [sampleFigure_degraded anem]
    rfl
  | refill =>
    rw [sampleFigure_refill anem]
    unfold refillSample sampleWindow
    dsimp only
    (repeat' split) <;> rfl

/-! ## The applied band (R127) -/

section
variable {figure : Nat} {mayFall off : Bool}

theorem judgeFigure_rises (above : s.wind.band < bandOf s.limits figure) :
    judgeFigure s figure mayFall off = restartResidency (s.withBand (bandOf s.limits figure)) off := if_pos above

theorem judgeFigure_stays (same : bandOf s.limits figure = s.wind.band) :
    judgeFigure s figure mayFall off = restartResidency s off :=
  (if_neg (by omega)).trans (if_pos same)

theorem judgeFigure_falls (below : bandOf s.limits figure < s.wind.band) (passed : residencyPassed s = true) :
    judgeFigure s figure true off = restartResidency (s.withBand (s.wind.band - 1)) off :=
  (if_neg (by omega)).trans ((if_neg (by omega)).trans (if_pos (by simpa using passed)))

theorem judgeFigure_waits (below : bandOf s.limits figure < s.wind.band) (waits : residencyPassed s = false) :
    judgeFigure s figure mayFall off = s :=
  (if_neg (by omega)).trans ((if_neg (by omega)).trans (if_neg (by simp [waits])))

/-- A judgement writes the applied band and its residency alone. -/
theorem judgeFigure_eq (s : State) (figure : Nat) (mayFall off : Bool) :
    let w := (judgeFigure s figure mayFall off).wind
    judgeFigure s figure mayFall off = s.withWind { s.wind with band := w.band, residency := w.residency } := by
  unfold judgeFigure
  dsimp only
  (repeat' split) <;> rfl

end

/-! ## A sample time outside priming -/

/-- The second taken: its figure, the residency and the hold timer a second on, and a new second begun. -/
def secondTaken (s : State) (pulses : Nat) : State := newSecond (ageHold (ageResidency (sampleFigure s pulses)))

theorem secondTaken_eq (s : State) (pulses : Nat) : let w := (sampleFigure s pulses).wind
    secondTaken s pulses = s.withWind { s.wind with
      window := w.window, figure := w.figure, refill := w.refill, anem := w.anem
      residency := s.wind.residency.map (fun r => { r with elapsed := r.elapsed + 1 })
      holdTimer := s.wind.holdTimer.map (· - 1), lowInSecond := !s.wind.anemoOk } := by
  intro w
  rw [secondTaken, sampleFigure_eq]
  rfl

/-- The second taken, judged: the Wind Monitor as the event leaves it. -/
def secondJudged (s : State) (pulses : Nat) : State :=
  judgeFigure (secondTaken s pulses) (secondTaken s pulses).wind.figure true false

/-- What the second's figure was taken from stands, and of the rest of the module nothing has changed. -/
theorem secondJudged_rule (s : State) (pulses : Nat) : let u := secondJudged s pulses
    let v := (sampleFigure s pulses).wind
    u.kept = { s.kept with wind := u.wind } ∧ u.wind.window = v.window ∧ u.wind.figure = v.figure ∧
      u.wind.anem = v.anem ∧ u.wind.refill = v.refill ∧ u.wind.lowInSecond = !s.wind.anemoOk := by
  intro u v
  have judged : u = _ := judgeFigure_eq ..
  rw [judged, secondTaken_eq]
  exact ⟨kept_withWind .., rfl, rfl, rfl, rfl, rfl⟩

theorem secondTaken_limits (s : State) (pulses : Nat) : (secondTaken s pulses).limits = s.limits := by
  rw [secondTaken_eq]
  rfl

theorem secondTaken_band (s : State) (pulses : Nat) : (secondTaken s pulses).wind.band = s.wind.band := by
  rw [secondTaken_eq]
  rfl

theorem secondTaken_residency (s : State) (pulses : Nat) : (secondTaken s pulses).wind.residency =
    s.wind.residency.map (fun r => { r with elapsed := r.elapsed + 1 }) := by
  rw [secondTaken_eq]
  rfl

/-- The band of the second's figure. -/
def secondBand (s : State) (pulses : Nat) : Nat := bandOf s.limits (secondJudged s pulses).wind.figure

theorem secondBand_eq (s : State) (pulses : Nat) :
    bandOf (secondTaken s pulses).limits (secondTaken s pulses).wind.figure = secondBand s pulses := by
  have judged : secondJudged s pulses = _ := judgeFigure_eq ..
  rw [secondBand, judged, secondTaken_limits]
  rfl

/-- The residency period of the second taken has passed, the second itself counted (log 8). -/
theorem secondTaken_passed (pulses : Nat) {r : Residency} (running : s.wind.residency = some r) :
    residencyPassed (secondTaken s pulses) = true ↔ r.period + (if r.offCadence then 1 else 0) ≤ r.elapsed + 1 := by
  rw [residencyPassed, secondTaken_residency, running]
  exact decide_eq_true_iff

theorem secondTaken_restarted (s : State) (pulses k : Nat) :
    (restartResidency ((secondTaken s pulses).withBand k) false).wind.residency =
      some ⟨0, s.limits.residency, false⟩ := by
  rw [← secondTaken_limits s pulses]
  rfl

theorem secondJudged_rises (above : s.wind.band < secondBand s pulses) :
    secondJudged s pulses = restartResidency ((secondTaken s pulses).withBand (secondBand s pulses)) false := by
  rw [← secondBand_eq, ← secondTaken_band s pulses] at above
  rw [secondJudged, judgeFigure_rises above, secondBand_eq]

theorem secondJudged_stays (same : secondBand s pulses = s.wind.band) :
    secondJudged s pulses = restartResidency ((secondTaken s pulses).withBand s.wind.band) false := by
  rw [← secondBand_eq, ← secondTaken_band s pulses] at same
  rw [secondJudged, judgeFigure_stays same, ← secondTaken_band s pulses]
  rfl

theorem secondJudged_falls (below : secondBand s pulses < s.wind.band)
    (passed : residencyPassed (secondTaken s pulses) = true) :
    secondJudged s pulses = restartResidency ((secondTaken s pulses).withBand (s.wind.band - 1)) false := by
  rw [← secondBand_eq, ← secondTaken_band s pulses] at below
  rw [secondJudged, judgeFigure_falls below passed, secondTaken_band]

theorem secondJudged_waits (below : secondBand s pulses < s.wind.band)
    (waits : residencyPassed (secondTaken s pulses) = false) : secondJudged s pulses = secondTaken s pulses := by
  rw [← secondBand_eq, ← secondTaken_band s pulses] at below
  exact judgeFigure_waits below waits

/-- A sample time outside priming: the second taken and judged, and the ceiling handed off. -/
theorem windSample_eq (s : State) (pulses : Nat) :
    windSample s pulses = handOff (secondTaken s pulses) (secondJudged s pulses) := rfl

theorem kept_windSample_event (s : State) (pulses : Nat) :
    (endEvent s (windSample s pulses)).kept = (secondJudged s pulses).kept := kept_endEvent_handOff ..

theorem exec_windSample (run : s.wind.running = true) (outside : s.wind.priming = false) :
    exec (.windSample pulses) s = .next (endEvent s (windSample s pulses)) :=
  congrArg Host.Outcome.next ((if_neg (by simp [run])).trans (if_neg (by simp [outside])))

end Sys2Proof.Machine

open Sys2Proof Sys2Proof.Machine

/-- Settles O33: `sampleFigure` by the anemometer state, and `secondJudged_rule` to the end of the event. -/
theorem windSampleFigure : Obligations.WindSampleFigure := by
  intro s pulses run outside short speed joined high
  obtain ⟨alone, window, figure, anem, refill, begun⟩ := secondJudged_rule s pulses
  have kept := (kept_windSample_event s pulses).trans alone
  have wind : (endEvent s (windSample s pulses)).wind = (secondJudged s pulses).wind := congrArg Kept.wind kept
  have isHigh : high → secondHigh s = true := (secondHigh_iff s).mpr
  have isLow : ¬ high → secondHigh s = false := fun low => eq_false_of_ne_true (mt (secondHigh_iff s).mp low)
  have joins : sampledWindow s pulses = joined := sampledWindow_eq short
  refine ⟨_, exec_windSample run outside, congrArg Kept.limits kept, congrArg Kept.power kept,
    congrArg Kept.intake kept, congrArg Kept.lines kept, ?_⟩
  rw [wind, window, figure, anem, refill]
  refine ⟨begun, fun sampling h => ?_, fun sampling low => ?_, fun hold => ?_, fun degraded => ?_,
    fun refills h third => ?_, fun refills h more => ?_, fun refills low more => ?_⟩
  · rw [sampleFigure_sampling_high sampling (isHigh h), joins]
    exact ⟨rfl, rfl, sampling⟩
  · rw [sampleFigure_sampling_low sampling (isLow low)]
    exact ⟨rfl, rfl⟩
  · rw [sampleFigure_hold hold]
    exact ⟨rfl, rfl, hold⟩
  · rw [sampleFigure_degraded degraded]
    exact ⟨rfl, rfl, degraded⟩
  · rw [sampleFigure_refill refills, refillSample_ends (isHigh h) third, joins]
    exact ⟨rfl, rfl, rfl⟩
  · rw [sampleFigure_refill refills, refillSample_counts (isHigh h) more, joins]
    exact ⟨refills, rfl, rfl, carriedFigure_eq s⟩
  · rw [sampleFigure_refill refills, refillSample_low (isLow low) more]
    exact ⟨refills, rfl, rfl, carriedFigure_eq s⟩

/-- Settles O34: the judgement of the second taken, by where the band of its figure lies. -/
theorem bandJudged : Obligations.BandJudged := by
  intro s pulses r run outside running
  have wind : (endEvent s (windSample s pulses)).wind = (secondJudged s pulses).wind :=
    congrArg Kept.wind (kept_windSample_event s pulses)
  have condition := endEvent_handOff_condition s (secondTaken s pulses) (secondJudged s pulses)
  rw [← windSample_eq, secondTaken_band] at condition
  refine ⟨_, exec_windSample run outside, ?_⟩
  intro b passed
  have band : b = secondBand s pulses := congrArg (bandOf s.limits) (congrArg Wind.figure wind)
  have hasPassed : residencyPassed (secondTaken s pulses) = true ↔ passed := secondTaken_passed pulses running
  clear_value b
  subst band
  rw [wind] at condition ⊢
  refine ⟨fun above => ?_, fun same => ?_, fun below due => ?_, fun below early => ?_, fun restart => ?_, condition⟩
  · rw [secondJudged_rises above]
    rfl
  · rw [secondJudged_stays same]
    rfl
  · rw [secondJudged_falls below (hasPassed.mpr due)]
    rfl
  · rw [secondJudged_waits below (eq_false_of_ne_true (mt hasPassed.mp early)), secondTaken_band, secondTaken_residency,
      running]
    exact ⟨rfl, rfl⟩
  · rcases lt_trichotomy (secondBand s pulses) s.wind.band with below | same | above
    · have due : passed := restart.resolve_left (by omega)
      rw [secondJudged_falls below (hasPassed.mpr due), secondTaken_restarted]
    · rw [secondJudged_stays same, secondTaken_restarted]
    · rw [secondJudged_rises above, secondTaken_restarted]

end

section
/-! PROOFS. ANEMO_OK lost and returned, the end of the hold timer, and the end of a wake's priming (R131 to R133): O35,
O36. -/
namespace Sys2Proof.Machine

variable {s : State} {pulses : Nat}

/-! ## A loss of ANEMO_OK (R131) -/

theorem lossState_holds (held : s.wind.anem = .sampling ∨ s.wind.anem = .refill ∧ s.wind.carry = .heldFigure) :
    lossState s = startHold s := by
  rcases held with sampling | ⟨refill, carry⟩
  · simp only [lossState, sampling]
  · simp only [lossState, refill, carry]

theorem lossState_degrades (refill : s.wind.anem = .refill) (carry : s.wind.carry = .bandTwo) :
    lossState s = s.withWind { s.wind with anem := .degraded } := by
  simp only [lossState, refill, carry]

/-- A loss writes the anemometer state and the hold timer alone. -/
theorem lossState_eq (s : State) : let w := (lossState s).wind
    lossState s = s.withWind { s.wind with anem := w.anem, holdTimer := w.holdTimer } := by
  unfold lossState
  (repeat' split) <;> rfl

/-- A loss outside priming: SENSOR(ANEMO) reported, then the anemometer state. -/
theorem anemoLoss_outside (outside : s.wind.priming = false) :
    anemoLoss s = lossState (reportFault s (.sensor .anemo)) := if_neg (by simp [outside])

theorem reportFault_wind (s : State) (f : FaultId) : (reportFault s f).wind = s.wind :=
  congrArg Kept.wind (kept_reportFault s f)

theorem exec_anemoOkLow (run : s.wind.running = true) (high : s.wind.anemoOk = true) :
    exec .anemoOkLow s = .next (endEvent s (anemoLoss (s.withAnemoLine false))) :=
  congrArg Host.Outcome.next ((if_neg (by simp [high])).trans (if_pos run))

theorem exec_anemoOkHigh (run : s.wind.running = true) (outside : s.wind.priming = false)
    (low : s.wind.anemoOk = false) : exec .anemoOkHigh s = .next (returnState (s.withAnemoLine true)) :=
  congrArg Host.Outcome.next ((if_neg (by simp [low])).trans (if_pos (by simp [run, outside])))

/-! ## The return of ANEMO_OK (R132) -/

theorem withAnemoLine_true (s : State) : s.withAnemoLine true = s.withWind { s.wind with anemoOk := true } := by
  simp [State.withAnemoLine]

theorem returnState_hold (hold : s.wind.anem = .hold) : returnState s = startRefill s .heldFigure := by
  simp only [returnState, hold]

theorem returnState_degraded (degraded : s.wind.anem = .degraded) : returnState s = startRefill s .bandTwo := by
  simp only [returnState, degraded]

/-! ## The end of a priming (R133) -/

/-- The window of a sample time in a priming: the speed joins it in a second that gives one. -/
def primedWindow (s : State) (pulses : Nat) : List Nat :=
  if secondHigh s then sampledWindow s pulses else s.wind.window

/-- The window as R125 gives it, for at most three speeds. -/
theorem primedWindow_eq (short : s.wind.window.length ≤ 3) : primedWindow s pulses =
    if s.wind.anemoOk = true ∧ s.wind.lowInSecond = false then
      (s.wind.window ++ [min 999 (pulses * 10 / s.limits.anemoK)]).drop (s.wind.window.length - 2)
    else s.wind.window := by
  rw [primedWindow, sampledWindow_eq short]
  exact if_congr (secondHigh_iff s) rfl rfl

theorem primingSample_eq (s : State) (pulses : Nat) : primingSample s pulses = s.withWind { s.wind with
    window := primedWindow s pulses, figure := largest (primedWindow s pulses), lowInSecond := !s.wind.anemoOk } := by
  unfold primingSample primedWindow
  cases high : secondHigh s with
  | true =>
    rw [sampleWindow_high high]
    rfl
  | false =>
    rw [sampleWindow_low high]
    rfl

theorem endPriming_sound (sound : s.wind.primingLost = false) : endPriming s pulses = s.withWind { s.wind with
    window := primedWindow s pulses, figure := largest (primedWindow s pulses), lowInSecond := !s.wind.anemoOk
    band := bandOf s.limits (largest (primedWindow s pulses)), anem := .sampling
    priming := false, primingLost := false, residency := some ⟨0, s.limits.residency, false⟩ } := by
  rw [endPriming, primingSample_eq]
  simp only [withWind_wind, sound, if_neg Bool.false_ne_true]
  rfl

theorem endPriming_lost (lost : s.wind.primingLost = true) : endPriming s pulses = s.withWind { s.wind with
    window := if s.wind.anemoOk then [] else primedWindow s pulses, figure := s.limits.t2
    lowInSecond := !s.wind.anemoOk, band := 2, anem := if s.wind.anemoOk then .refill else .degraded
    carry := .bandTwo, refill := 0, priming := false, primingLost := false
    residency := some ⟨0, s.limits.residency, false⟩ } := by
  rw [endPriming, primingSample_eq]
  simp only [withWind_wind, lost, if_true]
  rfl

/-- The end of a priming writes the Wind Monitor alone. -/
theorem kept_endPriming (s : State) (pulses : Nat) :
    (endPriming s pulses).kept = { s.kept with wind := (endPriming s pulses).wind } := by
  cases lost : s.wind.primingLost with
  | false =>
    rw [endPriming_sound lost]
    exact kept_withWind ..
  | true =>
    rw [endPriming_lost lost]
    exact kept_withWind ..

theorem exec_primingEnd (priming : s.wind.priming = true) (started : s.ctl.mode ≠ .starting) :
    exec (.primingEnd pulses) s = .next (endEvent s (handOff s (endPriming s pulses))) :=
  congrArg Host.Outcome.next (if_pos (by simp [priming, started]))

end Sys2Proof.Machine

open Sys2Proof Sys2Proof.Machine

/-- Settles O35, event by event: `lossState` after the report of the loss, `returnState` after the line's change. -/
theorem anemometerEvents : Obligations.AnemometerEvents := by
  intro s run outside
  refine ⟨fun high room => ?_, fun low since => ?_, fun hold => congrArg Host.Outcome.next (if_pos hold)⟩
  · have loss : anemoLoss (s.withAnemoLine false) = lossState (reportFault (s.withAnemoLine false) (.sensor .anemo)) :=
      anemoLoss_outside outside
    have wind := reportFault_wind (s.withAnemoLine false) (.sensor .anemo)
    have held := mem_reportFault_self (s.withAnemoLine false) (.sensor .anemo) room
    refine ⟨_, exec_anemoOkLow run high, ?_⟩
    rw [loss]
    generalize reportFault (s.withAnemoLine false) (.sensor .anemo) = v at wind held
    have anem : v.wind.anem = s.wind.anem := (congrArg Wind.anem wind).trans rfl
    have carry : v.wind.carry = s.wind.carry := (congrArg Wind.carry wind).trans rfl
    have whole : lossState v = _ := lossState_eq v
    have line : (lossState v).wind.anemoOk = false ∧ (lossState v).wind.lowInSecond = true ∧
        (lossState v).wind.figure = s.wind.figure ∧ (lossState v).wind.window = s.wind.window ∧
        (lossState v).wind.band = s.wind.band := by
      rw [whole, withWind_wind, wind]
      exact ⟨rfl, Bool.or_true _, rfl, rfl, rfl⟩
    obtain ⟨ok, lowIn, figure, window, band⟩ := line
    refine ⟨ok, lowIn, whole ▸ held, figure, window, band, fun holds => ?_, fun refill bandTwo => ?_⟩
    · rw [← anem, ← carry] at holds
      rw [lossState_holds holds]
      exact ⟨rfl, rfl⟩
    · rw [lossState_degrades (anem.trans refill) (carry.trans bandTwo)]
      rfl
  · rw [exec_anemoOkHigh run outside low, withAnemoLine_true]
    set u := s.withWind { s.wind with anemoOk := true }
    rcases since with hold | degraded
    · have returned : returnState u = startRefill u .heldFigure := returnState_hold hold
      rw [returned, if_pos hold]
      rfl
    · have returned : returnState u = startRefill u .bandTwo := returnState_degraded degraded
      rw [returned, if_neg (by simp [degraded])]
      rfl

/-- Settles O36: `endPriming_sound` and `endPriming_lost`, whose outcome the hand-off and the end of the event keep. -/
theorem primingEnds : Obligations.PrimingEnds := by
  intro s pulses priming started
  have kept := (kept_endEvent_handOff s s (endPriming s pulses)).trans (kept_endPriming s pulses)
  have wind : (endEvent s (handOff s (endPriming s pulses))).wind = (endPriming s pulses).wind :=
    congrArg Kept.wind kept
  have limits : (endEvent s (handOff s (endPriming s pulses))).limits = s.limits := congrArg Kept.limits kept
  have power : (endEvent s (handOff s (endPriming s pulses))).power = s.power := congrArg Kept.power kept
  have condition := endEvent_handOff_condition s s (endPriming s pulses)
  refine ⟨_, exec_primingEnd priming started, ?_⟩
  generalize endEvent s (handOff s (endPriming s pulses)) = t at wind limits power condition ⊢
  rw [wind] at condition ⊢
  cases lost : s.wind.primingLost with
  | false =>
    rw [endPriming_sound lost] at condition ⊢
    refine ⟨rfl, rfl, rfl, rfl, fun _ => ⟨rfl, rfl, fun short => ?_⟩, nofun, condition, limits, power⟩
    dsimp only
    rw [← primedWindow_eq short]
    exact ⟨rfl, rfl⟩
  | true =>
    rw [endPriming_lost lost] at condition ⊢
    refine ⟨rfl, rfl, rfl, rfl, nofun, fun _ => ⟨rfl, rfl, fun high => ?_, fun low => ?_⟩, condition, limits, power⟩
    · rw [high]
      exact ⟨rfl, rfl, rfl, rfl⟩
    · rw [low]
      rfl

end

section
/-! PROOFS. The timers of ALARM and of the uptime (R151, R162): O46. -/
namespace Sys2Proof.Machine

/-- A field that stands outlasts a store beside it. -/
theorem holds_beside {m : Memory} {a b : Nat} {bs cs : List Byte} (h : m.holds a bs)
    (apart : a + bs.length ≤ b ∨ b + cs.length ≤ a) : Memory.holds (writeBytes m b cs) a bs := by
  rw [Memory.holds, readBytes_congr fun k hk => read8_writeBytes_other cs m b (a + k) (by omega)]
  exact h

/-- A second more changes the low byte of the uptime. -/
theorem uptimeBytes_next (t : Nat) : leBytes 4 t ≠ leBytes 4 (t + 1) := by
  intro same
  have low : t % 256 = (t + 1) % 256 := by
    simpa using congrArg BitVec.toNat (List.cons.inj same).1
  omega

/-- Of the header a second of uptime changes the uptime alone (log 65). -/
theorem changedFields_uptime (s : State) (t : Nat) (next : t = s.power.uptime + 1) :
    changedFields s (s.withPower { s.power with uptime := t }) = [(12, leBytes 4 t)] := by
  have differs : leBytes 4 s.power.uptime ≠ leBytes 4 t := next ▸ uptimeBytes_next _
  have sameStage : becameReady s (s.withPower { s.power with uptime := t }) = false := by
    simp [becameReady]
  simp [changedFields, sameStage, headerFields, headerDatum, differs]

theorem exec_uptimeTick (s : State) (settled : s.power.phase ≠ .settle) : exec .uptimeTick s = .next
    (writeHeaderFields (s.withPower { s.power with uptime := s.power.uptime + 1 })
      [(12, leBytes 4 (s.power.uptime + 1))]) := by
  refine congrArg Host.Outcome.next ((if_neg settled).trans ?_)
  rw [updateHeader, updateHeaderWith, changedFields_uptime s _ rfl]
  rfl

end Sys2Proof.Machine

open Sys2Proof Sys2Proof.Machine

/-- Settles O46: the uptime is the only header field that its second changes, and its store lies beside the sequence's. -/
theorem alarmAndUptime : Obligations.AlarmAndUptime := by
  refine fun s => ⟨fun runs => ⟨congrArg Host.Outcome.next (if_pos runs), ?_⟩, fun hw settled => ?_⟩
  · refine congrArg Host.Outcome.next ((if_pos runs).trans ?_)
    rw [alarmPeriodStart, ← runs]
  · set q := s.board.headerSeq + 2#16
    have stored := writeBytes_wf (leBytes 4 (s.power.uptime + 1)) s.mem 12 hw
    have uptime := holds_beside (holds_writeBytes 12 (leBytes 4 (s.power.uptime + 1)) hw) (b := 10)
      (cs := leBytes 2 q.toNat) (.inr (by simp))
    refine ⟨_, exec_uptimeTick s settled, readU32_holds uptime, ?_, fun a outside => ?_⟩
    · exact (readU16_holds (holds_writeBytes 10 _ stored)).trans (Nat.mod_eq_of_lt q.isLt)
    · refine read8_writeFields_other _ s.mem a fun f hf => ?_
      simp only [List.cons_append, List.nil_append, List.mem_cons, List.not_mem_nil, or_false] at hf
      rcases hf with rfl | rfl <;> simp <;> omega

end

section
/-! PROOFS. Inclinometer readings (R138, R166, R171): O39. -/
namespace Sys2Proof.Machine

/-! ## A reading taken (R138) -/

theorem exec_inclinometerReading (s : State) (r : Tilts) (settled : s.power.phase ≠ .settle)
    (on : s.ctl.mode ≠ .standby ∨ s.power.standby = .waking) :
    exec (.inclinometerReading r) s = .next (endEvent s (warmUpReading (takeReading s r))) := by
  have sensing : ¬ sensorsOff s = true := by
    rw [sensorsOff_iff]
    tauto
  exact congrArg Host.Outcome.next (if_neg sensing)

theorem takeReading_valid {s : State} {r : Tilts} (valid : r.valid = true) : takeReading s r = takeAttitude s r :=
  if_pos valid

/-- An invalid reading reports SENSOR(INCL), but not while the sensors warm up. -/
theorem takeReading_invalid {s : State} {r : Tilts} (invalid : r.valid = false) :
    let t := s.withIlk { s.ilk with inclValid := false }
    takeReading s r = if sensorsWarming s then t else reportFault t (.sensor .incl) :=
  if_neg (ne_true_of_eq_false invalid)

theorem takeReading_axes (s : State) (r : Tilts) : (takeReading s r).axes = s.axes := by
  unfold takeReading
  dsimp only
  split
  · rfl
  · split
    · rfl
    · exact (reportFault_drives ..).1

/-- Of what is kept a reading writes the attitude, when it is valid, and the valid flag. -/
theorem kept_takeReading (s : State) (r : Tilts) : (takeReading s r).kept = { s.kept with
    pitch := if r.valid then r.pitch else s.ilk.pitch
    roll := if r.valid then r.roll else s.ilk.roll
    inclValid := r.valid } := by
  cases valid : r.valid with
  | true =>
    rw [takeReading_valid valid]
    rfl
  | false =>
    rw [takeReading_invalid valid]
    split
    · rfl
    · rw [kept_reportFault]
      rfl

/-! ## The end of WARM_UP (R166) -/

/-- The reading that ends WARM_UP is the valid one that finds every encoder valid. -/
abbrev tiltsEnd (s : State) (r : Tilts) : Prop :=
  s.power.phase = .warmUp ∧ r.valid = true ∧ ∀ a, (s.axis a).encValid = true

theorem takeReading_ends_iff (s : State) (r : Tilts) :
    (takeReading s r).power.phase = .warmUp ∧ sensorsValid (takeReading s r) = true ↔ tiltsEnd s r := by
  have kept := kept_takeReading s r
  have power : (takeReading s r).power = s.power := congrArg Kept.power kept
  have incl : (takeReading s r).ilk.inclValid = r.valid := congrArg Kept.inclValid kept
  have axis : ∀ a, (takeReading s r).axis a = s.axis a := fun a => congrArg (Axes.get · a) (takeReading_axes s r)
  simp only [sensorsValid_iff, power, incl, axis, tiltsEnd]
  tauto

theorem warmUpReading_tiltsEnd {s : State} {r : Tilts} (ends : tiltsEnd s r) :
    warmUpReading (takeReading s r) = warmUpClear (takeAttitude s r) := by
  have both := (takeReading_ends_iff s r).mpr ends
  rw [warmUpReading, if_pos both, warmUpEnded_clear _ both.2, takeReading_valid ends.2.1]

theorem warmUpReading_tiltsStay {s : State} {r : Tilts} (stays : ¬ tiltsEnd s r) :
    warmUpReading (takeReading s r) = takeReading s r :=
  if_neg (mt (takeReading_ends_iff s r).mp stays)

theorem startPriming_mode (s : State) : (startPriming s).ctl.mode = s.ctl.mode := by
  unfold startPriming primingLoss
  dsimp only
  split
  · rfl
  · obtain ⟨b, ctl⟩ := reportFault_ctl (s.withWind { s.wind with
      running := true, priming := true, primingLost := false, window := [], anem := .sampling, holdTimer := none
      refill := 0, lowInSecond := !s.wind.anemoOk }) (.sensor .anemo)
    exact (congrArg Control.mode ctl).trans rfl

/-- What the reading that ends WARM_UP leaves (R133, R166). -/
theorem warmUpClear_takeAttitude (s : State) (r : Tilts) : let u := warmUpClear (takeAttitude s r)
    u.kept = { s.kept with
      pitch := r.pitch, roll := r.roll, inclValid := true, tripped := s.axes.contacts
      power := { s.power with phase := .priming }, wind := u.wind } ∧
    u.axes = { s.axes with tripped := s.axes.contacts } ∧ u.ctl.mode = s.ctl.mode ∧
    u.wind.running = true ∧ u.wind.priming = true ∧ u.wind.window = [] ∧
    (s.wind.anemoOk = true → u.ilk.faults = s.ilk.faults) := by
  set w := ((takeAttitude s r).withAxes { s.axes with tripped := s.axes.contacts }).withPower
    { s.power with phase := .priming }
  have mode : (startPriming w).ctl.mode = s.ctl.mode := startPriming_mode w
  obtain ⟨kept, axes, runs, primes, window, ilk⟩ := startPriming_rule w
  refine ⟨kept, axes, mode, runs, primes, window, fun ok => ?_⟩
  exact (congrArg Interlock.faults (ilk ok)).trans rfl

/-- An event before READY brings about nothing but its header write. -/
theorem endEvent_stopped {u : State} (before : State) (stopped : running u = false) :
    endEvent before u = updateHeader before u :=
  congrArg (updateHeader before) (if_neg (ne_true_of_eq_false stopped))

/-- What an event that changes lines or attitude alone of what is kept leaves alone. -/
theorem surroundingsKept_of_kept_ilk {s t : State} {l : Lines} {p q : Int} {v : Bool}
    (h : t.kept = { s.kept with lines := l, pitch := p, roll := q, inclValid := v }) : surroundingsKept s t :=
  surroundingsKept_of_kept (s := s.withIlk { s.ilk with lines := l, pitch := p, roll := q, inclValid := v }) h

theorem inclinometer_ends {s : State} {r : Tilts} (ends : tiltsEnd s r) :
    let u := warmUpReading (takeReading s r)
    let t := endEvent s u
    t.ilk.inclValid = true ∧ t.ilk.lines = s.ilk.lines ∧ t.ilk.pitch = r.pitch ∧ t.ilk.roll = r.roll ∧
    (s.wind.anemoOk = true → u.ilk.faults = s.ilk.faults) ∧
    (s.ctl.mode = .starting → t.power = { s.power with phase := .priming } ∧ t.wind.running = true ∧
      t.wind.priming = true ∧ t.wind.window = [] ∧ t.axes = { s.axes with tripped := s.axes.contacts }) := by
  rw [warmUpReading_tiltsEnd ends]
  obtain ⟨kept, axes, mode, runs, primes, window, faults⟩ := warmUpClear_takeAttitude s r
  generalize warmUpClear (takeAttitude s r) = u at *
  have shown := (kept_endEvent s u).trans kept
  have wind : (endEvent s u).wind = u.wind := congrArg Kept.wind shown
  refine ⟨congrArg Kept.inclValid shown, congrArg Kept.lines shown, congrArg Kept.pitch shown, congrArg Kept.roll shown,
    faults, fun starting => ⟨congrArg Kept.power shown, wind ▸ runs, wind ▸ primes, wind ▸ window, ?_⟩⟩
  have stopped : running u = false := by rw [running, mode, starting]
  rw [endEvent_stopped s stopped, (updateHeader_same ..).1, axes]

end Sys2Proof.Machine

open Sys2Proof Sys2Proof.Machine

/-- Settles O39: the reading is recorded, and the one that ends WARM_UP starts the priming besides. -/
theorem inclinometerTaken : Obligations.InclinometerTaken := by
  intro s r settled on room
  refine ⟨_, exec_inclinometerReading s r settled on, ?_⟩
  by_cases ends : tiltsEnd s r
  · have valid := ends.2.1
    obtain ⟨incl, lines, pitch, roll, faults, primed⟩ := inclinometer_ends ends
    refine ⟨incl.trans valid.symm, lines, fun stays => absurd ends stays, fun _ => ⟨pitch, roll, fun clear => ?_⟩,
      fun invalid => ?_, fun _ => primed⟩
    · exact faults (clear.resolve_left (not_not_intro ends))
    · rw [valid] at invalid
      cases invalid
  · have shown := (kept_endEvent s (takeReading s r)).trans (kept_takeReading s r)
    have pitch :
        (endEvent s (takeReading s r)).ilk.pitch = if r.valid then r.pitch else s.ilk.pitch := congrArg Kept.pitch shown
    have roll : (endEvent s (takeReading s r)).ilk.roll = if r.valid then r.roll else s.ilk.roll := congrArg Kept.roll shown
    rw [warmUpReading_tiltsStay ends]
    refine ⟨congrArg Kept.inclValid shown, congrArg Kept.lines shown, fun _ => surroundingsKept_of_kept_ilk shown,
      fun valid => ⟨pitch.trans (if_pos valid), roll.trans (if_pos valid), fun _ => ?_⟩,
      fun invalid => ⟨pitch.trans ?_, roll.trans ?_, fun warm awake => ?_⟩, fun stops => absurd stops ends⟩
    · rw [takeReading_valid valid]
      rfl
    · simp [invalid]
    · simp [invalid]
    · have reports : ¬ sensorsWarming s = true := by
        rw [sensorsWarming_iff]
        tauto
      rw [takeReading_invalid invalid, if_neg reports]
      exact mem_reportFault_self _ _ room

end

section
/-! PROOFS. Changes of the van and pendant lines (R9, R27, R78, R93, R112, R113, R137): O28. -/
namespace Sys2Proof.Machine

/-! ## A line event (R137) -/

/-- A level already recorded is no event (log 3). -/
theorem lineEvent_same {s : State} {l : Lines} {wakes : Bool} {act : State → State} (same : l = s.ilk.lines) :
    lineEvent s l wakes act = s := if_pos (.inr same)

theorem lineEvent_running {s : State} {l : Lines} {wakes : Bool} {act : State → State} (run : running s = true)
    (settled : s.power.phase ≠ .settle) (differs : l ≠ s.ilk.lines) :
    lineEvent s l wakes act = endEvent s (act (s.withLines l)) :=
  (if_neg (not_or_intro settled differs)).trans (if_pos run)

/-- Of what is kept a change of a line records the lines alone. -/
theorem kept_lineEvent {s : State} {l : Lines} {wakes : Bool} {act : State → State} (run : running s = true)
    (settled : s.power.phase ≠ .settle) (keeps : ∀ t, (act t).kept = t.kept) :
    (lineEvent s l wakes act).kept = { s.kept with lines := l } := by
  by_cases same : l = s.ilk.lines
  · rw [lineEvent_same same, same]
    rfl
  · rw [lineEvent_running run settled same, kept_endEvent, keeps]
    rfl

theorem lineEvent_surroundings {s : State} {l : Lines} {wakes : Bool} {act : State → State} (run : running s = true)
    (settled : s.power.phase ≠ .settle) (keeps : ∀ t, (act t).kept = t.kept) :
    (lineEvent s l wakes act).ilk.lines = l ∧ surroundingsKept s (lineEvent s l wakes act) := by
  have kept := kept_lineEvent (l := l) (wakes := wakes) run settled keeps
  exact ⟨congrArg Kept.lines kept, surroundingsKept_of_kept_ilk kept⟩

theorem kept_overheadStop (s : State) : (overheadStop s).kept = s.kept := by
  rw [overheadStop, kept_withGoalAtRest, kept_endWhere, kept_controlledStops, kept_reportFault]

theorem kept_holdStance (before s : State) : (holdStance before s).kept = s.kept := by
  have commands : (holdCommands s).kept = s.kept := by
    unfold holdCommands
    dsimp only
    split <;> simp
  rw [holdStance_eq]
  split
  · rw [kept_dishStands, commands]
  · exact commands

theorem kept_releaseStance (s : State) : (releaseStance s).kept = s.kept := by
  unfold releaseStance
  dsimp only
  split <;> simp

/-! ## The dish's targets issued again (R27, R78, R93) -/

theorem deriveSite_eq (s : State) : deriveSite s =
    let e := liveEntry s
    let trimPan := if e.trim.valid then e.trim.pan else 0
    let trimTilt := if e.trim.valid then e.trim.tilt else 0
    if e.state = .empty then s
    else s.withCtl { s.ctl with
      siteTargets := deriveTargets e.sol trimPan trimTilt s.axes.pan.position, siteTrimPan := trimPan
      siteTrimTilt := trimTilt } := rfl

theorem staysOnSolution_iff (s : State) : staysOnSolution s = true ↔
    s.stance.dishGoal = .site ∧ (s.ctl.dishState = .onSolution ∨ s.ctl.dishState = .locked) ∧
      s.ctl.touchUpMark = false ∧ dishAtRest s = true ∧ dishNear s (deriveSite s).ctl.siteTargets = true := by
  simp [staysOnSolution]

/-- A dish that does not stay on its solution turns to its goal (R27). -/
theorem reissueDish_turns {s : State} (able : canIssue s = true) (turns : ¬ staysOnSolution s = true) :
    reissueDish s = pursueDish s := by
  rw [reissueDish, if_neg turns, pursueDish, if_pos able]

/-- A dish that stays on its solution takes up what HOLD_LINE held back (R78, log 22). -/
theorem reissueDish_stays {s : State} (stays : staysOnSolution s = true) : reissueDish s =
    if s.stance.peakPending then startSearch (deriveSite s) .full
    else if s.ctl.dishState = .locked ∧ s.level.watch = some 5 then startSearch (deriveSite s) .touchUp
    else deriveSite s := if_pos stays

end Sys2Proof.Machine

open Sys2Proof Sys2Proof.Machine

/-- Settles O28: each change is a `lineEvent` whose action keeps what lies about the stance; the dish's targets are issued
again by `staysOnSolution`. -/
theorem lineChangesTaken : Obligations.LineChangesTaken := by
  refine ⟨fun s b run settled => ?_, fun s b run settled => ?_, fun s able => ?_⟩
  · refine ⟨⟨_, rfl, lineEvent_surroundings run settled fun t => ?_⟩,
      ⟨_, rfl, lineEvent_surroundings run settled fun t => ?_⟩, ⟨_, rfl, lineEvent_surroundings run settled fun _ => rfl⟩,
      ⟨_, rfl, lineEvent_surroundings run settled fun t => ?_⟩, ⟨_, rfl, lineEvent_surroundings run settled kept_releaseStance⟩⟩
    · split
      · exact kept_recomputeEff t
      · rfl
    · split
      · exact kept_recomputeEff t
      · split
        · exact kept_overheadStop t
        · rfl
    · split
      · exact kept_holdAxes t
      · rw [kept_holdStance, kept_holdAxes]
  · have event : ∀ {l : Lines} {wakes : Bool} {act : State → State}, l ≠ s.ilk.lines →
        Host.Outcome.next (lineEvent s l wakes act) =
          (.next (endEvent s (act (s.withLines l))) : Host.Outcome State Fault Refusal) :=
      fun differs => congrArg Host.Outcome.next (lineEvent_running run settled differs)
    have idle : ∀ {l : Lines} {wakes : Bool} {act : State → State}, l = s.ilk.lines →
        Host.Outcome.next (lineEvent s l wakes act) = (.next s : Host.Outcome State Fault Refusal) :=
      fun same => congrArg Host.Outcome.next (lineEvent_same same)
    refine ⟨fun same => idle (by rw [← same]), fun same => idle (by rw [← same]), fun same => idle (by rw [← same]),
      fun same => idle (by rw [← same]), fun same => idle (by rw [← same]), fun off => ?_, fun on => ?_, fun on => ?_,
      fun off still => ?_, fun differs => ?_, fun on able => ?_, fun on unable => ?_⟩
    · exact event fun same => by simpa [off] using congrArg Lines.park same
    · exact event fun same => by simpa [on] using congrArg Lines.park same
    · exact event fun same => by simpa [on] using congrArg Lines.overhead same
    · refine (event fun same => by simpa [off] using congrArg Lines.overhead same).trans ?_
      exact congrArg (fun u => Host.Outcome.next (endEvent s u)) (if_neg still)
    · exact event fun same => differs (congrArg Lines.stow same).symm
    · refine (event fun same => by simpa [on] using congrArg Lines.hold same).trans ?_
      exact congrArg (fun u => Host.Outcome.next (endEvent s u)) (if_pos able)
    · refine (event fun same => by simpa [on] using congrArg Lines.hold same).trans ?_
      exact congrArg (fun u => Host.Outcome.next (endEvent s u)) (if_neg (ne_true_of_eq_false unable))
  · have stays := staysOnSolution_iff s
    refine ⟨fun turns => reissueDish_turns able (mt stays.mp turns), fun on pending => ?_, fun on idle fifth => ?_,
      fun on idle below => ?_⟩
    · exact (reissueDish_stays (stays.mpr on)).trans (if_pos pending)
    · exact (reissueDish_stays (stays.mpr on)).trans ((if_neg (ne_true_of_eq_false idle)).trans (if_pos fifth))
    · exact (reissueDish_stays (stays.mpr on)).trans ((if_neg (ne_true_of_eq_false idle)).trans (if_neg below))

end

section
/-! PROOFS. O32 fails in its last part (R137, R143): a mast goal below 0, which no premise bars, brings a HELD mast that
stands within its tolerance of the lower end of its travel to NESTED within the very event that starts forced stow, and
so ends it (R148). -/
namespace Sys2Proof.Machine

/-- In NORMAL, stowed at rest but for a mast that reads HELD at 10 mm. Its goal lies below 0, and the window the dish is
in has not been noted yet, so that the event recomputes the effective target before it judges the triggers. -/
def heldOverLowGoal : State :=
  { State.reset with
    stance := { Stance.reset with mastGoal := -100, dishGoal := .stow }
    ctl := { Control.reset with mode := .normal, mastState := .held }
    axes := { Axes.reset Switches.clear with
      mast := restingAxis 10 10, pan := restingAxis 0 0, tilt := restingAxis (-9000) (-9000), pol := restingAxis 0 0 }
    ilk := { Interlock.reset with lines := ⟨true, false, false, false⟩ }
    power := { Power.reset .powerOn with phase := .done, ready := true } }

/-- The state after PARK has gone inactive. -/
def brakeReleasedBelow : State :=
  endEvent heldOverLowGoal (heldOverLowGoal.withLines { heldOverLowGoal.ilk.lines with park := false })

theorem exec_heldOverLowGoal : exec (.parkChange false) heldOverLowGoal = .next brakeReleasedBelow :=
  congrArg Host.Outcome.next (lineEvent_running rfl (by decide) (by decide))

/-- The target of -100 mm makes the mast DESCENDING, which `axisGive` clamps to 0 mm and finds reached: at the next pass
of the event the mast is NESTED, the dish STOWED, and forced stow is over. -/
theorem brakeReleasedBelow_normal : brakeReleasedBelow.ctl.mode = .normal := by
  decide +kernel

end Sys2Proof.Machine

open Sys2Proof Sys2Proof.Machine

/-- Refutes O32, in its last part: VAN_MOVED is taken, but the mode at the end of its event is NORMAL again. -/
theorem not_forcedStowStarts : ¬ Obligations.ForcedStowStarts := by
  rintro ⟨-, -, events⟩
  obtain ⟨brake, -⟩ := events heldOverLowGoal (.inl rfl) rfl rfl (by decide)
  obtain ⟨t, event, -, stowing, -⟩ := brake rfl rfl rfl
  obtain rfl : brakeReleasedBelow = t := Host.Outcome.next.inj (exec_heldOverLowGoal.symm.trans event)
  rw [brakeReleasedBelow_normal] at stowing
  revert stowing
  decide

end

section
/-! PROOFS. OVERHEAD over a rising mast (R105, R107, R144): O30. -/
namespace Sys2Proof.Machine

/-! ## The mast stopped (R105, R107) -/

/-- The mast waits for its grant with its lock still RELEASED, as after a reversal (R104). -/
abbrev mastTurning (s : State) : Prop := s.axes.mast.phase = .waiting ∧ s.axes.lock = .released

theorem stopsOf_mast (s : State) : (stopsOf s [.mast]).axes.mast = s.axes.mast.halted :=
  stopsOf_axis s [.mast] (by decide) .mast

theorem stopsOf_mast_noRequest (s : State) (sound : requestsSound s) : noRequest (stopsOf s [.mast]) .mast := by
  intro q hq mast
  rw [stopsOf_waits, List.mem_filter, decide_eq_true_eq, mem_waitingOf] at hq
  obtain ⟨waits, other⟩ := hq
  exact other ⟨List.mem_singleton.mpr mast, sound.1 q waits⟩

/-- The lock engages at once where the mast was withdrawn from a reversal (log 45). -/
theorem controlledStops_mast_eq (s : State) : controlledStops s [.mast] = grantCheck
    (if mastTurning s then reversalWithdrawn (stopsOf s [.mast]) else stopsOf s [.mast]) := by
  have turning : ((waitingOf s [.mast]).contains .mast = true ∧ s.axes.lock = .released) ↔ mastTurning s := by
    rw [List.contains_iff_mem, mem_waitingOf]
    exact and_congr_left' (and_iff_right (List.mem_singleton.mpr rfl))
  unfold controlledStops
  refine congrArg grantCheck ?_
  by_cases turns : mastTurning s
  · exact (if_pos (turning.mpr turns)).trans (if_pos turns).symm
  · exact (if_neg (mt turning.mp turns)).trans (if_neg turns).symm

/-- What a controlled stop of the mast makes of it; the grant check that follows passes it over. -/
theorem controlledStops_mast (s : State) (sound : requestsSound s) : let u := controlledStops s [.mast]
    noRequest u .mast ∧ (¬ mastTurning s → u.axes.mast = s.axes.mast.halted) ∧
    (mastTurning s → u.axes.mast.phase = .engaging ∧ u.axes.lock = .engaging ∧
      u.axes.mast.stop = some .controlled ∧ u.axes.mast.target = s.axes.mast.position) := by
  have mast := stopsOf_mast s
  have free := stopsOf_mast_noRequest s sound
  dsimp only
  rw [controlledStops_mast_eq]
  by_cases turns : mastTurning s
  · rw [if_pos turns]
    have passed := grantCheck_passedOver (reversalWithdrawn (stopsOf s [.mast])) (a := .mast) free
    have own : (grantCheck (reversalWithdrawn (stopsOf s [.mast]))).axes.mast = _ := passed.axis
    refine ⟨passed.request, fun still => absurd turns still, fun _ => ?_⟩
    rw [own, passed.lock rfl]
    refine ⟨rfl, rfl, rfl, ?_⟩
    show (stopsOf s [.mast]).axes.mast.target = _
    rw [mast, halted_waiting turns.1]
  · rw [if_neg turns]
    have passed := grantCheck_passedOver (stopsOf s [.mast]) (a := .mast) free
    exact ⟨passed.request, fun _ => Eq.trans passed.axis mast, fun turning => absurd turning turns⟩

/-! ## The commands ended (R144) -/

/-- No command that meets the condition is left open. -/
theorem endWhere_left (s : State) (p : OpenCommand → Bool) (code : Code) :
    ∀ c ∈ (endWhere s p code).board.openSet, p c = false := by
  intro c hc
  rw [endWhere, foldComplete_openSet, List.mem_filter, Bool.not_eq_true', List.any_eq_false] at hc
  obtain ⟨opened, other⟩ := hc
  by_contra meets
  exact other c ((mem_openWhere s p c).mpr ⟨opened, eq_true_of_ne_false meets⟩) (beq_self_eq_true _)

theorem ofKinds_raise (c : OpenCommand) : ofKinds [.raise] c = true ↔ c.kind = .raise := by simp [ofKinds]

/-- Commands that a fault has at most ended FAULTED are answered FAULTED once those left open are ended so. -/
theorem FaultEnds.endWhere {s t : State} (h : FaultEnds s t) (p : OpenCommand → Bool) :
    ∀ c ∈ s.board.openSet, p c = true → Answered (endWhere t p .faulted) c.slot 18 := by
  intro c hc meets
  rcases h.ended c hc with left | answered
  · exact (endWhere_ended t p .faulted h.wf).1 c left meets
  · exact answered_endWhere t p .faulted c.slot h.wf answered

/-! ## The OVERHEAD stop (R144) -/

/-- The OVERHEAD stop is the report, the stop of the mast and the end of the RAISE commands. -/
theorem overheadStop_rule (s : State) (hw : Memory.wf s.mem = true) (sound : requestsSound s) :
    let r := reportFault s .overhead
    let u := overheadStop s
    u.ilk = r.ilk ∧ u.axes = (controlledStops r [.mast]).axes ∧ u.arb = (controlledStops r [.mast]).arb ∧
    u.ctl.goalAtRest = some .overhead ∧ u.ctl.mode = s.ctl.mode ∧ r.axes = s.axes ∧ requestsSound r ∧
    (∀ c ∈ s.board.openSet, c.kind = .raise → Answered u c.slot 18) ∧ ∀ c ∈ u.board.openSet, c.kind ≠ .raise := by
  have reported := reportFault_faultEnds s .overhead hw
  obtain ⟨axes, arb⟩ := reportFault_drives s .overhead
  obtain ⟨b, ctl⟩ := reportFault_ctl s .overhead
  have soundR := requestsSound_congr axes arb sound
  dsimp only
  rw [overheadStop]
  generalize reportFault s .overhead = r at *
  have drives : onlyDrives r (controlledStops r [.mast]) := aside_controlledStops ..
  have stopped := reported.trans (.of_same reported.wf drives.mem drives.board)
  have mode : (controlledStops r [.mast]).ctl.mode = s.ctl.mode := by rw [drives.ctl, ctl]
  generalize controlledStops r [.mast] = v at *
  obtain ⟨-, -, -, -, ctl', -, -, -, axes', arb', -, ilk', -⟩ := endWhere_same v (ofKinds [.raise]) .faulted
  refine ⟨ilk'.trans drives.ilk, axes', arb', rfl, (congrArg Control.mode ctl').trans mode, axes, soundR,
    fun c hc raise => ?_, fun c hc raise => ?_⟩
  · exact stopped.endWhere _ c hc ((ofKinds_raise c).mpr raise)
  · have other := endWhere_left v (ofKinds [.raise]) .faulted c hc
    rw [(ofKinds_raise c).mpr raise] at other
    cases other

end Sys2Proof.Machine

open Sys2Proof Sys2Proof.Machine

/-- Settles O30: what the OVERHEAD stop makes of the mast, phase by phase, from `controlledStops_mast`. -/
theorem overheadStopsRise : Obligations.OverheadStopsRise := by
  intro s hw mode rising settled clear room sound m
  set t := s.withLines { s.ilk.lines with overhead := true }
  have event : exec (.overheadChange true) s = .next (endEvent s (overheadStop t)) := by
    have run : running s = true := by rw [running, mode]
    refine (congrArg Host.Outcome.next (lineEvent_running run settled fun same => ?_)).trans ?_
    · simpa [clear] using congrArg Lines.overhead same
    · exact congrArg (fun u => Host.Outcome.next (endEvent s u)) ((if_neg (by decide)).trans (if_pos ⟨rising, mode⟩))
  have added := mem_reportFault_self t .overhead room
  have lines : (overheadStop t).ilk.lines = t.ilk.lines := congrArg Kept.lines (kept_overheadStop t)
  obtain ⟨ilk, axes, arb, goal, mode', raxes, soundR, answered, left⟩ := overheadStop_rule t hw sound
  obtain ⟨free, stops, turns⟩ := controlledStops_mast (reportFault t .overhead) soundR
  rw [← ilk] at added
  rw [← axes, mastTurning, raxes] at stops turns
  rw [noRequest, ← arb] at free
  have halts : ¬ (m.phase = .waiting ∧ s.axes.lock = .released) → (overheadStop t).axes.mast = m.halted := stops
  have moves : ∀ {p : Phase}, m.phase = p → p ≠ .waiting → (overheadStop t).axes.mast = m.halted :=
    fun phase other => halts fun turning => other (phase.symm.trans turning.1)
  refine ⟨_, event, added, lines ▸ rfl, goal, mode'.trans mode, fun driving => ?_, fun releasing => ?_,
    fun waiting => ⟨free, ?_, fun locked => ?_, fun released => ?_⟩, fun still => ?_, answered, left⟩
  · rw [moves driving (by decide), halted_driving driving]
    exact ⟨rfl, rfl, rfl⟩
  · rw [moves releasing (by decide), halted_releasing releasing]
  · by_cases turning : s.axes.lock = .released
    · exact (turns ⟨waiting, turning⟩).2.2.2
    · rw [halts fun both => turning both.2, halted_waiting waiting]
  · rw [halts fun both => locked both.2, halted_waiting waiting]
  · obtain ⟨phase, lock, stop, -⟩ := turns ⟨waiting, released⟩
    exact ⟨phase, lock, stop⟩
  · have unmoved : m.phase ≠ .waiting ∧ m.phase ≠ .driving ∧ m.phase ≠ .releasing := by
      rcases still with phase | phase | phase <;> simp [phase]
    obtain ⟨waiting, driving, releasing⟩ := unmoved
    exact (moves rfl waiting).trans (halted_still waiting driving releasing)

end

section
/-! PROOFS. CLEAR_FAULT: removals, returns, result data (R149, R150): O21. -/
namespace Sys2Proof.Machine

/-! ## The table of removals (R149) -/

/-- The cause of a fault is gone. -/
def causeGone (s : State) : FaultId → Prop
  | .vanMoved => s.ilk.lines.park = true
  | .attitude => s.ilk.pitch.natAbs ≤ 500 ∧ s.ilk.roll.natAbs ≤ 500
  | .overhead => s.ilk.lines.overhead = false
  | .windStow => 0 < effCeiling s
  | .sensor (.axis a) => (s.axis a).encValid = true
  | .sensor .incl => s.ilk.inclValid = true
  | .sensor .level => s.level.invalidRun < 3
  | .sensor .anemo => s.wind.anemoOk = true
  | .stall _ => True
  | .limit .mast => s.axes.tripped.mastTop = false
  | .limit .pan => s.axes.tripped.panPlus = false ∧ s.axes.tripped.panMinus = false
  | .limit .tilt => s.axes.tripped.tiltUp = false ∧ s.axes.tripped.tiltDown = false
  | .limit .pol => True

theorem removable_iff (s : State) (f : FaultId) : removable s f = true ↔ causeGone s f := by
  cases f with
  | attitude =>
    have bound : ∀ x : Int, (x.natAbs : Int) ≤ Config.raiseAttitude ↔ x.natAbs ≤ 500 := fun x => Int.ofNat_le (n := 500)
    rw [removable, Bool.and_eq_true, decide_eq_true_eq, decide_eq_true_eq, bound, bound]
    rfl
  | limit a => cases a <;> simp [removable, causeGone, anyTripped]
  | sensor q => cases q <;> simp [removable, causeGone, levelLost]
  | _ => simp [removable, causeGone]

/-! ## The faults removed and the axes returned (R110, R149) -/

/-- An axis after a CLEAR_FAULT: FAULTED with no fault of its own left, it is at rest at its position. -/
def AxisState.returned (x : AxisState) (held : Bool) : AxisState :=
  if x.phase = .faulted ∧ held = false then { x with phase := .atRest, target := x.position } else x

/-- Every axis returned whose faults are gone. -/
def Axes.returned (x : Axes) (faults : List FaultId) : Axes :=
  { x with
    mast := x.mast.returned (axisHasFault faults .mast)
    pan := x.pan.returned (axisHasFault faults .pan)
    tilt := x.tilt.returned (axisHasFault faults .tilt)
    pol := x.pol.returned (axisHasFault faults .pol) }

theorem Axes.returned_get (x : Axes) (faults : List FaultId) (a : Axis) :
    (x.returned faults).get a = (x.get a).returned (axisHasFault faults a) := by cases a <;> rfl

theorem Axes.put_get (x : Axes) (a : Axis) : x.put a (x.get a) = x := by cases a <;> rfl

theorem returnAxis_eq (s : State) (a : Axis) :
    returnAxis s a = s.withAxis a ((s.axis a).returned (axisHasFault s.ilk.faults a)) := by
  unfold returnAxis AxisState.returned
  dsimp only
  split
  · rfl
  · exact congrArg s.withAxes (Axes.put_get s.axes a).symm

/-- The state with the faults removed and the axes returned. -/
def cleared (s : State) : State := (removeFaults s).withAxes (s.axes.returned (remaining s))

/-- What the removals leave of the Interlock and Fault Unit: the rest of it, and the alarm where VAN_MOVED stays (R149). -/
theorem removeFaults_eq (s : State) : ∃ i, removeFaults s = s.withIlk i ∧ i.faults = remaining s ∧
    i.lines = s.ilk.lines ∧ (FaultId.vanMoved ∈ s.ilk.faults → FaultId.vanMoved ∉ remaining s →
      i.alarmRunning = false ∧ i.alarmOn = false) := by
  by_cases gone : FaultId.vanMoved ∈ s.ilk.faults ∧ FaultId.vanMoved ∉ remaining s
  · have stops : removeFaults s = alarmStop (s.withFaults (remaining s)) := if_pos (by simp [gone])
    rw [stops]
    exact ⟨_, rfl, rfl, rfl, fun _ _ => ⟨rfl, rfl⟩⟩
  · have stays : removeFaults s = s.withFaults (remaining s) := if_neg (by simpa using not_and.mp gone)
    rw [stays]
    exact ⟨_, rfl, rfl, rfl, fun present left => absurd ⟨present, left⟩ gone⟩

theorem returnAxes_eq (s : State) : allAxes.foldl returnAxis (removeFaults s) = cleared s := by
  obtain ⟨i, removed, faults, -⟩ := removeFaults_eq s
  rw [cleared, removed, ← faults]
  simp only [allAxes, List.foldl, returnAxis_eq]
  rfl

section Returned

variable (x : AxisState) (held : Bool)

theorem AxisState.returned_freed (phase : x.phase = .faulted) (free : held = false) :
    (x.returned held).phase = .atRest ∧ (x.returned held).target = x.position := by
  rw [AxisState.returned, if_pos ⟨phase, free⟩]
  exact ⟨rfl, rfl⟩

theorem AxisState.returned_sound (phase : x.phase ≠ .faulted) : x.returned held = x := if_neg fun both => phase both.1

@[simp] theorem AxisState.returned_position : (x.returned held).position = x.position := by
  unfold AxisState.returned
  split <;> rfl

@[simp] theorem AxisState.returned_encValid : (x.returned held).encValid = x.encValid := by
  unfold AxisState.returned
  split <;> rfl

@[simp] theorem AxisState.returned_faultStop : (x.returned held).faultStop = x.faultStop := by
  unfold AxisState.returned
  split <;> rfl

@[simp] theorem AxisState.returned_inMove : (x.returned held).inMove = x.inMove := by
  unfold AxisState.returned
  split
  · next freed => simp [AxisState.inMove, freed.1]
  · rfl

theorem AxisState.returned_waiting : x.phase = .waiting → (x.returned held).phase = .waiting := fun phase => by
  rw [x.returned_sound held (by simp [phase]), phase]

theorem AxisState.returned_faulted_iff : (x.returned held).phase = .faulted ↔ x.phase = .faulted ∧ held = true := by
  unfold AxisState.returned
  cases held <;> by_cases phase : x.phase = .faulted <;> simp [phase]

theorem AxisState.returned_atRest_iff : (x.returned held).phase = .atRest ↔
    x.phase = .atRest ∨ (x.phase = .faulted ∧ held = false) := by
  unfold AxisState.returned
  cases held <;> by_cases phase : x.phase = .faulted <;> simp [phase]

end Returned

/-- What the state with the faults removed keeps of the state before. -/
theorem cleared_same (s : State) : let u := cleared s
    (∀ a, u.axis a = (s.axis a).returned (axisHasFault (remaining s) a)) ∧ u.axes.tripped = s.axes.tripped ∧
    u.arb = s.arb ∧ u.ctl = s.ctl ∧ u.stance = s.stance ∧ u.mem = s.mem ∧ u.board = s.board ∧ u.swap = s.swap ∧
    u.ilk.faults = remaining s ∧ u.ilk.lines = s.ilk.lines ∧
    (FaultId.vanMoved ∈ s.ilk.faults → FaultId.vanMoved ∉ remaining s →
      u.ilk.alarmRunning = false ∧ u.ilk.alarmOn = false) := by
  obtain ⟨i, removed, faults, lines, alarm⟩ := removeFaults_eq s
  rw [cleared, removed]
  exact ⟨Axes.returned_get s.axes (remaining s), rfl, rfl, rfl, rfl, rfl, rfl, rfl, faults, lines, alarm⟩

/-! ## The mast returned (R4, R25, R149) -/

/-- What the return of the mast leaves: its state, and in HALTED the goal that waited for it (R25). -/
theorem returnMast_eq (s : State) : ∃ m g e h,
    returnMast s = (s.withMastGoal h).withCtl { s.ctl with mastState := m, goalOnReturn := g, effTarget := e } ∧
    (s.ctl.mode ≠ .halted → h = s.stance.mastGoal) ∧
    (s.ctl.mastState = .failed ∧ s.axes.mast.phase = .atRest → m = restingMast s ∧
      (s.ctl.goalOnReturn = true → s.ctl.mode = .halted → g = false ∧ h = adoptedHeight (extension s)) ∧
      (s.ctl.goalOnReturn = false → g = s.ctl.goalOnReturn ∧ h = s.stance.mastGoal)) ∧
    (¬ (s.ctl.mastState = .failed ∧ s.axes.mast.phase = .atRest) →
      m = s.ctl.mastState ∧ g = s.ctl.goalOnReturn ∧ h = s.stance.mastGoal) := by
  by_cases back : s.ctl.mastState = .failed ∧ s.axes.mast.phase = .atRest
  · by_cases waited : s.ctl.goalOnReturn = true ∧ s.ctl.mode = .halted
    · refine ⟨restingMast s, false, _, adoptedHeight (extension s), (if_pos back).trans (if_pos waited),
        fun other => absurd waited.2 other, fun _ => ⟨rfl, fun _ _ => ⟨rfl, rfl⟩, fun none => ?_⟩,
        fun stays => absurd back stays⟩
      rw [waited.1] at none
      cases none
    · exact ⟨restingMast s, _, _, s.stance.mastGoal, (if_pos back).trans (if_neg waited), fun _ => rfl,
        fun _ => ⟨rfl, fun goal mode => absurd ⟨goal, mode⟩ waited, fun _ => ⟨rfl, rfl⟩⟩, fun stays => absurd back stays⟩
  · exact ⟨_, _, _, s.stance.mastGoal, if_neg back, fun _ => rfl, fun returns => absurd returns back,
      fun _ => ⟨rfl, rfl, rfl⟩⟩

/-! ## The dish returned (R26, R147, R149) -/

/-- No dish axis is held by a fault left or stops for its own (logs 28 and 29). -/
def dishFree (s : State) (faults : List FaultId) : Prop :=
  ∀ a, a ≠ .mast → axisHasFault faults a = false ∧ (s.axis a).faultStop = false

/-- A dish axis with no fault left is FAULTED no longer, so what holds the dish is a fault left or a fault stop. -/
theorem dishSound_cleared (s u : State) (axes : u.axes = (cleared s).axes) (ilk : u.ilk = (cleared s).ilk) :
    dishSound u = true ↔ dishFree s (remaining s) := by
  obtain ⟨axis, -, -, -, -, -, -, -, faults, -⟩ := cleared_same s
  rw [dishSound, List.all_eq_true]
  refine forall_congr' fun a => ?_
  have axisU : u.axis a = (s.axis a).returned (axisHasFault (remaining s) a) := (congrArg (·.get a) axes).trans (axis a)
  rw [mem_dishAxes, ilk, faults, axisU, AxisState.returned_faultStop]
  refine imp_congr_right fun _ => ?_
  have freed := (s.axis a).returned_faulted_iff (axisHasFault (remaining s) a)
  cases held : axisHasFault (remaining s) a <;> cases (s.axis a).faultStop <;> simp_all

/-- A resting dish left to stand stays as it rests (R6). -/
theorem dishStands_resting (s : State) (rests : s.ctl.dishState = restingDish s) :
    (dishStands s).ctl.dishState = restingDish s := by
  have kind : restingDish s = .stowed ∨ restingDish s = .parked := by
    unfold restingDish
    split <;> simp
  have able : s.ctl.dishState ≠ .failed ∧ s.ctl.dishState ≠ .peaking := by
    rw [rests]
    rcases kind with is | is <;> simp [is]
  by_cases still : dishAtRest s = true
  · rw [dishStands_rest s able.1 still]
    rfl
  · rw [dishStands, if_neg able.1, if_neg still, if_neg able.2]
    exact rests

/-- The dish stands with the goal NONE, which it may have already. -/
def State.noDishGoal (s : State) : State := if s.stance.dishGoal = .none then s else writeDishGoal s .none

theorem noDishGoal_stance (s : State) : s.noDishGoal.stance = { s.stance with dishGoal := .none } := by
  unfold State.noDishGoal
  split
  · next none => rw [← none]
  · rfl

theorem noDishGoal_ctl (s : State) : ∃ m l, s.noDishGoal.ctl = { s.ctl with touchUpMark := m, signalLost := l } := by
  unfold State.noDishGoal
  split
  · exact ⟨s.ctl.touchUpMark, s.ctl.signalLost, rfl⟩
  · exact ⟨false, false, rfl⟩

theorem noDishGoal_same (s : State) : let u := s.noDishGoal
    u.axes = s.axes ∧ u.mem = s.mem ∧ u.board = s.board ∧ u.swap = s.swap ∧ u.ilk = s.ilk := by
  unfold State.noDishGoal
  split <;> exact ⟨rfl, rfl, rfl, rfl, rfl⟩

theorem restingDish_congr {s u : State} (axes : u.axes = s.axes) : restingDish u = restingDish s := by
  unfold restingDish inWindow
  rw [axes]

/-- In NORMAL, RECOVERY and HALTED a returned dish stands with the dish goal NONE. -/
theorem returnDish_stands (s : State) (failed : s.ctl.dishState = .failed) (sound : dishSound s = true)
    (mode : s.ctl.mode ≠ .forcedStow) : let u := returnDish s
    u.stance = { s.stance with dishGoal := .none } ∧ u.ctl.dishState = restingDish s ∧ u.ctl.mode = s.ctl.mode ∧
    u.ctl.returnMode = s.ctl.returnMode ∧ u.ctl.mastState = s.ctl.mastState ∧ u.ctl.goalOnReturn = s.ctl.goalOnReturn ∧
    u.axes = s.axes ∧ u.mem = s.mem ∧ u.board = s.board ∧ u.swap = s.swap ∧ u.ilk = s.ilk := by
  have whole : returnDish s = dishStands (s.withDish (restingDish s)).noDishGoal :=
    (if_pos ⟨failed, sound⟩).trans (if_neg mode)
  obtain ⟨axesT, memT, boardT, swapT, ilkT⟩ := noDishGoal_same (s.withDish (restingDish s))
  obtain ⟨mark, lost, ctlT⟩ := noDishGoal_ctl (s.withDish (restingDish s))
  have stanceT := noDishGoal_stance (s.withDish (restingDish s))
  rw [withDish_axes] at axesT
  rw [withDish_mem] at memT
  rw [withDish_board] at boardT
  rw [withDish_swap] at swapT
  rw [withDish_ilk] at ilkT
  rw [withDish_ctl] at ctlT
  rw [withDish_stance] at stanceT
  dsimp only
  rw [whole]
  generalize (s.withDish (restingDish s)).noDishGoal = t at *
  have same := restingDish_congr axesT
  obtain ⟨axes, -, mem, board, swap, -⟩ := dishStands_same t
  obtain ⟨d, x, ctl⟩ := dishStands_ctl t
  have stands := dishStands_resting t (by rw [same, ctlT])
  rw [ctl, ctlT] at *
  exact ⟨(dishStands_stance t).trans stanceT, stands.trans same, rfl, rfl, rfl, rfl, axes.trans axesT, mem.trans memT,
    board.trans boardT, swap.trans swapT, (dishStands_ilk t).trans ilkT⟩

/-- ALARM is off, with no cadence running. -/
def alarmOff (s : State) : Prop := s.ilk.alarmRunning = false ∧ s.ilk.alarmOn = false

/-- A fault other than VAN_MOVED starts no alarm, and what gives way to it starts none either (R140, R151). -/
theorem reportFault_alarmOff (s : State) (f : FaultId) (other : f ≠ .vanMoved) (idle : s.swap.phase = .idle)
    (off : alarmOff s) : alarmOff (reportFault s f) := by
  have put : alarmOff (putFault s f) := by
    have room : alarmOff (makeRoom s) := by
      unfold makeRoom
      dsimp only
      split
      · exact off
      split
      · exact off
      split
      · exact ⟨rfl, rfl⟩
      · exact off
    unfold putFault
    dsimp only
    rw [if_neg other]
    split <;> exact room
  rw [reportFault_idle s f idle]
  split
  · exact off
  · exact put

theorem reportFault_mem (s : State) (f : FaultId) (idle : s.swap.phase = .idle) : (reportFault s f).mem = s.mem := by
  rw [reportFault_idle s f idle]
  split
  · rfl
  · exact putFault_mem s f

/-- What the dish that turns to its goal in FORCED_STOW leaves alone: all but its own state, the drives, and with a limit
switch tripped the fault set (R108, R147). -/
structure DishTurned (s u : State) : Prop where
  mem : u.mem = s.mem
  openSet : u.board.openSet = s.board.openSet
  stance : u.stance = s.stance
  swap : u.swap = s.swap
  mode : u.ctl.mode = s.ctl.mode
  returnMode : u.ctl.returnMode = s.ctl.returnMode
  mastState : u.ctl.mastState = s.ctl.mastState
  tripped : u.axes.tripped = s.axes.tripped
  ilk : s.axes.tripped = Switches.clear → u.ilk = s.ilk
  alarm : alarmOff s → alarmOff u

theorem DishTurned.trans {s t u : State} (h : DishTurned s t) (k : DishTurned t u) : DishTurned s u where
  mem := k.mem.trans h.mem
  openSet := k.openSet.trans h.openSet
  stance := k.stance.trans h.stance
  swap := k.swap.trans h.swap
  mode := k.mode.trans h.mode
  returnMode := k.returnMode.trans h.returnMode
  mastState := k.mastState.trans h.mastState
  tripped := k.tripped.trans h.tripped
  ilk clear := (k.ilk (h.tripped.trans clear)).trans (h.ilk clear)
  alarm off := k.alarm (h.alarm off)

theorem DishTurned.refl (s : State) : DishTurned s s :=
  ⟨rfl, rfl, rfl, rfl, rfl, rfl, rfl, rfl, fun _ => rfl, id⟩

/-- The drives alone, a switch being none of them. -/
theorem DishTurned.of_drives {s u : State} (drives : onlyDrives s u) (tripped : u.axes.tripped = s.axes.tripped) :
    DishTurned s u where
  mem := drives.mem
  openSet := congrArg (·.openSet) drives.board
  stance := drives.stance
  swap := drives.swap
  mode := congrArg (·.mode) drives.ctl
  returnMode := congrArg (·.returnMode) drives.ctl
  mastState := congrArg (·.mastState) drives.ctl
  tripped := tripped
  ilk _ := drives.ilk
  alarm off := by
    rw [alarmOff, drives.ilk]
    exact off

theorem DishTurned.turnedTo (s : State) (d : DishState) : DishTurned s (s.turnedTo d) :=
  ⟨rfl, rfl, rfl, rfl, rfl, rfl, rfl, rfl, fun _ => rfl, id⟩

theorem DishTurned.dishStands (s : State) : DishTurned s (dishStands s) := by
  obtain ⟨axes, -, mem, board, swap, -⟩ := dishStands_same s
  obtain ⟨d, x, ctl⟩ := dishStands_ctl s
  refine ⟨mem, congrArg (·.openSet) board, dishStands_stance s, swap, ?_, ?_, ?_, congrArg (·.tripped) axes,
    fun _ => dishStands_ilk s, fun off => ?_⟩
  · rw [ctl]
  · rw [ctl]
  · rw [ctl]
  · rw [alarmOff, dishStands_ilk]
    exact off

/-- A limit fault of a dish axis in FORCED_STOW: the report, and the dish FAILED with its goal kept (R147). -/
theorem axisFault_forced (s : State) (a : Axis) (f : FaultId) (dish : a ≠ .mast) (forced : s.ctl.mode = .forcedStow)
    (idle : s.swap.phase = .idle) : axisFault s a f = (reportFault s f).withDish .failed := by
  obtain ⟨ctl, -⟩ := reportFault_same s f idle
  have mode : (reportFault s f).ctl.mode = .forcedStow := by rw [ctl, forced]
  rw [axisFault, axisReact_dish _ a dish (by rw [running, mode])]
  exact if_pos mode

theorem DishTurned.giveDishAxis {s : State} {a : Axis} (t : Int) (dish : a ≠ .mast) (forced : s.ctl.mode = .forcedStow)
    (idle : s.swap.phase = .idle) : DishTurned s (giveDishAxis s a t) := by
  have tripped : (Machine.giveDishAxis s a t).axes.tripped = s.axes.tripped :=
    congrArg Kept.tripped (kept_giveDishAxis s a t)
  have drives := axisGive_drives s a t (movePriority s)
  have served : Machine.giveDishAxis s a t = orLimit (axisGive s a t (movePriority s)) a :=
    if_neg fun unserved => unserved.2 forced
  rw [served] at tripped ⊢
  unfold orLimit at tripped ⊢
  split at tripped
  · next found =>
    have tripping : s.axes.tripped ≠ Switches.clear := fun clear => by
      rw [axisGive_clear s a t _ clear] at found
      cases found
    rw [if_pos found]
    generalize (axisGive s a t (movePriority s)).1 = r at *
    have idleR : r.swap.phase = .idle := by rw [drives.swap, idle]
    have fault := axisFault_forced r a (.limit a) dish (by rw [drives.ctl, forced]) idleR
    obtain ⟨ctl, swap, -, openSet⟩ := reportFault_same r (.limit a) idleR
    have off := reportFault_alarmOff r (.limit a) (by simp) idleR
    have mem := reportFault_mem r (.limit a) idleR
    have stance := reportFault_stance r (.limit a)
    rw [fault] at tripped ⊢
    generalize reportFault r (.limit a) = v at *
    exact {
      mem := (withDish_mem v _).trans (mem.trans drives.mem)
      openSet := by rw [withDish_board, openSet, drives.board]
      stance := (withDish_stance v _).trans (stance.trans drives.stance)
      swap := (withDish_swap v _).trans (swap.trans drives.swap)
      mode := by rw [withDish_ctl, ctl, drives.ctl]
      returnMode := by rw [withDish_ctl, ctl, drives.ctl]
      mastState := by rw [withDish_ctl, ctl, drives.ctl]
      tripped := tripped
      ilk := fun clear => absurd clear tripping
      alarm := fun before => by
        rw [alarmOff, withDish_ilk]
        exact off (by rw [alarmOff, drives.ilk]; exact before) }
  · next free =>
    rw [if_neg free]
    exact .of_drives drives tripped

theorem DishTurned.giveDish {s : State} (t : Targets) (forced : s.ctl.mode = .forcedStow) (idle : s.swap.phase = .idle) :
    DishTurned s (giveDish s t) := by
  have pan := DishTurned.giveDishAxis (a := .pan) t.pan (by decide) forced idle
  have tilt := DishTurned.giveDishAxis (a := .tilt) t.tilt (by decide) (pan.mode.trans forced) (pan.swap ▸ idle)
  have both := pan.trans tilt
  exact both.trans (.giveDishAxis (a := .pol) t.pol (by decide) (both.mode.trans forced) (both.swap ▸ idle))

theorem DishTurned.deriveSite (s : State) : DishTurned s (deriveSite s) := by
  unfold Machine.deriveSite
  dsimp only
  split
  · exact .refl s
  · exact ⟨rfl, rfl, rfl, rfl, rfl, rfl, rfl, rfl, fun _ => rfl, id⟩

theorem DishTurned.issueDish {s : State} (forced : s.ctl.mode = .forcedStow) (idle : s.swap.phase = .idle)
    (able : s.ctl.dishState ≠ .failed) : DishTurned s (issueDish s) := by
  have given : ∀ v d t, DishTurned s v → d ≠ .locked →
      DishTurned s (Machine.giveDish ((v.withDish d).withDishShort none) t) := fun v d t before other => by
    rw [withDish_turned v d other]
    have turned := before.trans (.turnedTo v d)
    exact turned.trans (.giveDish t (turned.mode.trans forced) (turned.swap ▸ idle))
  have waits : DishTurned s (nestWait s) := nestWait_eq s ▸ .turnedTo s _
  unfold Machine.issueDish
  rw [if_neg able]
  split
  · exact .refl s
  · exact given s _ _ (.refl s) (by decide)
  · split
    · exact waits
    · exact given _ _ _ (.deriveSite s) (by decide)
  · split
    · exact waits
    · exact given s _ _ (.refl s) (by decide)

theorem DishTurned.holdDish {s : State} (able : s.ctl.dishState ≠ .failed) : DishTurned s (holdDish s) := by
  have waits : DishTurned s (nestWait s) := nestWait_eq s ▸ .turnedTo s _
  have held : DishTurned s (if belowNest s = true then nestWait s else Machine.dishStands s) := by
    split
    · exact waits
    · exact .dishStands s
  unfold Machine.holdDish
  rw [if_neg able]
  split
  · exact .dishStands s
  · exact .dishStands s
  · exact held
  · exact held

theorem DishTurned.pursueDish {s : State} (forced : s.ctl.mode = .forcedStow) (idle : s.swap.phase = .idle)
    (able : s.ctl.dishState ≠ .failed) : DishTurned s (pursueDish s) := by
  unfold Machine.pursueDish
  split
  · exact .issueDish forced idle able
  · exact .holdDish able

/-! ## The result data (R150) -/

/-- The two bytes of an entry of the fault set. -/
def faultPair (f : FaultId) : List Byte := leBytes 1 f.kindCode ++ leBytes 1 f.qualifierCode

/-- The codes of a fault fit their bytes. -/
theorem faultCodes_fit (f : FaultId) : f.kindCode < 256 ∧ f.qualifierCode < 256 := by
  have sensor : ∀ q : Sensor, q.toNat < 256 := fun q => by
    cases q with
    | axis a => cases a <;> decide
    | _ => decide
  refine ⟨?_, ?_⟩
  · cases f <;> simp [FaultId.kindCode]
  · cases f <;> simp [FaultId.qualifierCode, sensor]

/-- The bytes of a list of faults hold their codes in order, and zero past its end. -/
theorem faultPairs_getD (k : Nat) (l : List FaultId) :
    (((l.flatMap faultPair).getD (2 * k) 0).toNat, ((l.flatMap faultPair).getD (2 * k + 1) 0).toNat) =
      (l.map fun f => (f.kindCode, f.qualifierCode)).getD k (0, 0) := by
  induction k generalizing l with
  | zero =>
    cases l with
    | nil => rfl
    | cons f l =>
      obtain ⟨kind, qualifier⟩ := faultCodes_fit f
      simp [faultPair, leBytes, Nat.mod_eq_of_lt kind, Nat.mod_eq_of_lt qualifier]
  | succ k ih =>
    cases l with
    | nil => rfl
    | cons f l => exact ih l

/-- The first eleven entries are those of the whole set. -/
theorem take_codes_getD (l : List FaultId) (k : Nat) (first : k < 11) :
    ((l.take 11).map fun f => (f.kindCode, f.qualifierCode)).getD k (0, 0) =
      (l.map fun f => (f.kindCode, f.qualifierCode)).getD k (0, 0) := by
  simp [List.getD_eq_getElem?_getD, first]

/-- What a CLEAR_FAULT answers: OK without warnings, the counts of the entries removed and left, and the first eleven
of those left (R150). -/
theorem clearResult (s v : State) (n : Slot) (hw : Memory.wf v.mem = true) (few : s.ilk.faults.length ≤ 16) :
    let u := writeResult v n .ok Warnings.empty (clearData s (cleared s))
    let left := remaining s
    Answered u n 0 ∧ readU8 u.mem (slotAddr n + 5) = 0 ∧
    readU8 u.mem (slotAddr n + 40) = s.ilk.faults.length - left.length ∧
    readU8 u.mem (slotAddr n + 41) = left.length ∧
    ∀ k < 11, (readU8 u.mem (slotAddr n + 42 + 2 * k), readU8 u.mem (slotAddr n + 43 + 2 * k)) =
      (left.map fun f => (f.kindCode, f.qualifierCode)).getD k (0, 0) := by
  have faults : (cleared s).ilk.faults = remaining s := by
    obtain ⟨-, -, -, -, -, -, -, -, faults, -⟩ := cleared_same s
    exact faults
  have fewer : (remaining s).length ≤ 16 := (List.length_filter_le ..).trans few
  set data := clearData s (cleared s) with hdata
  have split : data = BitVec.ofNat 8 (s.ilk.faults.length - (remaining s).length) ::
      BitVec.ofNat 8 (remaining s).length :: ((remaining s).take 11).flatMap faultPair := by
    rw [hdata, clearData, faults]
    rfl
  have stored := writeResult_getD v n .ok Warnings.empty data hw
  have byte : ∀ x : Nat, x ≤ 16 → (BitVec.ofNat 8 x).toNat = x := fun x small => by
    rw [BitVec.toNat_ofNat, Nat.mod_eq_of_lt (by omega)]
  dsimp only
  refine ⟨writeResult_answered v n .ok Warnings.empty data hw, ?_, ?_, ?_, fun k first => ?_⟩
  · rw [readU8, writeResult_warnings v n .ok Warnings.empty data hw]
    rfl
  · refine (congrArg BitVec.toNat (stored 0 (by omega))).trans ?_
    rw [split]
    exact byte _ (by omega)
  · refine (congrArg BitVec.toNat (stored 1 (by omega))).trans ?_
    rw [split]
    exact byte _ fewer
  · have kind := stored (2 + 2 * k) (by omega)
    have qualifier := stored (3 + 2 * k) (by omega)
    rw [← Nat.add_assoc] at kind qualifier
    rw [readU8, readU8, kind, qualifier, split, ← take_codes_getD _ k first, ← faultPairs_getD]
    have next : 2 + 2 * k = 2 * k + 2 ∧ 3 + 2 * k = 2 * k + 1 + 2 := by omega
    rw [next.1, next.2]
    rfl

/-! ## The whole return (R149) -/

/-- The dish leaves FAILED with a CLEAR_FAULT. -/
def dishMended (s : State) : Prop := s.ctl.dishState = .failed ∧ dishFree s (remaining s)

/-- The mast leaves FAILED with a CLEAR_FAULT that leaves it no fault. -/
theorem mastBack_iff (s : State) : (cleared s).axes.mast.phase = .atRest ↔ s.axes.mast.phase = .atRest ∨
    (s.axes.mast.phase = .faulted ∧ axisHasFault (remaining s) .mast = false) :=
  s.axes.mast.returned_atRest_iff _

theorem extension_cleared (s : State) : extension (cleared s) = extension s :=
  s.axes.mast.returned_position _

theorem restingMast_cleared (s : State) :
    restingMast (cleared s) = if extension s ≤ 20 then .nested else .held := by
  rw [restingMast, extension_cleared]
  rfl

/-- The return of the axes moves none of them. -/
theorem restingDish_cleared (s : State) {u : State} (axes : u.axes = (cleared s).axes) :
    restingDish u = if inWindow s = true then .stowed else .parked := by
  rw [restingDish_congr axes, restingDish]
  have same : inWindow (cleared s) = inWindow s := by
    simp [inWindow, cleared, Axes.returned]
  rw [same]

theorem dishAtRest_cleared (s : State) : dishAtRest (cleared s) = dishAtRest s := by
  simp [dishAtRest, cleared, Axes.returned]

/-- The state with the faults removed, the axes and the mast returned. -/
def mastReturned (s : State) : State := returnMast (cleared s)

/-- What the return of the mast keeps. -/
theorem mastReturned_same (s : State) : let u := mastReturned s
    u.axes = (cleared s).axes ∧ u.arb = s.arb ∧ u.mem = s.mem ∧ u.board = s.board ∧ u.swap = s.swap ∧
    u.ilk = (cleared s).ilk ∧ u.ctl.dishState = s.ctl.dishState ∧ u.ctl.mode = s.ctl.mode ∧
    u.ctl.returnMode = s.ctl.returnMode ∧ u.stance.dishGoal = s.stance.dishGoal ∧
    (s.ctl.mode ≠ .halted → u.stance = s.stance) := by
  obtain ⟨-, -, arb, ctl, stance, mem, board, swap, -⟩ := cleared_same s
  obtain ⟨m, g, e, h, whole, keeps, -⟩ := returnMast_eq (cleared s)
  dsimp only
  rw [mastReturned, whole]
  rw [ctl, stance] at keeps
  refine ⟨rfl, arb, mem, board, swap, rfl, congrArg (·.dishState) ctl, congrArg (·.mode) ctl,
    congrArg (·.returnMode) ctl, congrArg (·.dishGoal) stance, fun mode => ?_⟩
  show { (cleared s).stance with mastGoal := h } = s.stance
  rw [keeps mode, stance]

/-- What becomes of the mast (R4, R25, R149). -/
theorem mastReturned_mast (s : State) : let u := mastReturned s
    let back := s.ctl.mastState = .failed ∧ (s.axes.mast.phase = .atRest ∨
      (s.axes.mast.phase = .faulted ∧ axisHasFault (remaining s) .mast = false))
    (back → u.ctl.mastState = if extension s ≤ 20 then .nested else .held) ∧
    (¬ back → u.ctl.mastState = s.ctl.mastState) ∧
    (back → s.ctl.goalOnReturn = true → s.ctl.mode = .halted →
      u.ctl.goalOnReturn = false ∧ u.stance.mastGoal = max 0 (min 15000 (extension s))) ∧
    (¬ back ∨ s.ctl.goalOnReturn = false →
      u.ctl.goalOnReturn = s.ctl.goalOnReturn ∧ u.stance.mastGoal = s.stance.mastGoal) := by
  obtain ⟨-, -, -, ctl, stance, -⟩ := cleared_same s
  obtain ⟨m, g, e, h, whole, -, returns, stays⟩ := returnMast_eq (cleared s)
  rw [mastBack_iff, restingMast_cleared, extension_cleared, adoptedHeight_eq, ctl, stance] at returns
  rw [mastBack_iff, ctl, stance] at stays
  dsimp only
  rw [mastReturned, whole]
  refine ⟨fun back => (returns back).1, fun back => (stays back).1, fun back => (returns back).2.1, ?_⟩
  rintro (back | goal)
  · exact (stays back).2
  · by_cases back : s.ctl.mastState = .failed ∧ (s.axes.mast.phase = .atRest ∨
        (s.axes.mast.phase = .faulted ∧ axisHasFault (remaining s) .mast = false))
    · exact (returns back).2.2 goal
    · exact (stays back).2

/-- The state with faults removed, axes, mast and dish returned. -/
def allReturned (s : State) : State := returnDish (mastReturned s)

theorem dishSound_mastReturned (s : State) : dishSound (mastReturned s) = true ↔ dishFree s (remaining s) := by
  obtain ⟨axes, -, -, -, -, ilk, -⟩ := mastReturned_same s
  exact dishSound_cleared s _ axes ilk

/-- A dish that is still held, or not FAILED, is left alone. -/
theorem allReturned_held (s : State) (held : ¬ dishMended s) : allReturned s = mastReturned s := by
  obtain ⟨-, -, -, -, -, -, dish, -⟩ := mastReturned_same s
  refine if_neg fun mends => held ⟨dish ▸ mends.1, (dishSound_mastReturned s).mp mends.2⟩

/-- A mended dish outside FORCED_STOW stands with the goal NONE; nothing else is changed with it (R26, R149). -/
theorem allReturned_stands (s : State) (mended : dishMended s) (mode : s.ctl.mode ≠ .forcedStow) :
    let u := allReturned s
    let v := mastReturned s
    u.stance = { v.stance with dishGoal := .none } ∧
    u.ctl.dishState = (if inWindow s = true then .stowed else .parked) ∧ u.ctl.mode = v.ctl.mode ∧
    u.ctl.returnMode = v.ctl.returnMode ∧ u.ctl.mastState = v.ctl.mastState ∧
    u.ctl.goalOnReturn = v.ctl.goalOnReturn ∧ u.axes = v.axes ∧ u.mem = v.mem ∧ u.board = v.board ∧ u.swap = v.swap ∧
    u.ilk = v.ilk := by
  obtain ⟨axes, -, -, -, -, -, dish, modes, -⟩ := mastReturned_same s
  have stands := returnDish_stands (mastReturned s) (dish.trans mended.1) ((dishSound_mastReturned s).mpr mended.2)
    (modes ▸ mode)
  rw [restingDish_cleared s axes] at stands
  exact stands

/-- A mended dish in FORCED_STOW turns to its goal again (R147). -/
theorem allReturned_forced (s : State) (mended : dishMended s) (mode : s.ctl.mode = .forcedStow) :
    allReturned s = pursueDish ((mastReturned s).withDish (restingDish (mastReturned s))) := by
  obtain ⟨axes, -, -, -, -, -, dish, modes, -⟩ := mastReturned_same s
  exact (if_pos ⟨dish.trans mended.1, (dishSound_mastReturned s).mpr mended.2⟩).trans (if_pos (modes.trans mode))

theorem DishTurned.withDish (s : State) (d : DishState) : DishTurned s (s.withDish d) where
  mem := withDish_mem ..
  openSet := by rw [withDish_board]
  stance := withDish_stance ..
  swap := withDish_swap ..
  mode := by rw [withDish_ctl]
  returnMode := by rw [withDish_ctl]
  mastState := by rw [withDish_ctl]
  tripped := by rw [withDish_axes]
  ilk _ := withDish_ilk ..
  alarm off := by
    rw [alarmOff, withDish_ilk]
    exact off

theorem restingDish_ne_failed (s : State) : restingDish s ≠ .failed := by
  unfold restingDish
  split <;> decide

theorem allReturned_turned (s : State) (mended : dishMended s) (mode : s.ctl.mode = .forcedStow)
    (idle : s.swap.phase = .idle) : DishTurned (mastReturned s) (allReturned s) := by
  obtain ⟨-, -, -, -, swap, -, -, modes, -⟩ := mastReturned_same s
  have resting := DishTurned.withDish (mastReturned s) (restingDish (mastReturned s))
  rw [allReturned_forced s mended mode]
  refine resting.trans (.pursueDish (resting.mode.trans (modes.trans mode)) ?_ ?_)
  · rw [resting.swap, swap, idle]
  · rw [withDish_ctl]
    exact restingDish_ne_failed _

/-- What every CLEAR_FAULT leaves alone, and the fault set that it leaves; limit faults that the dish finds on its way to
its stow targets may join it in FORCED_STOW (R108, R147). -/
theorem allReturned_same (s : State) (idle : s.swap.phase = .idle) : let u := allReturned s
    u.mem = s.mem ∧ u.board.openSet = s.board.openSet ∧ u.ctl.mode = s.ctl.mode ∧
    u.ctl.returnMode = s.ctl.returnMode ∧
    (s.ctl.mode ≠ .forcedStow ∨ ¬ dishMended s ∨ s.axes.tripped = Switches.clear → u.ilk.faults = remaining s) ∧
    (FaultId.vanMoved ∈ s.ilk.faults → FaultId.vanMoved ∉ remaining s →
      u.ilk.alarmRunning = false ∧ u.ilk.alarmOn = false) := by
  obtain ⟨-, tripped, -, -, -, -, -, -, faults, -, alarm⟩ := cleared_same s
  obtain ⟨axes, -, mem, board, -, ilk, -, mode, returnMode, -⟩ := mastReturned_same s
  rw [← ilk] at faults alarm
  rw [← axes] at tripped
  dsimp only
  by_cases mended : dishMended s
  · by_cases forced : s.ctl.mode = .forcedStow
    · have turned := allReturned_turned s mended forced idle
      refine ⟨turned.mem.trans mem, turned.openSet.trans (congrArg (·.openSet) board), turned.mode.trans mode,
        turned.returnMode.trans returnMode, ?_, fun present left => turned.alarm (alarm present left)⟩
      rintro (other | held | clear)
      · exact absurd forced other
      · exact absurd mended held
      · rw [turned.ilk (tripped.trans clear), faults]
    · obtain ⟨-, -, mode', returnMode', -, -, -, mem', board', -, ilk'⟩ := allReturned_stands s mended forced
      rw [mem', board', mode', returnMode', ilk']
      exact ⟨mem, congrArg (·.openSet) board, mode, returnMode, fun _ => faults, alarm⟩
  · rw [allReturned_held s mended]
    exact ⟨mem, congrArg (·.openSet) board, mode, returnMode, fun _ => faults, alarm⟩

/-- The state after a CLEAR_FAULT that has answered, before a return from HALTED. -/
def clearedAnswer (s : State) (n : Slot) : State :=
  writeResult (allReturned s) n .ok Warnings.empty (clearData s (cleared s))

theorem ownClearFault_eq (s : State) (n : Slot) : ownClearFault s n = haltedReturn (clearedAnswer s n) := by
  rw [ownClearFault, returnAxes_eq]
  rfl

/-- In HALTED with no axis-class fault left the module returns to its return mode; else the mode stays (R25, R150). -/
theorem ownClearFault_stays (s : State) (n : Slot) (idle : s.swap.phase = .idle)
    (stays : s.ctl.mode ≠ .halted ∨ anyAxisFault (remaining s) = true) : ownClearFault s n = clearedAnswer s n := by
  obtain ⟨-, -, mode, -, faults, -⟩ := allReturned_same s idle
  rw [ownClearFault_eq]
  refine if_neg fun returns => ?_
  obtain ⟨halted, none⟩ := returns
  have was : s.ctl.mode = .halted := mode.symm.trans halted
  have left : (allReturned s).ilk.faults = remaining s := faults (.inl (by rw [was]; decide))
  rcases stays with other | held
  · exact other was
  · rw [clearedAnswer, writeResult_ilk, left, held] at none
    cases none

theorem ownClearFault_returns (s : State) (n : Slot) (idle : s.swap.phase = .idle) (halted : s.ctl.mode = .halted)
    (free : anyAxisFault (remaining s) = false) :
    ownClearFault s n = takeAll (recomputeEff ((clearedAnswer s n).withMode s.ctl.returnMode)) := by
  obtain ⟨-, -, mode, returnMode, faults, -⟩ := allReturned_same s idle
  have left : (allReturned s).ilk.faults = remaining s := faults (.inl (by rw [halted]; decide))
  rw [ownClearFault_eq, ← returnMode]
  exact if_pos ⟨mode.trans halted, by rw [clearedAnswer, writeResult_ilk, left, free]⟩

/-! ## What a CLEAR_FAULT shows of axes, mast and dish -/

/-- The axes stand as the removals leave them, unless the dish turns to its goal in FORCED_STOW. -/
theorem allReturned_axes (s : State) (still : s.ctl.mode = .forcedStow → ¬ dishMended s) :
    (allReturned s).axes = (cleared s).axes := by
  obtain ⟨axes, -⟩ := mastReturned_same s
  by_cases mended : dishMended s
  · obtain ⟨-, -, -, -, -, -, stand, -⟩ := allReturned_stands s mended fun forced => still forced mended
    exact stand.trans axes
  · exact allReturned_held s mended ▸ axes

/-- The return of the dish leaves the mast (R149). -/
theorem allReturned_mastState (s : State) (idle : s.swap.phase = .idle) :
    (allReturned s).ctl.mastState = (mastReturned s).ctl.mastState := by
  by_cases mended : dishMended s
  · by_cases forced : s.ctl.mode = .forcedStow
    · exact (allReturned_turned s mended forced idle).mastState
    · obtain ⟨-, -, -, -, mast, -⟩ := allReturned_stands s mended forced
      exact mast
  · rw [allReturned_held s mended]

/-- Outside FORCED_STOW the dish leaves the mast goal, and whether it waits for the mast (R25). -/
theorem allReturned_mastGoal (s : State) (mode : s.ctl.mode ≠ .forcedStow) :
    (allReturned s).ctl.goalOnReturn = (mastReturned s).ctl.goalOnReturn ∧
      (allReturned s).stance.mastGoal = (mastReturned s).stance.mastGoal := by
  by_cases mended : dishMended s
  · obtain ⟨stance, -, -, -, -, goal, -⟩ := allReturned_stands s mended mode
    exact ⟨goal, congrArg (·.mastGoal) stance⟩
  · rw [allReturned_held s mended]
    exact ⟨rfl, rfl⟩

theorem allReturned_dish (s : State) (held : ¬ dishMended s) :
    (allReturned s).ctl.dishState = s.ctl.dishState ∧ (allReturned s).stance.dishGoal = s.stance.dishGoal := by
  obtain ⟨-, -, -, -, -, -, dish, -, -, goal, -⟩ := mastReturned_same s
  rw [allReturned_held s held]
  exact ⟨dish, goal⟩

/-- In FORCED_STOW the stance is kept (R147). -/
theorem allReturned_stance (s : State) (idle : s.swap.phase = .idle) (forced : s.ctl.mode = .forcedStow) :
    (allReturned s).stance = s.stance := by
  obtain ⟨-, -, -, -, -, -, -, -, -, -, stance⟩ := mastReturned_same s
  have kept := stance (by rw [forced]; decide)
  by_cases mended : dishMended s
  · exact (allReturned_turned s mended forced idle).stance.trans kept
  · rw [allReturned_held s mended, kept]

/-- A FAULTED axis with no fault left is at rest at its position. -/
theorem allReturned_freed (s : State) (a : Axis) (still : s.ctl.mode = .forcedStow → ¬ dishMended s)
    (faulted : (s.axis a).phase = .faulted) (free : axisHasFault (remaining s) a = false) :
    ((allReturned s).axis a).phase = .atRest ∧ ((allReturned s).axis a).target = (s.axis a).position := by
  obtain ⟨axis, -⟩ := cleared_same s
  have own : (allReturned s).axis a = (s.axis a).returned (axisHasFault (remaining s) a) :=
    (congrArg (·.get a) (allReturned_axes s still)).trans (axis a)
  rw [own]
  exact AxisState.returned_freed _ _ faulted free

/-- A dish axis at rest that no fault left holds is in AT_REST once returned. -/
theorem returned_resting {x : AxisState} (rest : x.inMove = false) : (x.returned false).phase = .atRest := by
  rw [AxisState.returned_atRest_iff]
  cases phase : x.phase <;> simp_all [AxisState.inMove]

theorem dishAtRest_axis {s : State} (rest : dishAtRest s = true) (a : Axis) (dish : a ≠ .mast) :
    (s.axis a).inMove = false := by
  rw [dishAtRest, Bool.and_eq_true, Bool.and_eq_true, Bool.not_eq_true', Bool.not_eq_true', Bool.not_eq_true'] at rest
  obtain ⟨pan, tilt, pol⟩ := rest
  cases a with
  | mast => exact absurd rfl dish
  | pan => exact pan
  | tilt => exact tilt
  | pol => exact pol

theorem canIssue_congr {s u : State} (mode : u.ctl.mode = s.ctl.mode) (lines : u.ilk.lines = s.ilk.lines)
    (swap : u.swap = s.swap) : canIssue u = canIssue s := by
  rw [canIssue, canIssue, drivingMode, drivingMode, mode, lines, swap]

/-- A dish at rest that turns to its stow goal is STOWING, each axis on its way to its stow target (R5, R6). -/
theorem pursueStow_resting (s : State) (able : s.ctl.dishState ≠ .failed) (issue : canIssue s = true)
    (goal : s.stance.dishGoal = .stow) (clear : s.axes.tripped = Switches.clear) (sound : requestsSound s)
    (rest : ∀ a, a ≠ .mast → (s.axis a).phase = .atRest) : let u := pursueDish s
    u.ctl.dishState = .stowing ∧ ∀ a, a ≠ .mast → (u.axis a).target = stowTarget a ∧
      (near a (stowTarget a) (s.axis a).position = false → (u.axis a).phase = .waiting ∨ (u.axis a).phase = .driving) := by
  have turn : pursueDish s = giveDish (s.turnedTo .stowing) stowTargets := by
    rw [pursueDish, if_pos issue, issueDish, if_neg able, goal, ← withDish_turned s .stowing (by decide)]
  obtain ⟨-, ctl, pan, tilt, pol, given⟩ := giveDish_rule (s.turnedTo .stowing) stowTargets clear sound
    (.inl (by show DishState.stowing ≠ .failed; decide)) rest (by decide) (by decide) (by decide) (by decide) (by decide)
    (by decide)
  dsimp only
  rw [turn]
  generalize giveDish (s.turnedTo .stowing) stowTargets = u at *
  have target : ∀ a, a ≠ .mast → (u.axis a).target = stowTarget a := fun a own => by
    cases a with
    | mast => exact absurd rfl own
    | pan => exact pan
    | tilt => exact tilt
    | pol => exact pol
  refine ⟨by rw [ctl]; rfl, fun a own => ⟨target a own, fun off => ?_⟩⟩
  obtain ⟨-, -, moves⟩ := given a own
  exact moves (by rw [target a own]; exact off)

/-- A mended dish at rest in FORCED_STOW is given its stow targets again (R147). -/
theorem allReturned_stows (s : State) (mended : dishMended s) (forced : s.ctl.mode = .forcedStow)
    (goal : s.stance.dishGoal = .stow) (able : canIssue s = true) (rest : dishAtRest s = true)
    (clear : s.axes.tripped = Switches.clear) (sound : requestsSound s) : let u := allReturned s
    u.ctl.dishState = .stowing ∧ ∀ a, a ≠ .mast → (u.axis a).target = stowTarget a ∧
      (near a (stowTarget a) (s.axis a).position = false → (u.axis a).phase = .waiting ∨ (u.axis a).phase = .driving) := by
  obtain ⟨axis, tripped, arb, -, -, -, -, -, -, lines, -⟩ := cleared_same s
  obtain ⟨axes, arb', -, -, swap, ilk, -, mode, -, dishGoal, -⟩ := mastReturned_same s
  rw [← ilk] at lines
  rw [← axes] at tripped
  have soundM : requestsSound (mastReturned s) := by
    refine ⟨fun q waits => ?_, arb' ▸ sound.2⟩
    have own : (mastReturned s).axis q.axis = _ := (congrArg (·.get q.axis) axes).trans (axis q.axis)
    rw [own]
    exact AxisState.returned_waiting _ _ (sound.1 q (arb' ▸ waits))
  have resting : ∀ a, a ≠ .mast → ((mastReturned s).axis a).phase = .atRest := fun a dish => by
    have own : (mastReturned s).axis a = _ := (congrArg (·.get a) axes).trans (axis a)
    rw [own, (mended.2 a dish).1]
    exact returned_resting (dishAtRest_axis rest a dish)
  have place : ∀ a, ((mastReturned s).axis a).position = (s.axis a).position := fun a => by
    have own : (mastReturned s).axis a = _ := (congrArg (·.get a) axes).trans (axis a)
    rw [own, AxisState.returned_position]
  rw [← canIssue_congr mode lines swap] at able
  rw [← dishGoal] at goal
  rw [← tripped] at clear
  dsimp only
  rw [allReturned_forced s mended forced]
  rw [← mode] at forced
  generalize mastReturned s = w at *
  have stands : (w.withDish (restingDish w)).axes = w.axes := withDish_axes ..
  have axisT : ∀ a, (w.withDish (restingDish w)).axis a = w.axis a := fun a => congrArg (·.get a) stands
  obtain ⟨dish, given⟩ := pursueStow_resting (w.withDish (restingDish w))
    (by rw [withDish_ctl]; exact restingDish_ne_failed w)
    ((canIssue_congr (by rw [withDish_ctl]) (by rw [withDish_ilk]) (withDish_swap ..)).trans able)
    (by rw [withDish_stance, goal]) (by rw [stands, clear]) (requestsSound_congr stands (withDish_arb ..) soundM)
    fun a own => (axisT a).symm ▸ resting a own
  refine ⟨dish, fun a own => ?_⟩
  have rule := given a own
  rwa [axisT, place] at rule

/-! ## The answer (R150) -/

/-- The answer, the bytes it leaves, the fault set, the open set and the alarm. -/
theorem clearedAnswer_rule (s : State) (n : Slot) (idle : s.swap.phase = .idle) (hw : Memory.wf s.mem = true)
    (few : s.ilk.faults.length ≤ 16) : let u := clearedAnswer s n
    let left := remaining s
    Answered u n 0 ∧ readU8 u.mem (slotAddr n + 5) = 0 ∧
    readU8 u.mem (slotAddr n + 40) = s.ilk.faults.length - left.length ∧ readU8 u.mem (slotAddr n + 41) = left.length ∧
    (∀ k < 11, (readU8 u.mem (slotAddr n + 42 + 2 * k), readU8 u.mem (slotAddr n + 43 + 2 * k)) =
      ((left.map (fun f => (f.kindCode, f.qualifierCode))).getD k (0, 0))) ∧
    (∀ a, ¬ resultByte n a → read8 u.mem a = read8 s.mem a) ∧
    (s.ctl.mode ≠ .forcedStow ∨ ¬ dishMended s ∨ s.axes.tripped = Switches.clear → u.ilk.faults = left) ∧
    u.board.openSet = s.board.openSet ∧ (FaultId.vanMoved ∈ s.ilk.faults → FaultId.vanMoved ∉ left →
      u.ilk.alarmRunning = false ∧ u.ilk.alarmOn = false) := by
  obtain ⟨mem, openSet, -, -, faults, alarm⟩ := allReturned_same s idle
  obtain ⟨code, warnings, removed, stayed, entries⟩ := clearResult s (allReturned s) n (mem ▸ hw) few
  refine ⟨code, warnings, removed, stayed, entries, fun a other => ?_, faults, ?_, alarm⟩
  · exact (writeResult_other _ n .ok _ _ a other).trans (by rw [mem])
  · exact (writeResult_openSet ..).trans openSet

theorem axisHasFault_of_none {faults : List FaultId} (none : anyAxisFault faults = false) (a : Axis) :
    axisHasFault faults a = false := by
  rw [anyAxisFault, List.any_eq_false] at none
  rw [axisHasFault, List.any_eq_false]
  intro f hf held
  refine none f hf ?_
  rw [beq_iff_eq.mp held]
  rfl

end Sys2Proof.Machine

open Sys2Proof Sys2Proof.Machine

/-- Settles O21: the answer from `clearedAnswer_rule`, and what returns from the `allReturned` and `mastReturned` lemmas. -/
theorem clearFaultTaken : Obligations.ClearFaultTaken := by
  intro s n taken sound few gone left free mended back answered
  have ⟨_, idle, _⟩ := taken
  have ⟨wf, _⟩ := sound
  have own : exec .clearFault s = .next (endEvent s (ownClearFault (popIntake s) n)) :=
    congrArg Host.Outcome.next (takeEvent_passed s .clearFault ownClearFault n taken)
  have answer : answered (clearedAnswer (popIntake s) n) := clearedAnswer_rule (popIntake s) n idle wf few
  obtain ⟨-, -, mode, returnMode, -⟩ := allReturned_same (popIntake s) idle
  have mast := allReturned_mastState (popIntake s) idle
  obtain ⟨returns, stays, adopts, keeps⟩ := mastReturned_mast (popIntake s)
  refine ⟨removable_iff s, fun here => ?_, fun halted none => ?_⟩
  · refine ⟨clearedAnswer (popIntake s) n, own.trans ?_, answer, mode, returnMode, fun unforced mends => ?_,
      allReturned_dish (popIntake s), allReturned_stance (popIntake s) idle, fun forced mends goal able rest clear sound => ?_,
      fun free failed faulted _ => ?_, fun a faulted free still => ?_⟩
    · exact congrArg (fun u => Host.Outcome.next (endEvent s u)) (ownClearFault_stays (popIntake s) n idle here)
    · obtain ⟨stance, dish, -⟩ := allReturned_stands (popIntake s) mends unforced
      exact ⟨fun _ => dish, fun failed => restingDish_ne_failed (popIntake s) (dish.symm.trans failed),
        congrArg (·.dishGoal) stance⟩
    · exact allReturned_stows (popIntake s) mends forced goal able rest clear sound
    · exact mast.trans (returns ⟨failed, .inr ⟨faulted, free⟩⟩)
    · exact allReturned_freed (popIntake s) a still faulted free
  · have unforced : (popIntake s).ctl.mode ≠ .forcedStow := by
      show s.ctl.mode ≠ .forcedStow
      rw [halted]
      decide
    have still : (popIntake s).ctl.mode = .forcedStow → ¬ dishMended (popIntake s) := fun forced => absurd forced unforced
    have unheld := axisHasFault_of_none none
    have backs : back ↔ s.ctl.mastState = .failed ∧ (s.axes.mast.phase = .atRest ∨
        (s.axes.mast.phase = .faulted ∧ axisHasFault left .mast = false)) := by
      rw [and_iff_left (unheld .mast), or_comm]
    obtain ⟨axis, -⟩ := cleared_same (popIntake s)
    obtain ⟨goalOnReturn, mastGoal⟩ := allReturned_mastGoal (popIntake s) unforced
    refine ⟨clearedAnswer (popIntake s) n, answer, fun a faulted => ?_, fun a other => ?_, fun returned => ?_,
      fun stayed => ?_, fun returned waited => ?_, fun kept => ?_, fun mends => ?_, allReturned_dish (popIntake s),
      mode.trans halted, returnMode, own.trans ?_⟩
    · exact allReturned_freed (popIntake s) a still faulted (unheld a)
    · have own : (allReturned (popIntake s)).axis a = _ :=
        (congrArg (·.get a) (allReturned_axes (popIntake s) still)).trans (axis a)
      exact own.trans (AxisState.returned_sound _ _ other)
    · exact mast.trans (returns (backs.mp returned))
    · exact mast.trans (stays (mt backs.mpr stayed))
    · obtain ⟨goal, height⟩ := adopts (backs.mp returned) waited halted
      exact ⟨goalOnReturn.trans goal, mastGoal.trans height⟩
    · obtain ⟨goal, height⟩ := keeps (kept.imp_left (mt backs.mpr))
      exact ⟨goalOnReturn.trans goal, mastGoal.trans height⟩
    · obtain ⟨stance, dish, -⟩ := allReturned_stands (popIntake s) mends unforced
      exact ⟨congrArg (·.dishGoal) stance, fun _ => dish⟩
    · exact congrArg (fun u => Host.Outcome.next (endEvent s u)) (ownClearFault_returns (popIntake s) n idle halted none)

end

section
/-! PROOFS. What every step keeps of the Board Manager's records (R30, R49, R139, R140, R154, R156, R161 to R163). The steps
touch the records by a handful of updates; a predicate that these updates keep is kept by every shared operation
(`Upheld`), and so by every step. The two invariants of the records are two such predicates. -/
namespace Sys2Proof.Machine
set_option Elab.async false -- one lemma after another: elaborated at once they would each hold a thread

/-! ## The records and their updates -/

/-- Common memory and the records whose soundness is stated: the board, the telemetry writer, the fault set, the fix with
its generation, and the number of entries of the solution table. -/
structure Records where
  mem : Memory
  board : Board
  telem : Telemetry
  faults : List FaultId
  fix : Option Fix
  fixGen : Nat
  entries : Nat

def State.records (s : State) : Records :=
  ⟨s.mem, s.board, s.telem, s.ilk.faults, s.geo.fix, s.geo.fixGen, s.geo.table.length⟩

/-- The slots of the open commands. -/
def openSlots (b : Board) : List Slot := b.openSet.map (·.slot)

/-- The generation with which a page write begins (R163, log 11). -/
def pageGen (t : Telemetry) : Word16 := if t.writing then t.gen else t.gen + 1#16

/-- The generation with which a page write ends (R163). -/
def nextPageGen (gen : Word16) : Word16 := if gen = 0xFFFF#16 then 2#16 else gen + 1#16

/-- A predicate that the updates of the operations common to all events keep. -/
structure Keeps (P : Records → Prop) : Prop where
  stored : ∀ r fs, P r → P { r with mem := writeFields r.mem fs }
  noted : ∀ r bit, bit < 11 → P r →
    P { r with board := { r.board with notice := r.board.notice ||| BitVec.ofNat 16 (2 ^ bit) } }
  ended : ∀ r os, (os.map (·.slot)).Sublist (openSlots r.board) → P r → P { r with board := { r.board with openSet := os } }
  removed : ∀ r fs, fs.Sublist r.faults → P r → P { r with faults := fs }
  added : ∀ r f, f ∉ r.faults → r.faults.length < 16 → P r → P { r with faults := r.faults ++ [f] }
  counted : ∀ r, P r → P { r with board := { r.board with headerSeq := r.board.headerSeq + 2#16 } }
  timed : ∀ r t, P r → P { r with telem := { r.telem with timer := t } }
  paged : ∀ r t, P r → P { r with telem := ⟨pageGen r.telem, true, t⟩ }
  pageEnded : ∀ r, r.telem.writing = true → P r →
    P { r with telem := { r.telem with gen := nextPageGen r.telem.gen, writing := false } }
  fixed : ∀ r f, P r → P { r with fix := some f, fixGen := nextGeneration r.fixGen }

/-- Such a predicate, and it holds. -/
structure Upheld (P : Records → Prop) (u : State) : Prop where
  keeps : Keeps P
  holds : P u.records

variable {P : Records → Prop} {u v : State}

/-- A change of other groups than the records. -/
theorem Upheld.alike (h : Upheld P u) (same : v.records = u.records := by rfl) : Upheld P v :=
  ⟨h.keeps, same ▸ h.holds⟩

theorem onlyDrives.records {s u : State} (h : onlyDrives s u) : u.records = s.records :=
  show u.aside.records = s.aside.records from congrArg State.records h

theorem Upheld.drives (h : Upheld P u) (only : onlyDrives u v) : Upheld P v := h.alike only.records

theorem Upheld.ite {p : Prop} [Decidable p] (hu : Upheld P u) (hv : Upheld P v) :
    Upheld P (if p then u else v) := by
  split
  · exact hu
  · exact hv

theorem Upheld.foldl {α : Type} {f : State → α → State} (step : ∀ t x, Upheld P t → Upheld P (f t x))
    (l : List α) (h : Upheld P u) : Upheld P (l.foldl f u) := by
  induction l generalizing u with
  | nil => exact h
  | cons x l ih => exact ih (step u x h)

theorem Upheld.store (h : Upheld P u) (fs : List (Nat × List Byte)) :
    Upheld P (u.withMem (writeFields u.mem fs)) := ⟨h.keeps, h.keeps.stored _ fs h.holds⟩

theorem Upheld.storeBytes (h : Upheld P u) (a : Nat) (bs : List Byte) :
    Upheld P (u.withMem (writeBytes u.mem a bs)) := h.store [(a, bs)]

theorem Upheld.withDish (h : Upheld P u) (d : DishState) : Upheld P (u.withDish d) := by
  unfold State.withDish
  split
  · exact .alike h
  · exact .alike h

theorem Upheld.withTable (h : Upheld P u) (t : List Entry) (entries : t.length = u.geo.table.length) :
    Upheld P (u.withGeo { u.geo with table := t }) :=
  h.alike (congrArg (Records.mk u.mem u.board u.telem u.ilk.faults u.geo.fix u.geo.fixGen) entries)

theorem Upheld.withEntry (h : Upheld P u) (site : Fin 32) (e : Entry) : Upheld P (u.withEntry site e) :=
  h.withTable _ (List.length_set ..)

/-! ## Results and the open set (R157, R158) -/

theorem Upheld.setNotice (h : Upheld P u) {bit : Nat} (low : bit < 11) : Upheld P (setNotice u bit) :=
  ⟨h.keeps, h.keeps.noted _ bit low h.holds⟩

theorem Upheld.writeResult (h : Upheld P u) (n : Slot) (c : Code) (w : Warnings) (data : List Byte) :
    Upheld P (writeResult u n c w data) :=
  (h.store (resultFields n c w data)).setNotice (by omega)

theorem Upheld.refuse (h : Upheld P u) (n : Slot) (c : Code) : Upheld P (refuse u n c) :=
  h.writeResult n c _ _

theorem Upheld.withOpenSet (h : Upheld P u) (os : List OpenCommand)
    (fewer : (os.map (·.slot)).Sublist (openSlots u.board)) :
    Upheld P (u.withBoard { u.board with openSet := os }) := ⟨h.keeps, h.keeps.ended _ os fewer h.holds⟩

theorem Upheld.closeSlot (h : Upheld P u) (n : Slot) : Upheld P (closeSlot u n) :=
  h.withOpenSet _ (List.filter_sublist.map _)

theorem Upheld.complete (h : Upheld P u) (c : OpenCommand) (code : Code) :
    Upheld P (complete u c code) := (h.closeSlot c.slot).writeResult _ _ _ _

theorem Upheld.completeSwap (h : Upheld P u) (n : Slot) (code : Code) (w : Warnings) (data : List Byte) :
    Upheld P (completeSwap u n code w data) := (h.closeSlot n).writeResult _ _ _ _

theorem Upheld.endWhere (h : Upheld P u) (p : OpenCommand → Bool) (code : Code) :
    Upheld P (endWhere u p code) := .foldl (fun _ c ht => ht.complete c code) _ h

theorem Upheld.updateOpen (h : Upheld P u) (f : OpenCommand → OpenCommand) (slots : ∀ c, (f c).slot = c.slot) :
    Upheld P (updateOpen u f) := by
  have same : (u.board.openSet.map f).map (·.slot) = openSlots u.board := by
    rw [List.map_map]
    exact List.map_congr_left fun c _ => slots c
  exact h.withOpenSet _ (same ▸ .refl _)

/-! ## The header and the telemetry page (R162, R163) -/

theorem Upheld.updateHeaderWith (h : Upheld P u) (before : State) (also : List (Nat × List Byte)) :
    Upheld P (updateHeaderWith before u also) := by
  have stored := h.store (changedFields before u ++ also ++ [(10, leBytes 2 (u.board.headerSeq + 2#16).toNat)])
  unfold Machine.updateHeaderWith
  split
  · exact h
  · exact ⟨h.keeps, h.keeps.counted _ stored.holds⟩

theorem Upheld.startPage (h : Upheld P u) : Upheld P (startPage u) := by
  unfold Machine.startPage
  generalize pageBytes u = page
  have stored := (h.storeBytes Config.telemetryBase (leBytes 2 (pageGen u.telem).toNat)).storeBytes
    (Config.telemetryBase + 2) page
  exact ⟨h.keeps, h.keeps.paged _ (some u.limits.telemPeriod) stored.holds⟩

theorem Upheld.endPage (h : Upheld P u) : Upheld P (endPage u) := by
  unfold Machine.endPage
  split
  next writing =>
    have stored := h.storeBytes Config.telemetryBase (leBytes 2 (nextPageGen u.telem.gen).toNat)
    exact ⟨h.keeps, h.keeps.pageEnded _ writing stored.holds⟩
  · exact h

theorem Upheld.stopTimer (h : Upheld P u) : Upheld P (u.withTelem { u.telem with timer := none }) :=
  ⟨h.keeps, h.keeps.timed _ none h.holds⟩

/-! ## The fault set (R92, R139 to R142) -/

theorem Upheld.swapEarlyEnd (h : Upheld P u) (code : Code) : Upheld P (swapEarlyEnd u code) := by
  unfold Machine.swapEarlyEnd
  extract_lets data s1 s2 s3
  have ended : Upheld P s1 := h.completeSwap _ _ _ _
  clear_value s1
  exact .ite (.ite (.alike ended) (.alike ended)) h

theorem Upheld.withFewerFaults (h : Upheld P u) {fs : List FaultId} (fewer : fs.Sublist u.ilk.faults) :
    Upheld P (u.withFaults fs) := ⟨h.keeps, h.keeps.removed _ fs fewer h.holds⟩

theorem Upheld.makeRoom (h : Upheld P u) : Upheld P (makeRoom u) := by
  unfold Machine.makeRoom
  split
  · exact h
  split
  · exact h
  next d _ =>
    have left := h.withFewerFaults (List.filter_sublist (p := (· != d)))
    exact .ite (.alike left) left

/-- Room is made by a removal. -/
theorem makeRoom_faults (s : State) : (makeRoom s).ilk.faults.Sublist s.ilk.faults := by
  unfold makeRoom
  split
  · exact .refl _
  split
  · exact .refl _
  · dsimp only
    split
    · exact List.filter_sublist
    · exact List.filter_sublist

theorem Upheld.putFault (h : Upheld P u) {f : FaultId} (absent : f ∉ u.ilk.faults) :
    Upheld P (putFault u f) := by
  have room := h.makeRoom
  have absent' : f ∉ (Machine.makeRoom u).ilk.faults := fun there => absent ((makeRoom_faults u).subset there)
  unfold Machine.putFault
  generalize Machine.makeRoom u = t at room absent'
  dsimp only
  split
  next few =>
    have put : Upheld P (t.withIlk { t.ilk with faults := t.ilk.faults ++ [f], first := firstAfter u f }) :=
      ⟨h.keeps, h.keeps.added _ f absent' few room.holds⟩
    have noted := put.setNotice (bit := noticeFault) (by decide)
    exact .ite (.alike noted) noted
  · exact room

theorem Upheld.addFault (h : Upheld P u) (f : FaultId) : Upheld P (addFault u f) := by
  unfold Machine.addFault
  split
  · exact h
  next absent => exact h.putFault (by simpa using absent)

theorem Upheld.reportFault (h : Upheld P u) (f : FaultId) : Upheld P (reportFault u f) := by
  unfold Machine.reportFault
  split
  · exact h
  next absent => exact (h.putFault (by simpa using absent)).swapEarlyEnd .faulted

/-! ## Reactions (R25, R26, R74, R110) -/

theorem Upheld.tellSearch (h : Upheld P u) (o : SearchOutcome) : Upheld P (tellSearch u o) := by
  unfold Machine.tellSearch
  split
  · exact h
  · exact .ite (h.updateOpen _ fun d => by split <;> rfl) h

theorem Upheld.dropSearch (h : Upheld P u) (keep : Bool) : Upheld P (dropSearch u keep) := by
  unfold Machine.dropSearch
  split
  · exact h
  · exact .ite (.alike h) (.alike h)

theorem Upheld.stopSearch (h : Upheld P u) (o : SearchOutcome) (keep : Bool) :
    Upheld P (stopSearch u o keep) :=
  (h.tellSearch o).dropSearch keep

end Sys2Proof.Machine
end

section
/-! PROOFS. The operations common to all events, and the owning blocks of the commands, keep what the updates of the
records keep. -/
namespace Sys2Proof.Machine
set_option Elab.async false -- one lemma after another: elaborated at once they would each hold a thread

variable {P : Records → Prop} {s u v : State}

theorem Upheld.endSearch (h : Upheld P u) (o : SearchOutcome) (code : Code) :
    Upheld P (endSearch u o code) := by
  unfold Machine.endSearch
  split
  · exact h
  · exact .ite ((h.stopSearch o false).endWhere ownsSearch code) (h.stopSearch o false)

theorem Upheld.dishStands (h : Upheld P u) : Upheld P (dishStands u) := by
  unfold Machine.dishStands
  split
  · exact .alike h
  split
  · exact .alike (h.withDish _)
  split
  · exact .alike (h.withDish .parked)
  · exact .alike h

theorem Upheld.controlledStops (h : Upheld P u) (l : List Axis) : Upheld P (controlledStops u l) :=
  h.drives (aside_controlledStops u l)

theorem Upheld.dishToNone (h : Upheld P u) : Upheld P (dishToNone u) :=
  (Upheld.controlledStops (.alike h) dishAxes).dishStands

theorem Upheld.haltedGoal (h : Upheld P u) : Upheld P (haltedGoal u) := by
  unfold Machine.haltedGoal
  split
  · exact .alike h
  · exact .ite (.alike h) (.alike h)

theorem Upheld.setEff (h : Upheld P u) : Upheld P (setEff u) := .alike h

theorem Upheld.enterHalted (h : Upheld P u) : Upheld P (enterHalted u) := by
  unfold Machine.enterHalted
  extract_lets ended ctl halted stopped silent told still
  have left : Upheld P ended := h.swapEarlyEnd .faulted
  clear_value ended
  have answered : Upheld P told :=
    ((Upheld.controlledStops (.alike left) dishAxes).stopSearch .faulted false).endWhere (ofKinds stanceKinds) .faulted
  clear_value told
  have stands : Upheld P still := .dishToNone (.alike answered)
  clear_value still
  exact stands.haltedGoal.setEff

theorem Upheld.mastFaultReact (h : Upheld P u) : Upheld P (mastFaultReact u) :=
  .ite (.alike h) (.enterHalted (.alike h))

theorem Upheld.dishFaultReact (h : Upheld P u) : Upheld P (dishFaultReact u) := by
  unfold Machine.dishFaultReact
  split
  · exact h.withDish .failed
  extract_lets stopped silent failed
  have search : Upheld P silent := .alike ((h.controlledStops dishAxes).stopSearch .faulted false)
  clear_value silent
  have given : Upheld P failed := .alike (search.withDish .failed)
  exact given.endWhere _ _

theorem Upheld.axisReact (h : Upheld P u) (a : Axis) : Upheld P (axisReact u a) :=
  .ite (.ite h.mastFaultReact h.dishFaultReact) h

theorem Upheld.axisFault (h : Upheld P u) (a : Axis) (f : FaultId) : Upheld P (axisFault u a f) :=
  (h.reportFault f).axisReact a

theorem Upheld.orLimit {r : State × Bool} (h : Upheld P r.1) (a : Axis) : Upheld P (orLimit r a) :=
  .ite (h.axisFault a (.limit a)) h

theorem Upheld.axisGive (h : Upheld P u) (a : Axis) (t : Int) (p : Priority) :
    Upheld P (axisGive u a t p).1 :=
  h.drives (axisGive_drives u a t p)

theorem Upheld.giveTarget (h : Upheld P u) (a : Axis) (t : Int) : Upheld P (giveTarget u a t) :=
  (h.axisGive a t _).orLimit a

theorem Upheld.giveDishAxis (h : Upheld P u) (a : Axis) (t : Int) : Upheld P (giveDishAxis u a t) :=
  .ite h (h.giveTarget a t)

theorem Upheld.giveDish (h : Upheld P u) (t : Targets) : Upheld P (giveDish u t) :=
  ((h.giveDishAxis .pan t.pan).giveDishAxis .tilt t.tilt).giveDishAxis .pol t.pol

theorem Upheld.giveMast (h : Upheld P u) (t : Int) : Upheld P (giveMast u t) :=
  .giveTarget (.alike h) .mast t

/-! ## Searches (R64 to R77) -/

theorem Upheld.nestWait (h : Upheld P u) : Upheld P (nestWait u) := .alike (h.withDish .nestWait)

theorem Upheld.slewTo (h : Upheld P u) (t : Targets) : Upheld P (slewTo u t) :=
  .ite h.dishStands (.ite h.nestWait (.giveDish (.alike (h.withDish .slewing)) t))

theorem Upheld.returnToSite (h : Upheld P u) : Upheld P (returnToSite u) :=
  .ite (h.withDish .onSolution) (h.slewTo _)

theorem Upheld.searchSensor (h : Upheld P u) : Upheld P (searchSensor u) := by
  unfold Machine.searchSensor
  split
  · exact h
  · exact (h.endSearch .sensor .faulted).slewTo _

theorem Upheld.searchLock (h : Upheld P u) (c : Search) (lc : Int) : Upheld P (searchLock u c lc) := by
  unfold Machine.searchLock
  extract_lets s1 s2 ctl s3 s4
  have trimmed : Upheld P s1 := by
    unfold s1
    split
    · exact h
    · exact h.withEntry _ _
  have locked : Upheld P s3 := .alike (.withDish (.alike trimmed) .locked)
  exact .endSearch (.ite (.alike locked) locked) _ _

theorem Upheld.searchNoSignal (h : Upheld P u) (c : Search) : Upheld P (searchNoSignal u c) :=
  .slewTo (.alike ((h.endSearch .noSignal .ok).withEntry _ _)) _

theorem Upheld.touchUpNoSignal (h : Upheld P u) (c : Search) : Upheld P (touchUpNoSignal u c) :=
  by
  have noted : Upheld P (Machine.setNotice (((Machine.endSearch u .noSignal .ok)).withCtl
      { (Machine.endSearch u .noSignal .ok).ctl with signalLost := true }) noticeCondition) :=
    .setNotice (.alike (h.endSearch .noSignal .ok)) (by decide)
  exact .slewTo (.alike noted) _

theorem Upheld.searchFinish (h : Upheld P u) (c : Search) : Upheld P (searchFinish u c) := by
  have searching : Upheld P (u.withSearch c) := .alike h
  unfold Machine.searchFinish
  refine .ite (searching.searchLock c _) ?_
  split
  · exact searching.searchNoSignal c
  · exact searching.touchUpNoSignal c

theorem Upheld.askTargets (h : Upheld P u) (c : Search) (t : Targets) : Upheld P (askTargets u c t) :=
  .ite (.alike h) (.giveDish (.alike h) t)

theorem Upheld.compareAxis (h : Upheld P u) (c : Search) (ax : ProbeAxis) : Upheld P (compareAxis u c ax) :=
  h.askTargets _ _

theorem Upheld.tryMinus (h : Upheld P u) (c : Search) (ax : ProbeAxis) : Upheld P (tryMinus u c ax) :=
  .ite (h.compareAxis _ ax) (h.askTargets _ _)

theorem Upheld.tryPlus (h : Upheld P u) (c : Search) (ax : ProbeAxis) : Upheld P (tryPlus u c ax) :=
  .ite (h.tryMinus _ ax) (h.askTargets _ _)

theorem Upheld.startRound (h : Upheld P u) (c : Search) : Upheld P (startRound u c) := h.tryPlus _ .pan

theorem Upheld.roundEnd (h : Upheld P u) (c : Search) : Upheld P (roundEnd u c) :=
  .ite (h.startRound c) (.ite (h.searchFinish _) (h.startRound _))

theorem Upheld.afterBack (h : Upheld P u) (c : Search) (ax : ProbeAxis) : Upheld P (afterBack u c ax) := by
  unfold Machine.afterBack
  refine .ite (h.searchFinish c) ?_
  cases ax with
  | pan => exact h.tryPlus c .tilt
  | tilt => exact h.roundEnd c

theorem Upheld.searchGo (h : Upheld P u) (n : Nat) : Upheld P (searchGo n u) := by
  induction n generalizing u with
  | zero => exact h
  | succ n ih =>
    unfold Machine.searchGo
    split
    · exact h
    split
    · refine .ite ?_ h
      split
      · exact ih (h.afterBack _ _)
      · exact .ite (.alike h) h
      · exact .ite (.alike h) h
    · exact .ite h (.alike h)
    · exact .ite h (.alike h)

theorem Upheld.measured (h : Upheld P u) (c : Search) (m : Int) : Upheld P (measured u c m) := by
  unfold Machine.measured
  split
  · exact h.startRound _
  · exact .ite (h.tryMinus _ _) (h.compareAxis _ _)
  · exact h

theorem Upheld.searchSample (h : Upheld P u) (level : Int) : Upheld P (searchSample u level) := by
  unfold Machine.searchSample
  split
  · exact h
  split
  · exact h
  · exact h
  · exact .ite (.alike h) (h.measured _ _)

theorem Upheld.freshSolution (h : Upheld P u) {site : Fin 32} (fresh : freshSolution u site = some v) :
    Upheld P v := by
  unfold Machine.freshSolution at fresh
  split at fresh
  · exact Option.some.inj fresh ▸ h
  split at fresh
  · cases fresh
  · obtain ⟨-, stored⟩ := Option.ite_none_right_eq_some.mp fresh
    exact Option.some.inj stored ▸ h.withEntry _ _

theorem Upheld.startSearch (h : Upheld P u) (kind : SearchKind) : Upheld P (startSearch u kind) := by
  unfold Machine.startSearch
  split
  · exact h
  next site _ =>
    extract_lets c s1
    have begun : Upheld P s1 := .alike (h.withDish .peaking)
    clear_value s1
    split
    · exact (begun.endSearch .abandoned .ok).returnToSite
    next s2 usable =>
      have solved := begun.freshSolution (Option.ite_none_right_eq_some.mp usable).2
      exact .ite solved.searchSensor (solved.askTargets _ _)

/-! ## The live site (R35, R42 to R44) -/

theorem Upheld.obtainSolution (h : Upheld P u) (site : Fin 32) : Upheld P (obtainSolution u site) := by
  unfold Machine.obtainSolution
  split
  · exact h
  · exact h.withEntry _ _

theorem Upheld.deriveSite (h : Upheld P u) : Upheld P (deriveSite u) := .ite h (.alike h)

theorem Upheld.retargetDish (h : Upheld P u) (old t : Targets) : Upheld P (retargetDish u old t) := by
  have pan : Upheld P (if t.pan = old.pan then u else Machine.giveDishAxis u .pan t.pan) :=
    .ite h (h.giveDishAxis _ _)
  have tilt := Upheld.ite (p := t.tilt = old.tilt) pan (pan.giveDishAxis .tilt t.tilt)
  exact .ite tilt (tilt.giveDishAxis .pol t.pol)

theorem Upheld.reslew (h : Upheld P u) (old : Targets) : Upheld P (reslew u old) := by
  unfold Machine.reslew
  split
  · exact .ite h (.ite (.ite h h.nestWait) (h.retargetDish _ _))
  · exact .ite (.slewTo (.alike h) _) (.alike h)
  · exact .ite (.slewTo (.alike h) _) (.alike h)
  · exact .slewTo (.alike (h.endSearch .abandoned .ok)) _
  all_goals exact h

theorem Upheld.notRecomputed (h : Upheld P u) (site : Fin 32) (force : Bool) :
    Upheld P (notRecomputed u site force) :=
  .ite ((h.endSearch .abandoned .ok).slewTo _) h

theorem Upheld.recomputeLive (h : Upheld P u) (force : Bool) : Upheld P (recomputeLive u force).1 := by
  unfold Machine.recomputeLive
  split
  · exact h
  split
  · exact h.notRecomputed _ _
  extract_lets e s1 t
  split
  · exact .reslew (.alike (h.withEntry _ _)) _
  · exact h.withEntry _ _

theorem Upheld.recomputeSite (h : Upheld P u) : Upheld P (recomputeSite u) := .ite (h.recomputeLive false) h

/-! ## Issue of moves (R6, R7, R9 to R11) -/

theorem Upheld.issueDish (h : Upheld P u) : Upheld P (issueDish u) := by
  unfold Machine.issueDish
  split
  · exact .ite (h.giveDish _) h
  split
  · exact h
  · exact .giveDish (.alike (h.withDish .stowing)) _
  · exact .ite h.nestWait (.giveDish (.alike (h.deriveSite.withDish .slewing)) _)
  · exact .ite h.nestWait (.giveDish (.alike (h.withDish .slewing)) _)

theorem Upheld.holdDish (h : Upheld P u) : Upheld P (holdDish u) := by
  unfold Machine.holdDish
  refine .ite h ?_
  split
  · exact h.dishStands
  · exact h.dishStands
  · exact .ite h.nestWait h.dishStands
  · exact .ite h.nestWait h.dishStands

theorem Upheld.pursueDish (h : Upheld P u) : Upheld P (pursueDish u) := .ite h.issueDish h.holdDish

theorem Upheld.setDishGoal (h : Upheld P u) (g : DishGoal) : Upheld P (setDishGoal u g) := by
  cases g with
  | none => exact h.dishToNone
  | stow => exact .pursueDish (.alike h)
  | site => exact .pursueDish (.alike h)
  | point t => exact .pursueDish (.alike h)

theorem Upheld.reissueDish (h : Upheld P u) : Upheld P (reissueDish u) :=
  .ite (.ite (h.deriveSite.startSearch .full) (.ite (h.deriveSite.startSearch .touchUp) h.deriveSite)) h.issueDish

theorem Upheld.issueMast (h : Upheld P u) (t : Int) : Upheld P (issueMast u t) :=
  .ite (.alike h) (.giveMast (.alike h) t)

theorem Upheld.driveResting (h : Upheld P u) : Upheld P (driveResting u) :=
  .ite (.ite (h.issueMast _) (.alike h)) (h.issueMast _)

theorem Upheld.driveMast (h : Upheld P u) (acts : Bool) : Upheld P (driveMast u acts) := by
  unfold Machine.driveMast
  refine .ite h ?_
  split
  · exact h.driveResting
  all_goals exact h.issueMast _

theorem Upheld.abandonForHeight (h : Upheld P u) : Upheld P (abandonForHeight u) :=
  .ite (.alike (h.endSearch .abandoned .ok)) h

theorem Upheld.heightSlew (h : Upheld P u) (before : State) : Upheld P (heightSlew before u) :=
  .ite (h.slewTo _) h

theorem Upheld.recompute (h : Upheld P u) (acts : Bool) : Upheld P (recompute u acts) :=
  .ite (h.driveMast acts) ((Upheld.driveMast (.alike h.abandonForHeight) true).heightSlew u).recomputeSite

theorem Upheld.recomputeEff (h : Upheld P u) : Upheld P (recomputeEff u) := h.recompute false

theorem Upheld.recomputeIssuing (h : Upheld P u) : Upheld P (recomputeIssuing u) := h.recompute true

theorem Upheld.takeRecorded (h : Upheld P u) (before : State) (a : Axis) :
    Upheld P (takeRecorded before u a) := by
  unfold Machine.takeRecorded
  split
  · exact h
  · exact .ite h (.ite (.alike h) (.ite ((h.axisGive a _ _).orLimit a) h))

theorem Upheld.downCrossing (h : Upheld P u) : Upheld P (downCrossing u) := by
  unfold Machine.downCrossing
  split
  · exact h
  extract_lets t
  have stopped : Upheld P t := h.controlledStops (straying u)
  clear_value t
  refine .ite stopped ?_
  split
  · exact stopped
  · exact stopped
  · exact .alike stopped
  · exact .alike stopped

theorem Upheld.upCrossing (h : Upheld P u) : Upheld P (upCrossing u) := by
  unfold Machine.upCrossing
  refine .ite h (.ite h.issueDish ?_)
  split
  · exact h
  · exact .ite (h.giveDish _) h

theorem Upheld.nestCrossings (h : Upheld P u) (old : Int) : Upheld P (nestCrossings old u) :=
  .ite h.upCrossing (.ite h.downCrossing h)

/-! ## Forced stow (R143, R145, R148) -/

theorem Upheld.forcedStowStart (h : Upheld P u) : Upheld P (forcedStowStart u) := by
  unfold Machine.forcedStowStart
  extract_lets mode silent told low goal ctl stow
  have left : Upheld P mode := .alike (h.swapEarlyEnd .interlock)
  clear_value mode
  have answered : Upheld P told := (left.stopSearch .abandoned false).endWhere _ _
  clear_value told
  have lowered : Upheld P low := .alike answered
  clear_value low
  have stows : Upheld P stow := .alike lowered
  clear_value stow
  exact .ite (.alike stows) (Upheld.driveMast (.alike stows) true).pursueDish

theorem Upheld.takeTrigger (h : Upheld P u) (f : Option FaultId) : Upheld P (takeTrigger u f) := by
  unfold Machine.takeTrigger
  extract_lets t
  have added : Upheld P t := by
    unfold t
    split
    · exact h
    · exact h.addFault _
  split
  · exact added.forcedStowStart
  · exact added.forcedStowStart
  all_goals exact added

theorem Upheld.takeTriggers (h : Upheld P u) (t : Triggers) : Upheld P (takeTriggers u t) := by
  have step : ∀ {w : State} (b : Bool) (f : Option FaultId), Upheld P w →
      Upheld P (if b then Machine.takeTrigger w f else w) := fun _ f hw => .ite (hw.takeTrigger f) hw
  exact step _ _ (step _ _ (step _ _ (step _ _ h)))

theorem Upheld.judgeTriggers (h : Upheld P u) : Upheld P (judgeTriggers u) :=
  .ite (.takeTriggers (.alike h) _) h

theorem Upheld.takeAll (h : Upheld P u) : Upheld P (takeAll u) := .takeTriggers (.alike h) _

theorem Upheld.forcedStowEnd (h : Upheld P u) : Upheld P (forcedStowEnd u) :=
  .ite h (.ite (Upheld.endWhere (.alike h) (ofKinds [.stow]) .ok).recomputeEff (.ite h.enterHalted h))

/-! ## The exchange (R87 to R93) -/

theorem Upheld.quiesceStart (h : Upheld P u) : Upheld P (quiesceStart u) := by
  unfold Machine.quiesceStart
  extract_lets searching kept level stopped
  have left : Upheld P kept := .ite (.alike (h.stopSearch .abandoned true)) h
  clear_value kept
  have stops : Upheld P stopped := .controlledStops (.alike left) allAxes
  clear_value stopped
  exact .ite stops.dishStands (.ite stops stops.dishStands)

theorem Upheld.writeOut (h : Upheld P u) : Upheld P (writeOut u) := h.storeBytes _ _

theorem Upheld.driveStance (h : Upheld P u) : Upheld P (driveStance u) := by
  unfold Machine.driveStance
  extract_lets t
  have driven : Upheld P t := h.driveMast true
  split
  · exact driven.dishStands
  all_goals exact driven.pursueDish

theorem Upheld.adoptTrims (h : Upheld P u) (p : Package) : Upheld P (adoptTrims u p) := by
  unfold Machine.adoptTrims
  split
  · exact h
  · exact h.withEntry _ _

theorem Upheld.serveSite (h : Upheld P u) (p : Package) : Upheld P (serveSite u p).1 := by
  unfold Machine.serveSite
  split
  · exact h
  split
  · exact (h.obtainSolution _).deriveSite
  · exact .alike h
  · exact .alike h

theorem Upheld.loadStance (h : Upheld P u) (p : Package) : Upheld P (loadStance u p) := .setEff (.alike h)

theorem Upheld.loadPackage (h : Upheld P u) : Upheld P (loadPackage u) := by
  unfold Machine.loadPackage
  extract_lets p out loaded adopts served told data ended
  have load : Upheld P loaded := h.loadStance p
  clear_value loaded
  have answered : Upheld P told := ((load.adoptTrims p).serveSite p).endWhere _ _
  clear_value told
  have completed : Upheld P ended := answered.completeSwap _ _ _ _
  clear_value ended
  exact .driveStance (.alike completed)

theorem Upheld.quiesceEnd (h : Upheld P u) : Upheld P (quiesceEnd u) := by
  unfold Machine.quiesceEnd
  split
  · exact h.writeOut.loadPackage
  · exact h

theorem Upheld.resumeStance (h : Upheld P u) : Upheld P (resumeStance u) := by
  unfold Machine.resumeStance
  split
  · extract_lets ctl t
    have left : Upheld P t := .alike h
    clear_value t
    exact .ite (.ite left.recomputeIssuing.reissueDish left.recomputeIssuing) left
  · exact h

/-! ## What every event brings about -/

theorem Upheld.unaim (h : Upheld P u) (why : GoalAtRest) : Upheld P (unaim u why) := by
  have silent : Upheld P ((Machine.stopSearch u .abandoned false).withPeakPending false) :=
    .alike (h.stopSearch .abandoned false)
  cases why with
  | halt => exact (silent.endWhere _ _).setDishGoal .none
  | overhead => exact (silent.endWhere _ _).setDishGoal .stow
  | halted => exact (silent.endWhere _ _).setDishGoal .none

theorem Upheld.fixGoal (h : Upheld P u) : Upheld P (fixGoal u) := by
  unfold Machine.fixGoal
  split
  · exact h
  · exact .ite (.unaim (.alike h) _) (.alike h)

theorem Upheld.mastRest (h : Upheld P u) : Upheld P (mastRest u) := by
  unfold Machine.mastRest
  split
  · exact .ite (Upheld.fixGoal (.alike h)).recomputeIssuing (.ite h.fixGoal.recomputeIssuing h)
  · exact .ite h.fixGoal.recomputeEff h
  all_goals exact h

theorem Upheld.stowStatusPass (h : Upheld P u) : Upheld P (stowStatusPass u) :=
  .ite h (.recomputeEff (.alike h))

theorem Upheld.arriveSite (h : Upheld P u) : Upheld P (arriveSite u) := by
  unfold Machine.arriveSite
  extract_lets marked t
  have answered : Upheld P t := .endWhere (.alike (h.withDish .onSolution)) _ _
  exact .ite (answered.startSearch .full) (.ite (answered.startSearch .touchUp) answered)

theorem Upheld.arriveDish (h : Upheld P u) : Upheld P (arriveDish u) := by
  unfold Machine.arriveDish
  split
  · exact h.arriveSite
  · exact .endWhere (.alike (h.withDish .parked)) _ _
  · exact h.withDish _
  · exact h.withDish _

theorem Upheld.shortRest (h : Upheld P u) (k : StopShort) : Upheld P (shortRest u k) := by
  have rested : Upheld P (u.withDishShort none) := .alike h
  cases k with
  | stop => exact rested.withDish _
  | nest => exact .ite rested.nestWait rested.pursueDish

theorem Upheld.dishRest (h : Upheld P u) : Upheld P (dishRest u) := by
  unfold Machine.dishRest
  refine .ite h ?_
  split
  · exact h.shortRest _
  split
  · exact h.withDish _
  · exact .ite h.arriveDish (h.withDish _)
  · exact .ite h (h.withDish _)
  all_goals exact h

theorem Upheld.completeHeights (h : Upheld P u) : Upheld P (completeHeights u) :=
  .foldl (fun _ c ht => ht.complete (c.atHeight u) .ok) _ h

theorem Upheld.completeOpen (h : Upheld P u) : Upheld P (completeOpen u) := by
  unfold Machine.completeOpen
  refine .ite h ?_
  split
  · exact h.endWhere _ _
  · have heights : Upheld P (if heightReached u then Machine.completeHeights u else u) := .ite h.completeHeights h
    exact .ite (heights.endWhere _ _) heights
  all_goals exact h

theorem Upheld.settleOnce (h : Upheld P u) : Upheld P (settleOnce u) :=
  (Upheld.searchGo h.mastRest.stowStatusPass.dishRest
    searchFuel).judgeTriggers.completeOpen.forcedStowEnd.resumeStance.quiesceEnd

/-- What an event brings about is confined to the slots of its commands. -/
theorem Upheld.settle (h : Upheld P u) : Upheld P (settle u) :=
  .ite h.settleOnce.settleOnce.settleOnce h

/-! ## Wind, standby and start-up (R125 to R133, R166 to R171) -/

theorem Upheld.judgeFigure (h : Upheld P u) (figure : Nat) (mayFall off : Bool) :
    Upheld P (judgeFigure u figure mayFall off) :=
  .ite (.alike h) (.ite (.alike h) (.ite (.alike h) h))

theorem Upheld.handOff (h : Upheld P u) (before : State) : Upheld P (handOff before u) := by
  have handed : Upheld P (if effCeiling before = effCeiling u then u
      else Machine.recomputeEff (Machine.judgeTriggers u)) := .ite h h.judgeTriggers.recomputeEff
  exact .ite handed (handed.setNotice (by decide))

theorem Upheld.sampleWindow (h : Upheld P u) (pulses : Nat) : Upheld P (sampleWindow u pulses) :=
  .ite (.alike h) h

theorem Upheld.sampleFigure (h : Upheld P u) (pulses : Nat) : Upheld P (sampleFigure u pulses) := by
  have sampled := h.sampleWindow pulses
  unfold Machine.sampleFigure
  split
  · exact .ite (.alike sampled) sampled
  · exact h
  · exact .alike h
  · exact .ite (.alike sampled) (.alike sampled)

theorem Upheld.windSample (h : Upheld P u) (pulses : Nat) : Upheld P (windSample u pulses) := by
  have second : Upheld P (newSecond (ageHold (ageResidency (Machine.sampleFigure u pulses)))) :=
    .alike (h.sampleFigure pulses)
  exact (second.judgeFigure _ true false).handOff _

theorem Upheld.primingLoss (h : Upheld P u) : Upheld P (primingLoss u) := .alike (h.reportFault _)

theorem Upheld.startPriming (h : Upheld P u) : Upheld P (startPriming u) :=
  .ite (.alike h) (.primingLoss (.alike h))

theorem Upheld.primingSample (h : Upheld P u) (pulses : Nat) : Upheld P (primingSample u pulses) :=
  .alike (h.sampleWindow pulses)

theorem Upheld.endPriming (h : Upheld P u) (pulses : Nat) : Upheld P (endPriming u pulses) := by
  have sampled := h.primingSample pulses
  unfold Machine.endPriming
  extract_lets t w judged
  have band : Upheld P judged := .ite (.alike sampled) (.alike sampled)
  clear_value judged
  exact .alike band

theorem Upheld.wakeIfAsleep (h : Upheld P u) : Upheld P (wakeIfAsleep u) :=
  .ite (.startPriming (.alike h)) h

theorem Upheld.stopTelemetry (h : Upheld P u) : Upheld P (stopTelemetry u) := h.endPage.stopTimer

theorem Upheld.enterStandby (h : Upheld P u) : Upheld P (enterStandby u) := by
  unfold Machine.enterStandby
  extract_lets goal sleeping power asleep silent
  have unaimed : Upheld P goal := .ite (.alike h) h
  clear_value goal
  have lowered : Upheld P sleeping := .alike unaimed
  clear_value sleeping
  have sleeps : Upheld P asleep := .alike lowered
  clear_value asleep
  have quiet : Upheld P (stopWind (stopLevel asleep)) := .alike sleeps
  have stops : Upheld P silent := .alike quiet.stopTelemetry
  clear_value silent
  exact .ite stops (.startPriming (.alike stops))

theorem Upheld.readyStates (h : Upheld P u) : Upheld P (readyStates u) :=
  .alike (h.withDish _)

theorem Upheld.signalReady (h : Upheld P u) : Upheld P (signalReady u) := .setNotice (.alike h) (by decide)

theorem Upheld.readyHalted (h : Upheld P u) : Upheld P (readyHalted u) := .ite h.enterHalted h

theorem Upheld.warmAxis (h : Upheld P u) (a : Axis) : Upheld P (warmAxis u a) :=
  .ite h (.alike (h.reportFault _))

theorem Upheld.warmUpEnded (h : Upheld P u) : Upheld P (warmUpEnded u) := by
  unfold Machine.warmUpEnded
  extract_lets sensed axes read power
  have folded : Upheld P (allAxes.foldl Machine.warmAxis u) := .foldl (fun _ a ht => ht.warmAxis a) _ h
  have senses : Upheld P sensed := .ite folded (folded.reportFault _)
  clear_value sensed
  exact .startPriming (.alike senses)

theorem Upheld.warmUpReading (h : Upheld P u) : Upheld P (warmUpReading u) := .ite h.warmUpEnded h

/-! ## Axes (R99 to R110) -/

theorem Upheld.putReading (h : Upheld P u) (a : Axis) (v : Int) : Upheld P (putReading u a v) :=
  .ite (.alike h) (.alike h)

theorem Upheld.readingMoves (h : Upheld P u) (a : Axis) (old : Int) : Upheld P (readingMoves u a old) :=
  .ite (.nestCrossings (.ite (.alike h) h) old) h

theorem Upheld.stopFault (h : Upheld P u) (a : Axis) (f : FaultId) :
    Upheld P (Machine.axisFault (immediateStop u a true) a f) :=
  (h.drives (aside_immediateStop u a true)).axisFault a f

/-! ## Level and attitude (R61 to R64, R78, R138) -/

theorem Upheld.takeSample (h : Upheld P u) (code : Nat) : Upheld P (takeSample u code) := by
  have recorded : Upheld P (recordSample u code) := .alike h
  exact .ite (recorded.reportFault _).searchSensor (recorded.searchSample _)

theorem Upheld.openSamples (h : Upheld P u) : Upheld P (openSamples u) := by
  unfold Machine.openSamples
  split
  · exact h
  split
  · exact h
  · exact .alike h
  · exact h

theorem Upheld.watchCheck (h : Upheld P u) : Upheld P (watchCheck u) := by
  unfold Machine.watchCheck
  split
  · exact h
  · exact .ite (.startSearch (.alike h) .touchUp) (.alike h)

theorem Upheld.takeReading (h : Upheld P u) (r : Tilts) : Upheld P (takeReading u r) :=
  .ite (.alike h) (.ite (.alike h) (.reportFault (.alike h) _))

/-! ## Lines (R27, R112, R137, R144) -/

theorem Upheld.overheadStop (h : Upheld P u) : Upheld P (overheadStop u) :=
  .alike (((h.reportFault .overhead).controlledStops [.mast]).endWhere (ofKinds [.raise]) .faulted)

theorem Upheld.holdStance (h : Upheld P u) (before : State) : Upheld P (holdStance before u) := by
  have answered := (h.stopSearch .abandoned true).endWhere (ofKinds [.peak]) .halted
  unfold Machine.holdStance
  extract_lets silent told pending
  have kept : Upheld P pending := .ite answered (.alike answered)
  clear_value pending
  exact .ite kept.dishStands kept

theorem Upheld.releaseStance (h : Upheld P u) : Upheld P (releaseStance u) :=
  .ite h.recomputeIssuing.reissueDish h.recomputeIssuing

end Sys2Proof.Machine
end

section
/-! PROOFS. The owning blocks of the commands keep an invariant of the records (R15 to R22, R32, R85, R149, R164, R170). -/
namespace Sys2Proof.Machine
set_option Elab.async false -- one lemma after another: elaborated at once they would each hold a thread

/-- A predicate that every update of the records keeps. A slot taken is free (`Q`) until its command is opened. -/
structure Invariant (P : Records → Prop) (Q : Slot → Records → Prop) : Prop where
  keeps : Keeps P
  freeKeeps : ∀ n, Keeps (Q n)
  free : ∀ n r, Q n r → P r
  taken : ∀ r n rest, r.board.intake = n :: rest → P r → Q n { r with board := { r.board with intake := rest } }
  opened : ∀ r c, Q c.slot r → P { r with board := { r.board with openSet := r.board.openSet ++ [c] } }
  joined : ∀ r n, n ∉ r.board.intake → n ∉ openSlots r.board → P r →
    P { r with board := { r.board with intake := r.board.intake ++ [n] } }
  cleared : ∀ r m, P r → P { r with board := { r.board with notice := r.board.notice &&& m } }
  enabled : ∀ r v, P r → P { r with board := { r.board with control := v &&& controlMask } }
  begun : ∀ r, P r → P { r with board := { r.board with headerSeq := 0 }, telem := Telemetry.reset }
  reset : ∀ r m, m = [] ∨ m = r.mem → P r → P ⟨m, Board.reset, Telemetry.reset, [], none, 0, 32⟩

variable {P : Records → Prop} {Q : Slot → Records → Prop} {u v : State} {n : Slot}

/-! ## The commands that open nothing -/

theorem Upheld.putFix (h : Upheld P u) (f : Fix) : Upheld P (putFix u f) := by
  have same : (Machine.putFix u f).records = { u.records with fix := some f, fixGen := nextGeneration u.geo.fixGen } :=
    congrArg (Records.mk u.mem u.board u.telem u.ilk.faults (some f) (nextGeneration u.geo.fixGen)) (List.length_map ..)
  exact ⟨h.keeps, same ▸ h.keeps.fixed _ f h.holds⟩

theorem Upheld.fixLive (h : Upheld P u) (before : State) (f : Fix) : Upheld P (fixLive before u f).1 := by
  unfold Machine.fixLive
  split
  · exact h.recomputeLive _
  · exact h

theorem Upheld.ownSetFix (h : Upheld P u) (n : Slot) : Upheld P (ownSetFix u n) := by
  have unlocked (f : Fix) : Upheld P (unlockDish u f) := .ite (h.withDish .onSolution) h
  exact .ite (h.refuse n _) ((((unlocked _).putFix _).fixLive u _).writeResult n _ _ _)

theorem Upheld.putLimits (h : Upheld P u) (l : Limits) : Upheld P (putLimits u l) := by
  unfold Machine.putLimits
  extract_lets staled granted
  have limited : Upheld P (u.withLimits l) := .alike h
  have stale : Upheld P staled := .ite limited (limited.withTable _ (List.length_map ..))
  clear_value staled
  have budget : Upheld P granted := .ite stale (stale.drives (aside_grantCheck staled))
  clear_value granted
  have wind : Upheld P (windChange u granted) := .handOff (.ite budget (budget.judgeFigure _ _ _)) u
  exact .ite wind wind.recomputeSite

theorem Upheld.ownSetLimits (h : Upheld P u) (n : Slot) : Upheld P (ownSetLimits u n) := by
  unfold Machine.ownSetLimits
  extract_lets asked l written
  have back : Upheld P written := (h.putLimits l).storeBytes _ _
  clear_value written
  exact .ite (h.refuse n _) (back.writeResult n _ _ _)

theorem Upheld.removeFaults (h : Upheld P u) : Upheld P (removeFaults u) := by
  have removed : Upheld P (u.withFaults (remaining u)) := h.withFewerFaults List.filter_sublist
  exact .ite (.alike removed) removed

theorem Upheld.returnDish (h : Upheld P u) : Upheld P (returnDish u) := by
  have rested := h.withDish (restingDish u)
  exact .ite (.ite rested.pursueDish (.dishStands (.ite rested (.alike rested)))) h

theorem Upheld.haltedReturn (h : Upheld P u) : Upheld P (haltedReturn u) :=
  .ite (Upheld.recomputeEff (.alike h)).takeAll h

theorem Upheld.returnMast (h : Upheld P u) : Upheld P (returnMast u) := .ite (.ite (.alike h) (.alike h)) h

theorem Upheld.ownClearFault (h : Upheld P u) (n : Slot) : Upheld P (ownClearFault u n) := by
  unfold Machine.ownClearFault
  extract_lets returned dish
  have axes : Upheld P returned := .foldl (fun _ _ ht => .ite (.alike ht) ht) _ h.removeFaults
  clear_value returned
  exact (axes.returnMast.returnDish.writeResult n _ _ _).haltedReturn

theorem Upheld.ownStandby (h : Upheld P u) (n : Slot) : Upheld P (ownStandby u n) :=
  .ite (h.refuse n _) (.ite (h.refuse n _) (h.writeResult n _ _ _).enterStandby)

theorem Upheld.haltGoal (h : Upheld P u) : Upheld P (haltGoal u) := .ite (.alike h) (.recomputeEff (.alike h))

theorem Upheld.haltDish (h : Upheld P u) : Upheld P (haltDish u) := by
  have told : Upheld P (haltCommands u) := ((h.tellSearch .abandoned).endWhere _ _).dropSearch false
  unfold Machine.haltDish
  generalize haltCommands u = t at told
  exact .dishToNone (.alike (told.controlledStops allAxes))

theorem Upheld.ownHalt (h : Upheld P u) (n : Slot) : Upheld P (ownHalt u n) := by
  by_cases mode : u.ctl.mode = .halted
  · rw [ownHalt_halted u n mode]
    exact .writeResult (.alike h) n _ _ _
  · rw [ownHalt_normal u n mode]
    exact h.haltDish.haltGoal.writeResult n _ _ _

theorem Upheld.ownRecoverHold (h : Upheld P u) (n : Slot) : Upheld P (ownRecoverHold u n) := by
  unfold Machine.ownRecoverHold
  extract_lets g held data
  have holds : Upheld P held := .alike h
  clear_value held
  exact .ite (h.refuse n _) ((holds.recomputeEff.setDishGoal g).writeResult n _ _ _)

/-! ## The commands that open -/

theorem Invariant.unopened (inv : Invariant P Q) (h : Upheld (Q n) u) : Upheld P u := ⟨inv.keeps, inv.free n _ h.holds⟩

theorem Invariant.openCommand (inv : Invariant P Q) (h : Upheld (Q n) u) (c : OpenCommand) (slot : c.slot = n := by rfl) :
    Upheld P (openCommand u c) := by
  subst slot
  exact ⟨inv.keeps, inv.opened _ c h.holds⟩

theorem Invariant.refuse (inv : Invariant P Q) (h : Upheld (Q n) u) (c : Code) : Upheld P (refuse u n c) :=
  (inv.unopened h).refuse n c

theorem Invariant.ownSwap (inv : Invariant P Q) (h : Upheld (Q n) u) : Upheld P (ownSwap u n) := by
  unfold Machine.ownSwap
  extract_lets number p
  split
  · exact inv.refuse h _
  · exact .quiesceStart (.alike (inv.openCommand h (.new n .swap Warnings.empty)))

theorem Invariant.ownRaise (inv : Invariant P Q) (h : Upheld (Q n) u) : Upheld P (ownRaise u n) := by
  unfold Machine.ownRaise
  extract_lets asked height goal
  have told := h.endWhere (ofKinds [.raise, .lower]) .superseded
  have set : Upheld (Q n) goal := .alike told
  clear_value goal
  exact .ite (inv.refuse h _) (.ite (inv.refuse h _) (inv.openCommand set _).recomputeEff)

theorem Upheld.lowerBelowNest (h : Upheld P u) : Upheld P (lowerBelowNest u) := by
  unfold Machine.lowerBelowNest
  extract_lets ended
  have told : Upheld P ended := (h.stopSearch .abandoned false).endWhere _ _
  clear_value ended
  exact .alike told

theorem Upheld.setMastGoal (h : Upheld P u) (x : Int) : Upheld P (setMastGoal u x) := .alike h

theorem Invariant.ownLower (inv : Invariant P Q) (h : Upheld (Q n) u) : Upheld P (ownLower u n) := by
  unfold Machine.ownLower
  extract_lets asked height c ended
  have told : Upheld (Q n) ended := h.endWhere _ _
  clear_value ended
  exact .ite (inv.openCommand (h.endWhere _ _) c) (.ite (inv.refuse h _)
    (.ite (inv.openCommand (told.lowerBelowNest.setMastGoal _) c).recomputeEff.pursueDish
      (inv.openCommand (told.setMastGoal _) c).recomputeEff))

theorem Invariant.ownStow (inv : Invariant P Q) (h : Upheld (Q n) u) : Upheld P (ownStow u n) := by
  unfold Machine.ownStow
  extract_lets c ended goal
  have normal : Upheld (Q n) (u.withMode .normal) := .alike h
  have told : Upheld (Q n) ended := (normal.stopSearch .abandoned false).endWhere _ _
  clear_value ended
  have set : Upheld (Q n) goal := .alike told
  clear_value goal
  exact .ite (inv.openCommand (h.endWhere _ _) c) (.ite (inv.refuse h _)
    (inv.openCommand set c).recomputeEff.pursueDish)

theorem Invariant.acceptAim (inv : Invariant P Q) (h : Upheld (Q n) u) (site : Fin 32) :
    Upheld P (acceptAim u n site) := by
  unfold Machine.acceptAim
  extract_lets solved c ended
  have told : Upheld (Q n) ended := ((h.obtainSolution site).stopSearch .abandoned false).endWhere _ _
  clear_value ended
  exact (inv.openCommand (Upheld.deriveSite (.alike told)) c).pursueDish

theorem Invariant.ownAim (inv : Invariant P Q) (h : Upheld (Q n) u) : Upheld P (ownAim u n) := by
  unfold Machine.ownAim
  refine .ite (inv.refuse h _) (.ite (inv.refuse h _) ?_)
  split
  · exact inv.refuse h _
  · exact inv.refuse h _
  · exact inv.acceptAim h _

theorem Invariant.ownPeak (inv : Invariant P Q) (h : Upheld (Q n) u) : Upheld P (ownPeak u n) := by
  unfold Machine.ownPeak
  extract_lets ended opened
  have told : Upheld (Q n) ended := (h.stopSearch .abandoned false).endWhere _ _
  clear_value ended
  have opens : Upheld P opened := inv.openCommand (.alike told) _
  exact .ite (inv.refuse h _) (.ite (opens.startSearch .full) opens)

theorem Invariant.ownPoint (inv : Invariant P Q) (h : Upheld (Q n) u) : Upheld P (ownPoint u n) := by
  unfold Machine.ownPoint
  extract_lets asked t ended warned new c
  have told : Upheld (Q n) ended := (h.stopSearch .abandoned false).endWhere _ _
  clear_value ended
  have opened : Upheld P (Machine.openCommand (ended.withPeakPending false) c) := inv.openCommand (.alike told) c
  exact .ite (inv.refuse h _) (.ite (inv.refuse h _) (.pursueDish (.alike opened)))

end Sys2Proof.Machine
end

section
/-! PROOFS. Every step keeps the invariants of the records: O58, O59. -/
namespace Sys2Proof.Machine
set_option Elab.async false -- one lemma after another: elaborated at once they would each hold a thread

variable {P : Records → Prop} {Q : Slot → Records → Prop} {s u : State}

/-! ## The event of a take (R157) -/

theorem Upheld.endEvent (h : Upheld P u) (before : State) : Upheld P (endEvent before u) :=
  h.settle.updateHeaderWith before []

theorem Upheld.updateHeader (h : Upheld P u) (before : State) : Upheld P (updateHeader before u) :=
  h.updateHeaderWith before []

/-- A take whose slot is at the front of the intake list. -/
theorem takeSteps_head (s : State) (k : Kind) : takeSteps s k = .notTaken ∨ ∃ n rest, s.board.intake = n :: rest ∧
    (takeSteps s k = .dropped ∨ (∃ c, takeSteps s k = .refused n c) ∨ takeSteps s k = .passed n) := by
  unfold takeSteps
  split
  · exact .inl rfl
  split
  · exact .inl rfl
  next n rest list =>
    (repeat' split) <;> simp [list]

theorem Invariant.popIntake (inv : Invariant P Q) (h : Upheld P s) {n : Slot} {rest : List Slot}
    (head : s.board.intake = n :: rest) : Upheld (Q n) (popIntake s) := by
  have taken := inv.taken s.records n rest head h.holds
  have tail : rest = s.board.intake.tail := by rw [head]; rfl
  rw [tail] at taken
  exact ⟨inv.freeKeeps n, taken⟩

theorem Invariant.take (inv : Invariant P Q) (h : Upheld P s) {own : State → Slot → State}
    (owns : ∀ {u n}, Upheld (Q n) u → Upheld P (own u n)) (k : Kind) : Upheld P (take k own s) := by
  unfold Machine.take
  rcases takeSteps_head s k with none | ⟨n, rest, head, dropped | ⟨c, refused⟩ | passed⟩
  · rw [none]
    exact h
  all_goals have popped := inv.popIntake h head
  · rw [dropped]
    exact inv.unopened popped
  · rw [refused]
    exact inv.refuse popped c
  · rw [passed]
    exact owns popped

theorem Invariant.takeWriting (inv : Invariant P Q) (h : Upheld P s) {own : State → Slot → State}
    (owns : ∀ {u n}, Upheld (Q n) u → Upheld P (own u n)) (k : Kind) (accepts : Slot → Bool)
    (fields : State → List (Nat × List Byte)) : Upheld P (takeWriting k accepts own fields s) := by
  obtain ⟨also, writes, -⟩ := takeWriting_spec k accepts own fields s
  exact writes ▸ (inv.take h owns k).settle.updateHeaderWith s also

/-! ## Events that are no commands -/

theorem Invariant.notifyBits (inv : Invariant P Q) (h : Upheld P s) (v : Word16) : Upheld P (notifyBits s v) := by
  refine .foldl (fun t n ht => ?_) _ h
  unfold notifySlot
  split
  next joins =>
    simp only [slotHeld, Bool.and_eq_true, Bool.not_eq_true', Bool.or_eq_false_iff, List.contains_eq_mem,
      decide_eq_false_iff_not, List.any_eq_false, beq_iff_eq] at joins
    obtain ⟨-, waits, opened⟩ := joins
    refine ⟨inv.keeps, inv.joined _ n waits (fun there => ?_) ht.holds⟩
    obtain ⟨c, hc, slot⟩ := List.mem_map.mp there
    exact opened c hc slot
  · exact ht

theorem Upheld.lineEvent (h : Upheld P s) (l : Lines) (wakes : Bool) {act : State → State}
    (acts : ∀ {u}, Upheld P u → Upheld P (act u)) : Upheld P (lineEvent s l wakes act) := by
  have recorded : Upheld P (s.withLines l) := .alike h
  exact .ite h (.ite ((acts recorded).endEvent s) (.ite (recorded.wakeIfAsleep.updateHeader s) recorded))

theorem Upheld.takeEncoder (h : Upheld P s) (a : Axis) (v : Int) : Upheld P (takeEncoder s a v) := by
  have put := h.putReading a v
  exact .ite ((put.readingMoves a _).endEvent s) (put.warmUpReading.updateHeader s)

theorem Upheld.anemoLoss (h : Upheld P u) : Upheld P (anemoLoss u) := by
  have reported := h.reportFault (.sensor .anemo)
  unfold Machine.anemoLoss
  refine .ite h.primingLoss ?_
  unfold lossState
  split
  · exact .alike reported
  · split
    · exact .alike reported
    · exact .alike reported
  · exact reported
  · exact reported

theorem Upheld.returnState (h : Upheld P u) : Upheld P (returnState u) := by
  unfold Machine.returnState
  split
  · exact .alike h
  · exact .alike h
  · exact h
  · exact h

theorem Upheld.telemetryAfterControl (h : Upheld P u) (before : State) : Upheld P (telemetryAfterControl before u) :=
  .ite (.ite h.startPage h) h.stopTimer

theorem Upheld.returnSlots (h : Upheld P u) : Upheld P (returnSlots u) := by
  have returned : Upheld P (u.power.resetSet.foldl (fun t n => Machine.refuse t n .reset) u) :=
    .foldl (fun _ n ht => ht.refuse n .reset) _ h
  unfold Machine.returnSlots
  extract_lets t
  exact .alike returned

theorem Upheld.readyEvent (h : Upheld P u) (pulses : Nat) : Upheld P (readyEvent u pulses) := by
  unfold Machine.readyEvent
  extract_lets ready mode taken
  have states : Upheld P ready := (h.endPriming pulses).readyStates
  clear_value ready
  have halted : Upheld P mode := .readyHalted (.alike states)
  clear_value mode
  have takes : Upheld P taken := halted.returnSlots.signalReady.takeAll
  clear_value taken
  exact .recomputeEff (.alike takes)

theorem Upheld.wakeAxis (h : Upheld P u) (a : Axis) (v : Option Int) : Upheld P (wakeAxis u a v) := by
  cases v with
  | some p => exact h.putReading a p
  | none => exact .alike (h.reportFault _)

theorem Upheld.wakeSensors (h : Upheld P u) (r : WakeReadings) : Upheld P (wakeSensors u r) := by
  unfold Machine.wakeSensors
  extract_lets t
  have axes : Upheld P t := (((h.wakeAxis _ _).wakeAxis _ _).wakeAxis _ _).wakeAxis _ _
  clear_value t
  exact .ite (.alike axes) (.reportFault (.alike axes) _)

theorem Upheld.wakeMode (h : Upheld P u) : Upheld P (wakeMode u) := .readyHalted (.ite (.alike h) (.alike h))

theorem Upheld.wakeEvent (h : Upheld P u) (r : WakeReadings) : Upheld P (wakeEvent u r) := by
  unfold Machine.wakeEvent
  extract_lets mode level
  have modes : Upheld P mode := (h.wakeSensors r).readyStates.wakeMode
  clear_value mode
  have levels : Upheld P level := .alike modes.signalReady.takeAll
  clear_value level
  exact .ite levels.recomputeIssuing.pursueDish levels.recomputeIssuing

/-- The end of SETTLE: memory initialised, the header and the page written afresh (R162, R163, R166, R167). -/
theorem Invariant.settleEnded (inv : Invariant P Q) (h : Upheld P u) (lines : Lines) (strap : Bool) :
    Upheld P (settleEnded u lines strap) := by
  unfold Machine.settleEnded
  extract_lets interlock wind started power set headed
  have wiped : Upheld P started := .ite (.store (.alike h) _) (.alike h)
  clear_value started
  have readied : Upheld P set := .alike wiped
  clear_value set
  have begun : Upheld P headed := by
    unfold headed writeHeader
    generalize wholeHeader set = fields
    have stored := (readied.store fields).storeBytes Config.telemetryBase (leBytes 2 (0#16).toNat)
    exact ⟨inv.keeps, inv.begun _ stored.holds⟩
  clear_value headed
  exact .ite begun.startPage begun

/-! ## Every command -/

/-- An invariant of the records is kept by every command, by the constructors. -/
theorem Invariant.exec (inv : Invariant P Q) {c : Instr} {t : State} (sound : P s.records) (run : exec c s = .next t) :
    P t.records := by
  have h : Upheld P s := ⟨inv.keeps, sound⟩
  have kept : ∀ {u}, Upheld P u → Host.Outcome.next u = (.next t : Host.Outcome State Fault Refusal) → P t.records :=
    fun hu same => Host.Outcome.next.inj same ▸ hu.holds
  have take (k : Kind) {own : State → Slot → State} (owns : ∀ {u n}, Upheld (Q n) u → Upheld P (own u n)) :
      Upheld P (takeEvent k own s) := (inv.take h owns k).endEvent s
  cases c with
  | raise => exact kept (take .raise inv.ownRaise) run
  | lower => exact kept (take .lower inv.ownLower) run
  | stow => exact kept (take .stow inv.ownStow) run
  | aim => exact kept (take .aim inv.ownAim) run
  | peak => exact kept (take .peak inv.ownPeak) run
  | point => exact kept (take .point inv.ownPoint) run
  | swap => exact kept (take .swap inv.ownSwap) run
  | halt => exact kept (take .halt fun hu => (inv.unopened hu).ownHalt _) run
  | recoverHold => exact kept (take .recoverHold fun hu => (inv.unopened hu).ownRecoverHold _) run
  | clearFault => exact kept (take .clearFault fun hu => (inv.unopened hu).ownClearFault _) run
  | standby => exact kept (take .standby fun hu => (inv.unopened hu).ownStandby _) run
  | setFix => exact kept (inv.takeWriting h (fun hu => (inv.unopened hu).ownSetFix _) .setFix _ _) run
  | setLimits => exact kept (inv.takeWriting h (fun hu => (inv.unopened hu).ownSetLimits _) .setLimits _ _) run
  | notifyWrite w =>
    have noted := inv.notifyBits h (portValue w)
    exact kept (.ite noted (noted.wakeIfAsleep.updateHeader s)) run
  | noticeWrite w => exact kept ⟨inv.keeps, inv.cleared s.records (~~~portValue w) sound⟩ run
  | controlWrite w =>
    have written : Upheld P (s.withBoard { s.board with control := portValue w &&& controlMask }) :=
      ⟨inv.keeps, inv.enabled s.records (portValue w) sound⟩
    exact kept (written.telemetryAfterControl s) run
  | otherRegisterWrite o w => exact kept h run
  | hostMemoryWrite o d =>
    cases d with
    | byte v => exact kept (h.storeBytes o.toNat [v]) run
    | word v =>
      rw [Machine.exec, execHostMemoryWrite] at run
      split at run
      · cases run
      · exact kept (h.storeBytes o.toNat (leBytes 2 v.toNat)) run
  | parkChange b => exact kept (h.lineEvent _ _ fun hu => .ite hu.recomputeEff hu) run
  | overheadChange b => exact kept (h.lineEvent _ _ fun hu => .ite hu.recomputeEff (.ite hu.overheadStop hu)) run
  | stowLineChange b => exact kept (h.lineEvent _ _ id) run
  | holdLineAssert =>
    exact kept (h.lineEvent _ _ fun {u} hu =>
      have axes := hu.drives (aside_holdAxes u)
      .ite axes (axes.holdStance u)) run
  | holdLineRelease => exact kept (h.lineEvent _ _ Upheld.releaseStance) run
  | anemoOkLow =>
    have line : Upheld P (s.withAnemoLine false) := .alike h
    exact kept (.ite h (.ite (line.anemoLoss.endEvent s) line)) run
  | anemoOkHigh =>
    have line : Upheld P (s.withAnemoLine true) := .alike h
    exact kept (.ite h (.ite line.returnState line)) run
  | windSample pulses =>
    exact kept (.ite h (.ite (h.primingSample pulses) ((h.windSample pulses).endEvent s))) run
  | holdTimerExpiry => exact kept (.ite (.alike h) h) run
  | primingEnd pulses => exact kept (.ite (((h.endPriming pulses).handOff s).endEvent s) h) run
  | levelSample code => exact kept (.ite ((h.takeSample _).endEvent s) h) run
  | settleTimeExpiry => exact kept h.openSamples run
  | watchCheck => exact kept (h.watchCheck.endEvent s) run
  | inclinometerReading r => exact kept (.ite h ((h.takeReading r).warmUpReading.endEvent s)) run
  | encoderReading a v => exact kept (.ite h (h.takeEncoder a v)) run
  | encoderValidReturn a v => exact kept (.ite h (h.takeEncoder a v)) run
  | encoderInvalid a =>
    have clear : Upheld P (clearValid s a) := .alike h
    exact kept (.ite h (.ite clear ((clear.stopFault a _).endEvent s))) run
  | limitSwitchTrip sw =>
    have put : Upheld P (putSwitch s sw true) := .alike h
    exact kept (.ite h (.ite ((put.stopFault _ _).endEvent s) put)) run
  | limitSwitchOpen sw => exact kept (.alike h) run
  | standstill a => exact kept (((h.drives (aside_standstillAxis s a)).takeRecorded s a).endEvent s) run
  | lockReleaseEnd => exact kept (.ite ((h.drives (aside_lockReleased s)).endEvent s) h) run
  | lockEngageEnd =>
    exact kept (.ite (((h.drives (aside_lockEngaged s)).takeRecorded s .mast).endEvent s) h) run
  | deadlineExpiry a => exact kept (.ite ((h.stopFault a _).endEvent s) h) run
  | controlledStopTimeout a => exact kept (.ite ((h.stopFault a _).endEvent s) h) run
  | immediateStopTimeout a => exact kept (.ite ((h.stopFault a _).endEvent s) h) run
  | alarmOnExpiry => exact kept (.ite (.alike h) h) run
  | alarmPeriodExpiry => exact kept (.ite (.alike h) h) run
  | telemetryPeriodExpiry => exact kept (.ite h.startPage h) run
  | telemetryPageWriteEnd => exact kept h.endPage run
  | uptimeTick =>
    have ticked : Upheld P (s.withPower { s.power with uptime := s.power.uptime + 1 }) := .alike h
    exact kept (.ite h (ticked.updateHeader s)) run
  | reset k =>
    have after := inv.reset s.records _ (ite_eq_or_eq (effectiveCause s k = .powerOn) [] s.mem) sound
    exact kept (u := State.afterReset _ _ _ _ _) ⟨inv.keeps, after⟩ run
  | settleEnd l b => exact kept (.ite (inv.settleEnded h l b) h) run
  | warmUpEnd => exact kept (.ite (h.warmUpEnded.updateHeader s) h) run
  | ready pulses => exact kept (.ite ((h.readyEvent pulses).endEvent s) h) run
  | wakeWarmUpEnd r =>
    have woken : Upheld P (Machine.endEvent s (wakeEvent s r)) := (h.wakeEvent r).endEvent s
    exact kept (.ite (.ite woken.startPage woken) h) run

/-- An invariant of the records is kept by every step. -/
theorem Invariant.step (inv : Invariant P Q) {t : State} (sound : P s.records) (run : step s = .next t) : P t.records := by
  unfold Machine.step at run
  split at run
  · exact Host.Outcome.next.inj run ▸ sound
  next c rest _ => exact inv.exec (s := s.withPending rest) sound run

/-! ## Common memory (R154) -/

/-- Common memory is in its canonical form. -/
def memoryCanonical (r : Records) : Prop := Memory.wf r.mem = true

theorem memoryCanonical_keeps : Keeps memoryCanonical where
  stored _ fs h := writeFields_wf fs _ h
  noted _ _ _ := id
  ended _ _ _ := id
  removed _ _ _ := id
  added _ _ _ _ := id
  counted _ := id
  timed _ _ := id
  paged _ _ := id
  pageEnded _ _ := id
  fixed _ _ := id

theorem memoryCanonical_invariant : Invariant memoryCanonical fun _ => memoryCanonical where
  keeps := memoryCanonical_keeps
  freeKeeps _ := memoryCanonical_keeps
  free _ _ := id
  taken _ _ _ _ := id
  opened _ _ := id
  joined _ _ _ _ := id
  cleared _ _ := id
  enabled _ _ := id
  begun _ := id
  reset r m left h := by
    rcases left with rfl | rfl
    · rfl
    · exact h

/-! ## The records (R30, R49, R139, R140, R156, R161 to R163) -/

/-- The records are sound. -/
structure SoundRecords (r : Records) : Prop where
  intake : r.board.intake.Nodup
  opens : (openSlots r.board).Nodup
  apart : ∀ n ∈ r.board.intake, n ∉ openSlots r.board
  faults : r.faults.Nodup
  few : r.faults.length ≤ 16
  gen : r.fixGen = 0 ↔ r.fix = none
  genFits : r.fixGen ≤ 65535
  headerSeq : r.board.headerSeq.getLsbD 0 = false
  page : r.telem.gen.getLsbD 0 = r.telem.writing
  control : r.board.control &&& 0x001F#16 = r.board.control
  notice : r.board.notice &&& 0x07FF#16 = r.board.notice
  table : r.entries = 32

theorem recordsSound_iff (s : State) : RecordsSound s ↔ SoundRecords s.records := by
  constructor
  · rintro ⟨⟨intake, opens, apart⟩, ⟨faults, few⟩, ⟨gen, fits⟩, ⟨seq, page⟩, ⟨control, notice⟩, table⟩
    exact ⟨intake, opens, apart, faults, few, gen, fits, seq, page, control, notice, table⟩
  · rintro ⟨intake, opens, apart, faults, few, gen, fits, seq, page, control, notice, table⟩
    exact ⟨⟨intake, opens, apart⟩, ⟨faults, few⟩, ⟨gen, fits⟩, ⟨seq, page⟩, ⟨control, notice⟩, table⟩

/-- The records are sound, and a slot is neither waiting nor open. -/
structure SlotFree (n : Slot) (r : Records) : Prop where
  sound : SoundRecords r
  notWaiting : n ∉ r.board.intake
  notOpen : n ∉ openSlots r.board

/-! ## Words with their bit 0 and the bits of a mask (R161 to R163) -/

theorem even_add_two (q : Word16) (even : q.getLsbD 0 = false) : (q + 2#16).getLsbD 0 = false := by
  rw [← BitVec.testBit_toNat, Nat.testBit_zero] at even ⊢
  rw [BitVec.toNat_add]
  simp only [BitVec.toNat_ofNat, decide_eq_false_iff_not] at even ⊢
  omega

theorem pageGen_odd (t : Telemetry) (page : t.gen.getLsbD 0 = t.writing) : (pageGen t).getLsbD 0 = true := by
  unfold pageGen
  split
  next writing => exact page.trans writing
  next idle =>
    have even : t.gen.getLsbD 0 = false := page.trans (by simpa using idle)
    rw [← BitVec.testBit_toNat, Nat.testBit_zero] at even ⊢
    rw [BitVec.toNat_add]
    simp only [BitVec.toNat_ofNat, decide_eq_false_iff_not, decide_eq_true_eq] at even ⊢
    omega

theorem nextPageGen_even (gen : Word16) (odd : gen.getLsbD 0 = true) : (nextPageGen gen).getLsbD 0 = false := by
  unfold nextPageGen
  split
  · rfl
  · rw [← BitVec.testBit_toNat, Nat.testBit_zero] at odd ⊢
    rw [BitVec.toNat_add]
    simp only [BitVec.toNat_ofNat, decide_eq_false_iff_not, decide_eq_true_eq] at odd ⊢
    omega

/-- A bit of NOTICE set is one of the eleven of 10.2. -/
theorem notice_set (notice : Word16) (bit : Nat) (low : bit < 11) (masked : notice &&& 0x07FF#16 = notice) :
    (notice ||| BitVec.ofNat 16 (2 ^ bit)) &&& 0x07FF#16 = notice ||| BitVec.ofNat 16 (2 ^ bit) := by
  have own : BitVec.ofNat 16 (2 ^ bit) &&& 0x07FF#16 = BitVec.ofNat 16 (2 ^ bit) := by
    revert bit
    decide
  rw [BitVec.and_comm, BitVec.and_or_distrib_left, BitVec.and_comm, masked, BitVec.and_comm, own]

theorem nextGeneration_pos (g : Nat) : nextGeneration g ≠ 0 := by
  unfold nextGeneration
  split <;> omega

theorem nextGeneration_le (g : Nat) (fits : g ≤ 65535) : nextGeneration g ≤ 65535 := by
  unfold nextGeneration
  split <;> omega

theorem soundRecords_keeps : Keeps SoundRecords where
  stored _ _ h := { h with }
  noted r bit low h := { h with notice := notice_set _ bit low h.notice }
  ended r os fewer h := { h with
    opens := h.opens.sublist fewer
    apart := fun n waits there => h.apart n waits (fewer.subset there) }
  removed r fs fewer h := { h with faults := h.faults.sublist fewer, few := fewer.length_le.trans h.few }
  added r f absent few h := { h with
    faults := List.nodup_append.mpr ⟨h.faults, List.nodup_singleton f, by
      rintro a there b hb rfl
      exact absent (List.mem_singleton.mp hb ▸ there)⟩
    few := by simpa using few }
  counted r h := { h with headerSeq := even_add_two _ h.headerSeq }
  timed _ _ h := { h with }
  paged r _ h := { h with page := pageGen_odd _ h.page }
  pageEnded r writing h := { h with page := nextPageGen_even _ (h.page.trans writing) }
  fixed r _ h := { h with
    gen := iff_of_false (nextGeneration_pos _) (Option.some_ne_none _)
    genFits := nextGeneration_le _ h.genFits }

theorem slotFree_keeps (n : Slot) : Keeps (SlotFree n) where
  stored r fs h := ⟨soundRecords_keeps.stored r fs h.sound, h.notWaiting, h.notOpen⟩
  noted r bit low h := ⟨soundRecords_keeps.noted r bit low h.sound, h.notWaiting, h.notOpen⟩
  ended r os fewer h := ⟨soundRecords_keeps.ended r os fewer h.sound, h.notWaiting, fun there =>
    h.notOpen (fewer.subset there)⟩
  removed r fs fewer h := ⟨soundRecords_keeps.removed r fs fewer h.sound, h.notWaiting, h.notOpen⟩
  added r f absent few h := ⟨soundRecords_keeps.added r f absent few h.sound, h.notWaiting, h.notOpen⟩
  counted r h := ⟨soundRecords_keeps.counted r h.sound, h.notWaiting, h.notOpen⟩
  timed r t h := ⟨soundRecords_keeps.timed r t h.sound, h.notWaiting, h.notOpen⟩
  paged r t h := ⟨soundRecords_keeps.paged r t h.sound, h.notWaiting, h.notOpen⟩
  pageEnded r writing h := ⟨soundRecords_keeps.pageEnded r writing h.sound, h.notWaiting, h.notOpen⟩
  fixed r f h := ⟨soundRecords_keeps.fixed r f h.sound, h.notWaiting, h.notOpen⟩

theorem soundRecords_invariant : Invariant SoundRecords SlotFree where
  keeps := soundRecords_keeps
  freeKeeps := slotFree_keeps
  free _ _ h := h.sound
  taken r n rest head h := by
    have waiting := h.intake
    rw [head, List.nodup_cons] at waiting
    obtain ⟨once, others⟩ := waiting
    have waits : ∀ m ∈ rest, m ∈ r.board.intake := fun m hm => head ▸ List.mem_cons_of_mem n hm
    exact ⟨{ h with intake := others, apart := fun m hm => h.apart m (waits m hm) }, once,
      h.apart n (head ▸ List.mem_cons_self)⟩
  opened r c h := by
    obtain ⟨sound, waits, opened⟩ := h
    have slots : openSlots { r.board with openSet := r.board.openSet ++ [c] } = openSlots r.board ++ [c.slot] :=
      List.map_append
    refine { sound with opens := ?_, apart := fun n hn there => ?_ }
    · rw [slots, ← List.concat_eq_append]
      exact sound.opens.concat opened
    · rw [slots, List.mem_append, List.mem_singleton] at there
      rcases there with old | rfl
      · exact sound.apart n hn old
      · exact waits hn
  joined r n waits opened h := { h with
    intake := by
      rw [← List.concat_eq_append]
      exact h.intake.concat waits
    apart := fun m hm => by
      rcases List.mem_append.mp hm with old | new
      · exact h.apart m old
      · exact List.mem_singleton.mp new ▸ opened }
  cleared r m h :=
    have masked : (r.board.notice &&& m) &&& 0x07FF#16 = r.board.notice &&& m := by
      rw [BitVec.and_assoc, BitVec.and_comm m, ← BitVec.and_assoc, h.notice]
    { h with notice := masked }
  enabled r v h :=
    have masked : (v &&& controlMask) &&& 0x001F#16 = v &&& controlMask := by
      rw [controlMask, BitVec.and_assoc, BitVec.and_self]
    { h with control := masked }
  begun r h :=
    have idle : Telemetry.reset.gen.getLsbD 0 = Telemetry.reset.writing := by decide
    have even : (0 : Word16).getLsbD 0 = false := by decide
    { h with headerSeq := even, page := idle }
  reset _ _ _ _ := by
    refine ⟨?_, ?_, ?_, ?_, ?_, ?_, ?_, ?_, ?_, ?_, ?_, ?_⟩ <;> simp [Board.reset, openSlots, Telemetry.reset]

end Sys2Proof.Machine

open Sys2Proof Sys2Proof.Machine

/-- Settles O58: the stores keep the canonical form, and a reset leaves memory as it was or empty. -/
theorem stepKeepsMemory : Obligations.StepKeepsMemory := fun _ _ sound run => memoryCanonical_invariant.step sound run

/-- Settles O59: the updates of the records keep them sound, a slot taken being free until its command is opened. -/
theorem stepKeepsRecords : Obligations.StepKeepsRecords := fun s t sound run =>
  (recordsSound_iff t).mpr (soundRecords_invariant.step ((recordsSound_iff s).mp sound) run)
end

section
/-! PROOFS. The common checks of a take (R14, R155, R157): O3. -/
namespace Sys2Proof.Machine
set_option Elab.async false -- one lemma after another: elaborated at once they would each hold a thread

variable {s : State} {k : Kind} {n : Slot} {c : Code}

/-- The first steps of a take whose oldest slot is known. -/
theorem takeSteps_oldest (runs : running s = true) (idle : s.swap.phase = .idle) (oldest : s.board.intake.head? = some n) :
    takeSteps s k = if slotOwner s.mem n = 0 then .dropped
      else match Kind.ofCode (slotKind s.mem n) with
        | none => .refused n .badKind
        | some k' =>
          if k' ≠ k then .notTaken
          else if !recordOk s.mem n k then .refused n .badRecord
          else match gate s.ctl.mode k with
            | some c => .refused n c
            | none => .passed n := by
  obtain ⟨rest, list⟩ := List.head?_eq_some_iff.mp oldest
  simp only [takeSteps, takesAllowed, runs, idle, list]
  rfl

theorem take_dropped (own : State → Slot → State) (dropped : takeSteps s k = .dropped) : take k own s = popIntake s := by
  simp only [take, dropped]

theorem take_refused (own : State → Slot → State) (refused : takeSteps s k = .refused n c) :
    take k own s = refuse (popIntake s) n c := by
  simp only [take, refused]

/-- A take that reaches no owning block writes no record into the header. -/
theorem takeWriting_stopped (accepts : Slot → Bool) (own : State → Slot → State) (fields : State → List (Nat × List Byte))
    (stopped : ∀ n, takeSteps s k ≠ .passed n) : takeWriting k accepts own fields s = endEvent s (take k own s) := by
  unfold takeWriting
  split
  next m passed => exact absurd passed (stopped m)
  all_goals rfl

/-- The command of a kind is the event of its take, with the kind's owning block, where that block is not reached. -/
theorem exec_takeInstr_stopped (stopped : ∀ n, takeSteps s k ≠ .passed n) :
    ∃ own, exec (takeInstr k) s = .next (endEvent s (take k own s)) := by
  cases k with
  | setFix => exact ⟨_, congrArg Host.Outcome.next (takeWriting_stopped _ ownSetFix _ stopped)⟩
  | setLimits => exact ⟨_, congrArg Host.Outcome.next (takeWriting_stopped _ ownSetLimits _ stopped)⟩
  | raise => exact ⟨ownRaise, rfl⟩
  | lower => exact ⟨ownLower, rfl⟩
  | stow => exact ⟨ownStow, rfl⟩
  | aim => exact ⟨ownAim, rfl⟩
  | peak => exact ⟨ownPeak, rfl⟩
  | point => exact ⟨ownPoint, rfl⟩
  | halt => exact ⟨ownHalt, rfl⟩
  | swap => exact ⟨ownSwap, rfl⟩
  | clearFault => exact ⟨ownClearFault, rfl⟩
  | standby => exact ⟨ownStandby, rfl⟩
  | recoverHold => exact ⟨ownRecoverHold, rfl⟩

theorem exec_takeInstr_dropped (dropped : takeSteps s k = .dropped) :
    exec (takeInstr k) s = .next (endEvent s (popIntake s)) := by
  obtain ⟨own, run⟩ := exec_takeInstr_stopped (s := s) (k := k) (by simp [dropped])
  rw [run, take_dropped own dropped]

theorem exec_takeInstr_refused (canonical : Memory.wf s.mem = true) (refused : takeSteps s k = .refused n c) :
    ∃ u, exec (takeInstr k) s = .next (endEvent s u) ∧ Refused s u n c := by
  obtain ⟨own, run⟩ := exec_takeInstr_stopped (s := s) (k := k) (by simp [refused])
  exact ⟨_, run.trans (by rw [take_refused own refused]), refuse_refused s n c canonical⟩

end Sys2Proof.Machine

open Sys2Proof Sys2Proof.Machine

/-- Settles O3: each check that stops a take stops it before the owning block, so that the event is the drop or the
refusal for every kind alike. -/
theorem takeCommonChecks : Obligations.TakeCommonChecks := by
  intro s k n runs idle oldest canonical
  have steps := takeSteps_oldest (k := k) runs idle oldest
  refine ⟨fun host => ?_, fun module noKind => ?_, fun module kind bad => ?_, fun c module kind ok stops => ?_⟩
  · exact exec_takeInstr_dropped (by simp [steps, host])
  · exact exec_takeInstr_refused canonical (by simp [steps, module, noKind])
  · exact exec_takeInstr_refused canonical (by simp [steps, module, kind, bad])
  · exact exec_takeInstr_refused canonical (by simp [steps, module, kind, ok, stops])
end

section
/-! PROOFS. The bus port: writes to common memory and to the registers, and STATUS (R154, R156, R160, R161, R171): O25, O26,
O24, O23. -/
namespace Sys2Proof.Machine
set_option Elab.async false -- one lemma after another: elaborated at once they would each hold a thread

/-! ## A word in common memory (R154) -/

theorem lowByte_eq (v : Word16) : BitVec.ofNat 8 v.toNat = v.extractLsb' 0 8 :=
  BitVec.eq_of_toNat_eq (by simp)

theorem highByte_eq (v : Word16) : BitVec.ofNat 8 (v.toNat / 256) = v.extractLsb' 8 8 :=
  BitVec.eq_of_toNat_eq (by simp [Nat.shiftRight_eq_div_pow])

/-- A word stored: its low byte, its high byte, and no other byte. -/
theorem read8_storeWord {m : Memory} (canonical : Memory.wf m = true) (a : Nat) (v : Word16) :
    let w := writeBytes m a (leBytes 2 v.toNat)
    read8 w a = v.extractLsb' 0 8 ∧ read8 w (a + 1) = v.extractLsb' 8 8 ∧
      ∀ b, b ≠ a → b ≠ a + 1 → read8 w b = read8 m b := by
  refine ⟨?_, ?_, fun b low high => ?_⟩
  · exact (read8_writeBytes (leBytes 2 v.toNat) m a 0 canonical (by simp)).trans (lowByte_eq v)
  · exact (read8_writeBytes (leBytes 2 v.toNat) m a 1 canonical (by simp)).trans (highByte_eq v)
  · exact read8_writeBytes_other _ m a b (by rw [leBytes_length]; omega)

/-! ## The interrupt output and STATUS (R160, R161) -/

theorem lowMask_getLsbD (i : Nat) : (0x00FF#16).getLsbD i = decide (i < 8) := by
  by_cases inside : i < 16
  · revert i
    decide
  · rw [BitVec.getLsbD_of_ge _ _ (Nat.le_of_not_lt inside)]
    simp
    omega

/-- Some slot bit of a register word is set. -/
theorem slotBits_iff (v : Word16) : (v &&& 0x00FF#16 != 0#16) = true ↔ ∃ i < 8, v.getLsbD i = true := by
  rw [bne_iff_ne, ne_eq, ← not_iff_not, not_not]
  push Not
  constructor
  · intro none i low
    have bit := congrArg (·.getLsbD i) none
    simpa [lowMask_getLsbD, low] using bit
  · intro clear
    refine BitVec.eq_of_getLsbD_eq fun i _ => ?_
    rw [BitVec.getLsbD_and, lowMask_getLsbD]
    by_cases low : i < 8
    · simp [clear i low]
    · simp [low]

theorem boolBit_eq (b : Bool) (n : Nat) : boolBit b n = 2 ^ n * b.toNat := by
  cases b <;> simp [boolBit]

theorem decide_toNat (b : Bool) : decide (b.toNat = 1) = b := by
  cases b <;> rfl

/-- The places of numbers that fit them. -/
theorem statusSum_places (ready mode asleep cause mastUp fault quiesce waiting : Nat) (readyFits : ready < 2)
    (modeFits : mode < 8) (asleepFits : asleep < 2) (causeFits : cause < 4) (mastUpFits : mastUp < 2)
    (faultFits : fault < 2) (quiesceFits : quiesce < 2) (waitingFits : waiting < 16) :
    let v := ready + 2 * mode + 16 * asleep + 32 * cause + 128 * mastUp + 256 * fault + 512 * quiesce + 1024 * waiting
    v < 16384 ∧ v % 2 = ready ∧ v / 2 % 8 = mode ∧ v / 16 % 2 = asleep ∧ v / 32 % 4 = cause ∧ v / 128 % 2 = mastUp ∧
      v / 256 % 2 = fault ∧ v / 512 % 2 = quiesce ∧ v / 1024 % 16 = waiting := by
  refine ⟨?_, ?_, ?_, ?_, ?_, ?_, ?_, ?_, ?_⟩ <;> omega

/-- The bits of a word built from flags and numbers that fit their places. -/
theorem statusBits (ready asleep mastUp fault quiesce : Bool) (mode cause waiting : Nat)
    (modeFits : mode < 8) (causeFits : cause < 4) (waitingFits : waiting < 16) :
    let v := BitVec.ofNat 16 (boolBit ready 0 + 2 * mode + boolBit asleep 4 + 32 * cause + boolBit mastUp 7 +
      boolBit fault 8 + boolBit quiesce 9 + 1024 * waiting)
    v.getLsbD 0 = ready ∧ (v.extractLsb' 1 3).toNat = mode ∧ v.getLsbD 4 = asleep ∧
      (v.extractLsb' 5 2).toNat = cause ∧ v.getLsbD 7 = mastUp ∧ v.getLsbD 8 = fault ∧ v.getLsbD 9 = quiesce ∧
      (v.extractLsb' 10 4).toNat = waiting ∧ (v.extractLsb' 14 2).toNat = 0 := by
  have places := statusSum_places ready.toNat mode asleep.toNat cause mastUp.toNat fault.toNat quiesce.toNat waiting
    ready.toNat_lt modeFits asleep.toNat_lt causeFits mastUp.toNat_lt fault.toNat_lt quiesce.toNat_lt waitingFits
  simp only [boolBit_eq, Nat.reducePow, one_mul]
  generalize ready.toNat + 2 * mode + 16 * asleep.toNat + 32 * cause + 128 * mastUp.toNat + 256 * fault.toNat +
    512 * quiesce.toNat + 1024 * waiting = v at places ⊢
  obtain ⟨fits, readyAt, modeAt, asleepAt, causeAt, mastUpAt, faultAt, quiesceAt, waitingAt⟩ := places
  have word : (BitVec.ofNat 16 v).toNat = v := Nat.mod_eq_of_lt (by omega)
  simp only [← BitVec.testBit_toNat, BitVec.extractLsb'_toNat, word, Nat.shiftRight_eq_div_pow,
    Nat.testBit_eq_decide_div_mod_eq, Nat.reducePow, Nat.div_one, readyAt, modeAt, asleepAt, causeAt, mastUpAt, faultAt,
    quiesceAt, waitingAt, decide_toNat, true_and]
  omega

/-! ## A page write that starts (R163) -/

theorem startPage_mem (s : State) : (startPage s).mem = writeBytes
    (writeBytes s.mem Config.telemetryBase (leBytes 2 (pageGen s.telem).toNat)) (Config.telemetryBase + 2) (pageBytes s) := by
  unfold startPage
  generalize pageBytes s = page
  rfl

theorem startPage_standing (s : State) : (startPage s).board = s.board ∧ (startPage s).stance = s.stance ∧
    (startPage s).ctl = s.ctl ∧ (startPage s).axes = s.axes := by
  unfold startPage
  generalize pageBytes s = page
  exact ⟨rfl, rfl, rfl, rfl⟩

theorem startPage_telem (s : State) : (startPage s).telem =
    { s.telem with gen := pageGen s.telem, writing := true, timer := some s.limits.telemPeriod } := by
  unfold startPage
  generalize pageBytes s = page
  rfl

/-- A page write changes no byte outside the page. -/
theorem startPage_beyond (s : State) (a : Nat) (outside : a < 0x300 ∨ 0x400 ≤ a) :
    read8 (startPage s).mem a = read8 s.mem a := by
  have length : (pageBytes s).length = 254 := padBytes_length ..
  rw [startPage_mem, read8_writeBytes_other _ _ _ _ (by rw [length, Config.telemetryBase]; omega),
    read8_writeBytes_other _ _ _ _ (by rw [leBytes_length, Config.telemetryBase]; omega)]

/-! ## CONTROL (R161, R163) -/

/-- The state that holds the enables of a write to CONTROL. -/
def enabledState (s : State) (w : PortWrite) : State :=
  s.withBoard { s.board with control := portValue w &&& 0x001F#16 }

variable {s : State} {w : PortWrite}

theorem exec_controlWrite_again (on : (portValue w &&& 0x001F#16).getLsbD 4 = true)
    (before : s.board.control.getLsbD 4 = true) : exec (.controlWrite w) s = .next (enabledState s w) := by
  refine congrArg Host.Outcome.next ((if_pos on).trans (if_neg ?_))
  simp [telemetryEnabled, before]

theorem exec_controlWrite_off (off : (portValue w &&& 0x001F#16).getLsbD 4 = false) :
    exec (.controlWrite w) s = .next ((enabledState s w).withTelem { s.telem with timer := none }) :=
  congrArg Host.Outcome.next (if_neg (ne_true_of_eq_false off))

theorem exec_controlWrite_on (on : (portValue w &&& 0x001F#16).getLsbD 4 = true)
    (before : s.board.control.getLsbD 4 = false) : exec (.controlWrite w) s =
      .next (if telemetryRuns s then startPage (enabledState s w) else enabledState s w) := by
  refine congrArg Host.Outcome.next ((if_pos on).trans ?_)
  simp only [telemetryEnabled, before, Bool.not_false, Bool.true_and]
  rfl

/-! ## NOTIFY (R156, R171) -/

/-- The slots that a write to NOTIFY lets join the intake list. -/
def joins (v : Word16) (b : Board) (n : Slot) : Bool := v.getLsbD n.val && !slotHeld b n

theorem slotHeld_joined (b : Board) (n m : Slot) (other : m ≠ n) :
    slotHeld { b with intake := b.intake ++ [n] } m = slotHeld b m := by
  simp [slotHeld, other]

/-- The set bits of a NOTIFY write, one after the other: a slot that joins holds no other slot out. -/
theorem foldl_notifySlot (v : Word16) (ns : List Slot) (once : ns.Nodup) (s : State) : ns.foldl (notifySlot v) s =
    s.withBoard { s.board with intake := s.board.intake ++ ns.filter (joins v s.board) } := by
  induction ns generalizing s with
  | nil =>
    rw [List.filter_nil, List.append_nil]
    rfl
  | cons n ns ih =>
    obtain ⟨alone, once⟩ := List.nodup_cons.mp once
    rw [List.foldl_cons, ih once]
    cases here : joins v s.board n with
    | false =>
      have skipped : notifySlot v s n = s := if_neg (ne_true_of_eq_false here)
      rw [skipped, List.filter_cons_of_neg (ne_true_of_eq_false here)]
    | true =>
      have joined : notifySlot v s n = s.withBoard { s.board with intake := s.board.intake ++ [n] } := if_pos here
      have others : ns.filter (joins v { s.board with intake := s.board.intake ++ [n] }) =
          ns.filter (joins v s.board) := List.filter_congr fun m hm =>
        have other : m ≠ n := ne_of_mem_of_not_mem hm alone
        congrArg (v.getLsbD m.val && !·) (slotHeld_joined s.board n m other)
      rw [joined, List.filter_cons_of_pos here, withBoard_board, others, List.append_assoc]
      rfl

/-- The state whose intake list a write to NOTIFY has lengthened. -/
def notedState (s : State) (w : PortWrite) : State := s.withBoard { s.board with
  intake := s.board.intake ++ allSlots.filter (joins (portValue w) s.board) }

theorem notifyBits_eq (s : State) (w : PortWrite) : notifyBits s (portValue w) = notedState s w :=
  foldl_notifySlot (portValue w) allSlots (by decide) s

/-- A change of the board alone changes no field of the header. -/
theorem updateHeader_withBoard (s : State) (b : Board) : updateHeader s (s.withBoard b) = s.withBoard b := by
  have stage : becameReady s (s.withBoard b) = false := by simp [becameReady]
  have unchanged : changedFields s (s.withBoard b) = [] := by
    simp [changedFields, stage, headerFields, headerDatum]
  rw [updateHeader, updateHeaderWith, unchanged]
  rfl

theorem exec_notifyWrite_awake (rest : s.power.standby ≠ .asleep ∨ portValue w &&& 0x00FF#16 = 0#16) :
    exec (.notifyWrite w) s = .next (notedState s w) := by
  refine congrArg Host.Outcome.next ?_
  rw [notifyBits_eq]
  by_cases none : portValue w &&& 0x00FF#16 = 0
  · exact if_pos none
  · have awake : (notedState s w).power.standby ≠ .asleep := rest.resolve_right none
    rw [if_neg none, wakeIfAsleep, if_neg awake]
    exact updateHeader_withBoard s _

theorem exec_notifyWrite_asleep (asleep : s.power.standby = .asleep) (some : portValue w &&& 0x00FF#16 ≠ 0#16) :
    exec (.notifyWrite w) s = .next (updateHeader s (wake (notedState s w))) := by
  refine congrArg Host.Outcome.next ((if_neg some).trans ?_)
  rw [notifyBits_eq, wakeIfAsleep, if_pos (show (notedState s w).power.standby = .asleep from asleep)]

theorem updateHeader_standing (before s : State) : (updateHeader before s).stance = s.stance ∧
    (updateHeader before s).axes = s.axes ∧ (updateHeader before s).geo = s.geo := by
  unfold updateHeader updateHeaderWith
  split <;> exact ⟨rfl, rfl, rfl⟩

/-- A priming that starts changes neither stance, band nor solutions. -/
theorem startPriming_stance (s : State) : (startPriming s).stance = s.stance ∧ (startPriming s).geo = s.geo ∧
    (startPriming s).wind.band = s.wind.band := by
  unfold startPriming primingLoss
  dsimp only
  split
  · exact ⟨rfl, rfl, rfl⟩
  next =>
    rw [withWind_wind, withWind_stance, withWind_geo, reportFault_stance, reportFault_geo, reportFault_wind]
    exact ⟨rfl, rfl, rfl⟩

end Sys2Proof.Machine

open Sys2Proof Sys2Proof.Machine

/-- Settles O25: the two bytes of a word are stored one after the other. -/
theorem hostWrites : Obligations.HostWrites := by
  intro s offset canonical
  refine ⟨fun v => ⟨_, rfl, read8_write8_same _ _ _ canonical, fun a other => read8_write8_other _ _ _ _ other⟩,
    fun v even => ⟨_, ?_, read8_storeWord canonical offset.toNat v⟩, fun v odd => if_pos odd, fun o w => rfl⟩
  exact if_neg (by omega)

/-- Settles O26: each field of STATUS has a place of its own, and fits it. -/
theorem statusFields : Obligations.StatusFields := by
  intro s
  constructor
  · rw [irq]
    simp only [Bool.or_eq_true, Bool.and_eq_true, slotBits_iff]
  · intro few
    have asleep : (s.power.standby == .asleep) = decide (s.power.standby = .asleep) := rfl
    have quiesce : (s.swap.phase == .quiesce) = decide (s.swap.phase = .quiesce) := rfl
    have status : readPort s 0x8000 = statusWord s := rfl
    rw [status, statusWord, asleep, quiesce]
    refine statusBits _ _ _ _ _ _ _ _ ?_ ?_ (by omega)
    · cases s.ctl.mode <;> decide
    · cases s.power.cause <;> decide

/-- Settles O24: only the telemetry enable that turns on or off does more than stand in CONTROL. -/
theorem noticeAndControlWrites : Obligations.NoticeAndControlWrites := by
  intro s w held
  refine ⟨rfl, exec_controlWrite_again, exec_controlWrite_off, fun on before => ⟨_, exec_controlWrite_on on before, ?_⟩⟩
  cases telemetryRuns s with
  | true =>
    obtain ⟨board, stance, ctl, axes⟩ := startPage_standing (enabledState s w)
    rw [if_pos rfl, startPage_telem]
    exact ⟨board, stance, ctl, axes, fun _ => ⟨rfl, rfl⟩, nofun, startPage_beyond (enabledState s w)⟩
  | false => exact ⟨rfl, rfl, rfl, rfl, nofun, fun _ => rfl, fun _ _ => rfl⟩

/-- Settles O23: a slot that joins holds no other out, and a wake's priming leaves the board alone. -/
theorem notifyWrite : Obligations.NotifyWrite := by
  intro s w joined
  refine ⟨exec_notifyWrite_awake, fun asleep some => ⟨_, exec_notifyWrite_asleep asleep some, ?_⟩⟩
  set woken := (notedState s w).withPower { s.power with standby := .waking }
  obtain ⟨primed, axes, running, priming, window, -⟩ := startPriming_rule woken
  obtain ⟨stance, geo, band⟩ := startPriming_stance woken
  obtain ⟨sameStance, sameAxes, sameGeo⟩ := updateHeader_standing s (startPriming woken)
  have kept := (kept_updateHeader s (startPriming woken)).trans primed
  have wind := congrArg Kept.wind kept
  exact ⟨congrArg Kept.intake kept, congrArg Kept.power kept, (congrArg Wind.running wind).trans running,
    (congrArg Wind.priming wind).trans priming, (congrArg Wind.window wind).trans window,
    (congrArg Wind.band wind).trans band, sameStance.trans stance, sameAxes.trans axes, sameGeo.trans geo⟩
end

section
/-! PROOFS. The telemetry page and its timers (R163, 10.2): O45. -/
namespace Sys2Proof.Machine
set_option Elab.async false -- one lemma after another: elaborated at once they would each hold a thread

variable {m : Memory} {a : Nat} {s : State}

/-! ## Fields read back -/

theorem readU8_byte {v : Nat} (h : m.holds a (leBytes 1 v)) : readU8 m a = v % 256 := by
  obtain ⟨byte, -⟩ := List.cons.inj h
  rw [readU8, byte, BitVec.toNat_ofNat]

theorem readBytes_le16 {i : Int} (h : m.holds a (le16 i)) : readBytes m a 2 = le16 i := h

/-- An unsigned field is the signed one of its number. -/
theorem leBytes_two_eq (v : Nat) : leBytes 2 v = le16 v := by
  have low : fromSigned 16 (v : Int) = v % 65536 := by
    rw [fromSigned]
    omega
  have first : BitVec.ofNat 8 v = BitVec.ofNat 8 (v % 65536) := BitVec.eq_of_toNat_eq (by simp)
  have second : BitVec.ofNat 8 (v / 256) = BitVec.ofNat 8 (v % 65536 / 256) := BitVec.eq_of_toNat_eq (by simp; omega)
  rw [le16, low, leBytes, leBytes, first, second]
  rfl

theorem read8_zeros {n : Nat} (h : m.holds a (List.replicate n 0)) (k : Nat) (inside : k < n) : read8 m (a + k) = 0 := by
  induction n generalizing a k with
  | zero => cases inside
  | succ n ih =>
    obtain ⟨first, rest⟩ := List.cons.inj h
    cases k with
    | zero => exact first
    | succ k =>
      rw [← Nat.add_assoc, Nat.add_right_comm]
      exact ih rest k (Nat.lt_of_succ_lt_succ inside)

/-! ## The fault-set summary (10.2) -/

/-- The fault that a bit of the summary stands for. -/
def faultOfBit : Nat → Option FaultId
  | 0 => some (.stall .mast)
  | 1 => some (.stall .pan)
  | 2 => some (.stall .tilt)
  | 3 => some (.stall .pol)
  | 4 => some (.limit .mast)
  | 5 => some (.limit .pan)
  | 6 => some (.limit .tilt)
  | 7 => some (.sensor (.axis .mast))
  | 8 => some (.sensor (.axis .pan))
  | 9 => some (.sensor (.axis .tilt))
  | 10 => some (.sensor (.axis .pol))
  | 11 => some (.sensor .incl)
  | 12 => some (.sensor .level)
  | 13 => some (.sensor .anemo)
  | 14 => some .overhead
  | 15 => some .vanMoved
  | 16 => some .attitude
  | 17 => some .windStow
  | 32 => some (.limit .pol)
  | _ => none

theorem faultOfBit_summaryBit (f : FaultId) : faultOfBit f.summaryBit = some f := by
  cases f with
  | stall a => cases a <;> rfl
  | limit a => cases a <;> rfl
  | sensor x =>
    cases x with
    | axis a => cases a <;> rfl
    | incl => rfl
    | level => rfl
    | anemo => rfl
  | _ => rfl

/-- Two faults have two bits. -/
theorem summaryBit_inj {f g : FaultId} (same : f.summaryBit = g.summaryBit) : f = g := by
  have named := congrArg faultOfBit same
  rw [faultOfBit_summaryBit, faultOfBit_summaryBit] at named
  exact Option.some.inj named

/-- The summary's 32 bits leave out the polariser's limit alone. -/
theorem summaryBit_lt {f : FaultId} (shown : f ≠ .limit .pol) : f.summaryBit < 32 := by
  cases f with
  | stall a => cases a <;> decide
  | limit a =>
    cases a with
    | pol => exact absurd rfl shown
    | _ => decide
  | sensor x =>
    cases x with
    | axis a => cases a <;> decide
    | _ => decide
  | _ => decide

theorem faultSummary_testBit (fs : List FaultId) (f : FaultId) :
    (faultSummary fs).testBit f.summaryBit = decide (f ∈ fs) := by
  have bits : ∀ acc, (fs.foldl (fun acc (g : FaultId) => acc ||| 2 ^ g.summaryBit) acc).testBit f.summaryBit =
      (acc.testBit f.summaryBit || decide (f ∈ fs)) := by
    induction fs with
    | nil => simp
    | cons g fs ih =>
      intro acc
      have own : (2 ^ g.summaryBit).testBit f.summaryBit = decide (f = g) := by
        rw [Nat.testBit_two_pow, decide_eq_decide]
        exact ⟨fun same => (summaryBit_inj same).symm, fun same => same ▸ rfl⟩
      rw [List.foldl_cons, ih, Nat.testBit_or, own]
      simp [Bool.or_assoc]
  rw [faultSummary, bits, Nat.zero_testBit, Bool.false_or]

theorem readU32_summary {fs : List FaultId} (h : m.holds a (leBytes 4 (faultSummary fs))) {f : FaultId}
    (shown : f ≠ .limit .pol) : (readU32 m a).testBit f.summaryBit = decide (f ∈ fs) := by
  have word : (4294967296 : Nat) = 2 ^ 32 := rfl
  rw [readU32_holds h, word, Nat.testBit_mod_two_pow, faultSummary_testBit, decide_eq_true (summaryBit_lt shown),
    Bool.true_and]

/-! ## A page write (R163) -/

theorem startPage_holds (s : State) (canonical : Memory.wf s.mem = true) :
    Memory.holds (startPage s).mem 0x300 (leBytes 2 (startPage s).telem.gen.toNat) ∧
      Memory.holds (startPage s).mem 0x302 (pageBytes s) := by
  have begun := writeBytes_wf (leBytes 2 (pageGen s.telem).toNat) s.mem 0x300 canonical
  rw [startPage_mem, startPage_telem]
  exact ⟨holds_beside (holds_writeBytes 0x300 _ canonical) (.inl (by rw [leBytes_length, Config.telemetryBase])),
    holds_writeBytes 0x302 _ begun⟩

theorem exec_telemetryPeriodExpiry (times : s.telem.timer.isSome = true) (enabled : s.board.control.getLsbD 4 = true)
    (up : s.ctl.mode ≠ .standby) (settled : s.power.phase ≠ .settle) :
    exec .telemetryPeriodExpiry s = .next (startPage s) := by
  refine congrArg Host.Outcome.next (if_pos ?_)
  simp [times, telemetryEnabled, enabled, telemetryRuns, up, settled]

theorem readU16_word {v : Word16} (h : m.holds a (leBytes 2 v.toNat)) : readU16 m a = v.toNat :=
  (readU16_holds h).trans (Nat.mod_eq_of_lt v.isLt)

/-- The end of a page write puts its generation in, and changes no other byte. -/
theorem endPage_shown (s : State) (canonical : Memory.wf s.mem = true) (writing : s.telem.writing = true) :
    (endPage s).telem = { s.telem with gen := nextPageGen s.telem.gen, writing := false } ∧
      readU16 (endPage s).mem 0x300 = (endPage s).telem.gen.toNat ∧
      ∀ a, a ≠ 0x300 → a ≠ 0x301 → read8 (endPage s).mem a = read8 s.mem a := by
  rw [endPage, if_pos writing]
  refine ⟨rfl, readU16_word (holds_writeBytes 0x300 _ canonical), fun a low high => ?_⟩
  refine read8_writeBytes_other _ s.mem Config.telemetryBase a ?_
  rw [leBytes_length, Config.telemetryBase]
  omega

end Sys2Proof.Machine

open Sys2Proof Sys2Proof.Machine

/-- Settles O45: the fields of a page stand one after the other, none of them over the generation. -/
theorem telemetryTimers : Obligations.TelemetryTimers := by
  rintro s canonical ⟨-, odd⟩
  refine ⟨?_, ?_, fun idle => congrArg Host.Outcome.next (if_neg (ne_true_of_eq_false idle))⟩
  · intro times enabled up settled bit bitOf site probes
    refine ⟨startPage s, exec_telemetryPeriodExpiry times enabled up settled, ?_⟩
    obtain ⟨generation, page⟩ := startPage_holds s canonical
    obtain ⟨board, stance, -, -⟩ := startPage_standing s
    have telem := startPage_telem s
    have beyond := startPage_beyond s
    generalize startPage s = t at *
    rw [pageBytes, padBytes_eq _ _ (by simp [targetBytes])] at page
    simp only [targetBytes, List.append_assoc, holds_append, List.length_append, leBytes_length, le16_length, Nat.reduceAdd,
      Nat.reduceSub] at page
    obtain ⟨mode, mast, dish, band, flags, liveSite, ext, eff, goal, ceiling, panPos, panTarget, tiltPos, tiltTarget,
      polPos, polTarget, sitePan, siteTilt, sitePol, figure, pitch, roll, mean, budget, draw, waits, step, probed, lines,
      faults, uptime, reserved⟩ := page
    have bits : ∀ f, bitOf f = f.summaryBit := by
      intro f
      cases f with
      | stall a => cases a <;> rfl
      | limit a => cases a <;> rfl
      | sensor x =>
        cases x with
        | axis a => cases a <;> rfl
        | _ => rfl
      | _ => rfl
    rw [leBytes_two_eq] at figure
    refine ⟨by rw [telem], by rw [telem], ?_, readU16_word generation, readU8_byte mode, readU8_byte mast,
      readU8_byte dish, readU8_byte band, readU8_byte flags, ?_, ext, eff, goal, ceiling, panPos, panTarget, tiltPos,
      tiltTarget, polPos, polTarget, sitePan, siteTilt, sitePol, figure, pitch, roll, mean, readU8_byte budget,
      readU8_byte draw, readU8_byte waits, ?_, ?_, readU8_byte lines, ?_, readU32_holds uptime, read8_zeros reserved, beyond,
      stance, board⟩
    · rw [telem]
      exact pageGen_odd s.telem odd
    · refine (readU8_byte liveSite).trans ?_
      cases s.stance.site <;> rfl
    · refine (readU8_byte step).trans ?_
      cases s.level.search <;> rfl
    · refine (readU8_byte probed).trans ?_
      unfold probes
      cases s.level.search <;> rfl
    · intro f shown
      rw [bits]
      exact readU32_summary faults shown
  · intro writing
    obtain ⟨telem, gen, others⟩ := endPage_shown s canonical writing
    exact ⟨endPage s, rfl, by rw [telem], by rw [telem], by rw [telem]; rfl, gen, others⟩
end

section
/-! PROOFS. SET_LIMITS (R38, R65, R116, R134, R135, R151, R162 to R164): O19. -/
namespace Sys2Proof.Machine
set_option Elab.async false -- one lemma after another: elaborated at once they would each hold a thread

/-! ## The values put in force (R134, R164) -/

theorem clampNat_le {lo hi : Nat} (range : lo ≤ hi) (v : Nat) : clampNat lo hi v ≤ hi := by
  unfold clampNat
  (repeat' split) <;> omega

/-- The fleet lock's bound on a field that may not exceed it. -/
theorem fleetCap_eq (fleet : Bool) (w v : Nat) :
    (if fleet then min v w else v) = if fleet = true ∧ w < v then w else v := by
  cases fleet with
  | false => simp
  | true =>
    simp only [true_and, if_true]
    split <;> omega

/-- The fleet lock's bound on a field that may not fall short of it. -/
theorem fleetFloor_eq (fleet : Bool) (w v : Nat) :
    (if fleet then max v w else v) = if fleet = true ∧ v < w then w else v := by
  cases fleet with
  | false => simp
  | true =>
    simp only [true_and, if_true]
    split <;> omega

section
variable (fleet : Bool) (l : Limits)

/-- The fields that the fleet lock leaves as their ranges give them. -/
theorem formLimits_free : formLimits fleet l = { clampRanges l with
    t1 := (formLimits fleet l).t1, t2 := (formLimits fleet l).t2, t3 := (formLimits fleet l).t3,
    c0 := (formLimits fleet l).c0, c1 := (formLimits fleet l).c1, c2 := (formLimits fleet l).c2,
    residency := (formLimits fleet l).residency } := by
  cases fleet <;> rfl

theorem formLimits_t1 : (formLimits fleet l).t1 = if fleet then min (clampNat 1 999 l.t1) 100 else clampNat 1 999 l.t1 := by
  cases fleet <;> rfl

theorem formLimits_t2 : (formLimits fleet l).t2 = if fleet then min (clampNat 1 999 l.t2) 150 else clampNat 1 999 l.t2 := by
  cases fleet <;> rfl

theorem formLimits_t3 : (formLimits fleet l).t3 = if fleet then min (clampNat 1 999 l.t3) 200 else clampNat 1 999 l.t3 := by
  cases fleet <;> rfl

/-- The default of the ceiling of band 0 is the end of its range. -/
theorem formLimits_c0 : (formLimits fleet l).c0 = clampNat 0 15000 l.c0 := by
  cases fleet with
  | false => rfl
  | true => exact Nat.min_eq_left (clampNat_le (lo := 0) (hi := 15000) (by decide) l.c0)

theorem formLimits_c1 :
    (formLimits fleet l).c1 = if fleet then min (clampNat 0 15000 l.c1) 10000 else clampNat 0 15000 l.c1 := by
  cases fleet <;> rfl

theorem formLimits_c2 :
    (formLimits fleet l).c2 = if fleet then min (clampNat 0 15000 l.c2) 5000 else clampNat 0 15000 l.c2 := by
  cases fleet <;> rfl

theorem formLimits_residency : (formLimits fleet l).residency =
    if fleet then max (clampNat 60 3600 l.residency) 600 else clampNat 60 3600 l.residency := by
  cases fleet <;> rfl
end

/-! ## The record and its 32 bytes (R164, 10.2) -/

/-- The fields of a record fit their bytes. -/
structure LimitsFit (l : Limits) : Prop where
  initialStep : l.initialStep < 256
  minStep : l.minStep < 256
  threshold : l.threshold < 256
  probeLimit : l.probeLimit < 256
  watchDrop : l.watchDrop < 256
  anemoK : l.anemoK < 256
  budget : l.budget < 256
  settle : l.settle < 65536
  t1 : l.t1 < 65536
  t2 : l.t2 < 65536
  t3 : l.t3 < 65536
  c0 : l.c0 < 65536
  c1 : l.c1 < 65536
  c2 : l.c2 < 65536
  residency : l.residency < 65536
  roof : l.roof < 65536
  alarmPeriod : l.alarmPeriod < 65536
  alarmOn : l.alarmOn < 65536
  telemPeriod : l.telemPeriod < 65536

theorem clampRanges_fit (l : Limits) : LimitsFit (clampRanges l) := by
  constructor
  case alarmOn =>
    have on := clampNat_le (lo := 50) (hi := 1950) (by decide) l.alarmOn
    have period := clampNat_le (lo := 200) (hi := 2000) (by decide) l.alarmPeriod
    dsimp only [clampRanges]
    split <;> omega
  all_goals
    dsimp only [clampRanges]
    exact lt_of_le_of_lt (clampNat_le (by decide) _) (by decide)

theorem clampFleet_fit {l : Limits} (h : LimitsFit l) : LimitsFit (clampFleet l) := { h with
  t1 := min_lt_of_left_lt h.t1
  t2 := min_lt_of_left_lt h.t2
  t3 := min_lt_of_left_lt h.t3
  c0 := min_lt_of_left_lt h.c0
  c1 := min_lt_of_left_lt h.c1
  c2 := min_lt_of_left_lt h.c2
  residency := max_lt h.residency (by decide) }

theorem formLimits_fit (fleet : Bool) (l : Limits) : LimitsFit (formLimits fleet l) := by
  cases fleet with
  | false => exact clampRanges_fit l
  | true => exact clampFleet_fit (clampRanges_fit l)

/-- A record whose fields fit reads back from its bytes. -/
theorem readLimits_written {m : Memory} (a : Nat) {l : Limits} (fit : LimitsFit l) (canonical : Memory.wf m = true) :
    readLimits (writeBytes m a (limitsBytes l)) a = l := by
  have stored : Memory.holds (writeBytes m a (limitsBytes l)) a (limitsBytes l) := holds_writeBytes a _ canonical
  generalize writeBytes m a (limitsBytes l) = u at stored ⊢
  delta limitsBytes at stored
  simp only [List.append_assoc, holds_append, leBytes_length, Nat.add_assoc, Nat.reduceAdd] at stored
  obtain ⟨initialStep, minStep, threshold, probeLimit, watchDrop, anemoK, budget, -, settle, t1, t2, t3, c0, c1, c2,
    residency, roof, alarmPeriod, alarmOn, telemPeriod⟩ := stored
  have word {b v : Nat} (h : u.holds b (leBytes 2 v)) (fits : v < 65536) : readU16 u b = v :=
    (readU16_holds h).trans (Nat.mod_eq_of_lt fits)
  have fields : l = ⟨l.initialStep, l.minStep, l.threshold, l.probeLimit, l.watchDrop, l.anemoK, l.budget, l.settle, l.t1,
      l.t2, l.t3, l.c0, l.c1, l.c2, l.residency, l.roof, l.alarmPeriod, l.alarmOn, l.telemPeriod⟩ := rfl
  rw [fields, readLimits, Limits.mk.injEq]
  exact ⟨readU8_holds initialStep fit.initialStep, readU8_holds minStep fit.minStep,
    readU8_holds threshold fit.threshold, readU8_holds probeLimit fit.probeLimit, readU8_holds watchDrop fit.watchDrop,
    readU8_holds anemoK fit.anemoK, readU8_holds budget fit.budget, word settle fit.settle, word t1 fit.t1,
    word t2 fit.t2, word t3 fit.t3, word c0 fit.c0, word c1 fit.c1, word c2 fit.c2, word residency fit.residency,
    word roof fit.roof, word alarmPeriod fit.alarmPeriod, word alarmOn fit.alarmOn, word telemPeriod fit.telemPeriod⟩

/-! ## The band judged (R135) -/

/-- The Wind Monitor after a judgement that may not lower the applied band, made between two sample times. -/
def bandRaised (w : Wind) (m : Limits) (figure : Nat) : Wind :=
  { w with
    band := max w.band (bandOf m figure)
    residency := if w.band ≤ bandOf m figure then some ⟨0, m.residency, true⟩ else w.residency }

theorem judgeFigure_raised (s : State) (figure : Nat) :
    judgeFigure s figure false true = s.withWind (bandRaised s.wind s.limits figure) := by
  rcases Nat.lt_trichotomy s.wind.band (bandOf s.limits figure) with above | same | below
  · rw [judgeFigure_rises above, bandRaised, if_pos above.le, Nat.max_eq_right above.le]
    rfl
  · rw [judgeFigure_stays same.symm, bandRaised, if_pos same.le, Nat.max_eq_left same.ge]
    rfl
  · have stays : judgeFigure s figure false true = s :=
      (if_neg (Nat.not_lt.mpr below.le)).trans ((if_neg below.ne).trans (if_neg Bool.false_ne_true))
    rw [stays, bandRaised, if_neg (Nat.not_le.mpr below), Nat.max_eq_left below.le]
    rfl

/-- The figure that new wind values are judged by (R131, R132, R135). -/
def judgedFigure (w : Wind) (m : Limits) : Nat :=
  if w.anem = .degraded ∨ (w.anem = .refill ∧ w.carry = .bandTwo) then m.t2 else w.figure

theorem presentFigure_eq (s : State) : presentFigure s = judgedFigure s.wind s.limits := by
  unfold presentFigure judgedFigure carriedFigure
  cases s.wind.anem with
  | sampling => simp
  | hold => simp
  | degraded => simp
  | refill => cases s.wind.carry <;> simp

/-! ## The limits put in force (R164, step 3) -/

theorem kept_withLimits (s : State) (l : Limits) : (s.withLimits l).kept = { s.kept with limits := l } := rfl

theorem kept_roofStale (before s : State) : (roofStale before s).kept = s.kept := by
  unfold roofStale
  split <;> rfl

theorem kept_roofSlew (before s : State) : (roofSlew before s).kept = s.kept := by
  unfold roofSlew
  split
  · rfl
  · exact kept_recomputeSite s

/-- The Wind Monitor once a record is in force. -/
def windAfter (s : State) (m : Limits) : Wind :=
  if s.wind.priming = true ∨ s.limits = m then s.wind else bandRaised s.wind m (judgedFigure s.wind m)

theorem windChange_kept (before s : State) (wind : s.wind = before.wind) :
    (windChange before s).kept = { s.kept with wind := windAfter before s.limits } := by
  have own : s.kept = { s.kept with wind := before.wind } := by rw [← wind]; rfl
  rw [windChange, kept_handOff, windAfter, ← wind]
  split
  · rfl
  · rw [judgeFigure_raised, kept_withWind, presentFigure_eq]

theorem putLimits_kept (s : State) (m : Limits) :
    (putLimits s m).kept = { s.kept with limits := m, wind := windAfter s m } := by
  unfold putLimits
  extract_lets staled granted
  have stale : staled.kept = { s.kept with limits := m } := kept_roofStale s (s.withLimits m)
  clear_value staled
  have budget : granted.kept = { s.kept with limits := m } := by
    unfold granted
    split
    · exact stale
    · rw [kept_grantCheck, stale]
  clear_value granted
  have limits : granted.limits = m := congrArg Kept.limits budget
  rw [kept_roofSlew, windChange_kept s granted (congrArg Kept.wind budget), budget, limits]

/-! ## SET_LIMITS as a take (R164) -/

theorem limitsRefused_iff (fleet : Bool) (l : Limits) : let m := formLimits fleet l
    limitsRefused fleet l = true ↔
      ¬ (l.minStep ≤ l.initialStep ∧ m.t1 < m.t2 ∧ m.t2 < m.t3 ∧ m.c1 ≤ m.c0 ∧ m.c2 ≤ m.c1) := by
  simp only [limitsRefused, Limits.ordered, Bool.or_eq_true, Bool.not_eq_true', Bool.and_eq_false_iff, decide_eq_true_iff,
    decide_eq_false_iff_not]
  omega

section
variable (s : State) (n : Slot)

/-- The record that a SET_LIMITS asks for, and the one that it would put in force. -/
def askedLimits : Limits := readLimits s.mem (argAddr n 0)
def formedLimits : Limits := formLimits s.wind.fleetLock (askedLimits s n)

/-- The state in which the result of a SET_LIMITS is written, and the one it leaves. -/
def limitsPut : State := putLimits (popIntake s) (formedLimits s n)
def limitsAnswered : State := writeResult (writeBackLimits (limitsPut s n) n) n .ok
  { Warnings.empty with clamped := decide (formedLimits s n ≠ askedLimits s n) } []

/-- The header field of the limits in force. -/
def limitsField (u : State) : List (Nat × List Byte) := [(64, limitsBytes u.limits)]

/-- The state after the event of a SET_LIMITS that is not refused. -/
def limitsDone : State := updateHeaderWith s (settle (limitsAnswered s n)) (limitsField (settle (limitsAnswered s n)))
end

variable {s : State} {n : Slot}

theorem setLimits_taken (taken : Taken s .setLimits n) : let w := settle (ownSetLimits (popIntake s) n)
    exec .setLimits s = .next (updateHeaderWith s w
      (if limitsRefused s.wind.fleetLock (askedLimits s n) then [] else limitsField w)) := by
  show Host.Outcome.next (takeWriting .setLimits _ ownSetLimits limitsField s) = _
  simp only [takeWriting, takeSteps_passed s .setLimits n taken, take_passed s .setLimits ownSetLimits n taken]
  show Host.Outcome.next (updateHeaderWith s _ (if (!limitsRefused s.wind.fleetLock (askedLimits s n)) = true then _ else _)) = _
  cases limitsRefused s.wind.fleetLock (askedLimits s n) <;> rfl

theorem setLimits_refused (taken : Taken s .setLimits n) (canonical : Memory.wf s.mem = true)
    (refused : limitsRefused s.wind.fleetLock (askedLimits s n) = true) :
    ∃ u, exec .setLimits s = .next (endEvent s u) ∧ Refused s u n .badRecord := by
  have own : ownSetLimits (popIntake s) n = refuse (popIntake s) n .badRecord := if_pos refused
  refine ⟨refuse (popIntake s) n .badRecord, ?_, refuse_refused s n .badRecord canonical⟩
  rw [setLimits_taken taken, if_pos refused, own]
  rfl

theorem setLimits_accepted (taken : Taken s .setLimits n)
    (accepted : ¬ limitsRefused s.wind.fleetLock (askedLimits s n) = true) :
    exec .setLimits s = .next (limitsDone s n) := by
  have own : ownSetLimits (popIntake s) n = limitsAnswered s n := if_neg accepted
  rw [setLimits_taken taken, if_neg accepted, own]
  rfl

theorem limitsDone_kept (s : State) (n : Slot) : (limitsDone s n).kept = { s.kept with
    limits := formedLimits s n, wind := windAfter s (formedLimits s n), intake := s.board.intake.tail } := by
  have back : (writeBackLimits (limitsPut s n) n).kept = (limitsPut s n).kept := kept_withMem ..
  rw [limitsDone, kept_updateHeaderWith, kept_settle, limitsAnswered, kept_writeResult, back, limitsPut, putLimits_kept]
  rfl

end Sys2Proof.Machine
end

section
/-! PROOFS. SET_LIMITS: what stands in its slot and in the header once the event is over. -/
namespace Sys2Proof.Machine
set_option Elab.async false -- one lemma after another: elaborated at once they would each hold a thread

variable {s : State} {n : Slot}

/-! ## The header write of a record (R162) -/

theorem limitsField_within (u : State) : ∀ f ∈ limitsField u, f.1 + f.2.length ≤ 256 := by
  simp [limitsField, limitsBytes_length]

/-- The header write of a record stores it after every field that the event changed. -/
theorem updateHeaderWith_limits_eq (before w : State) : ∃ m, (Memory.wf w.mem = true → Memory.wf m = true) ∧
    let seq := w.board.headerSeq + 2#16
    updateHeaderWith before w (limitsField w) =
      (w.withMem (writeBytes (writeBytes m 64 (limitsBytes w.limits)) 10 (leBytes 2 seq.toNat))).withBoard
        { w.board with headerSeq := seq } := by
  have some : ¬ changedFields before w ++ limitsField w = [] := by simp [limitsField]
  refine ⟨writeFields w.mem (changedFields before w), writeFields_wf _ _, ?_⟩
  rw [updateHeaderWith, if_neg some, writeHeaderFields, List.append_assoc, writeFields_append, limitsField]
  generalize limitsBytes w.limits = record
  rfl

theorem updateHeaderWith_limits (before w : State) (canonical : Memory.wf w.mem = true) :
    let t := updateHeaderWith before w (limitsField w)
    Memory.holds t.mem 64 (limitsBytes w.limits) ∧ t.board.headerSeq = w.board.headerSeq + 2#16 ∧
      readU16 t.mem 10 = t.board.headerSeq.toNat ∧ t.board.notice = w.board.notice := by
  obtain ⟨m, keeps, written⟩ := updateHeaderWith_limits_eq before w
  have changed := keeps canonical
  rw [written]
  generalize limitsBytes w.limits = record
  refine ⟨holds_beside (holds_writeBytes 64 record changed) (.inr ?_), rfl, ?_, rfl⟩
  · rw [leBytes_length]
    decide
  · exact readU16_word (holds_writeBytes 10 _ (writeBytes_wf record m 64 changed))

/-! ## The slot and the header once the event is over -/

theorem limitsPut_apart (idle : s.swap.phase = .idle) (head : s.board.intake.head? = some n)
    (separate : slotsSeparate s) : Confined (· ≠ n) s (limitsPut s n) := by
  obtain ⟨-, -, apart⟩ := separate
  have waits : n ∈ s.board.intake := List.mem_of_head? head
  have opened : ∀ c ∈ s.board.openSet, c.slot ≠ n := fun c hc same =>
    apart n waits (same ▸ List.mem_map_of_mem hc)
  have start : Confined (· ≠ n) s s := .refl opened fun quiesce => by rw [idle] at quiesce; cases quiesce
  exact start.popIntake.putLimits _

theorem writeBackLimits_mem (u : State) (n : Slot) :
    (writeBackLimits u n).mem = writeBytes u.mem (argAddr n 0) (limitsBytes u.limits) := by
  unfold writeBackLimits
  generalize limitsBytes u.limits = record
  rfl

/-- The record in force stands over the argument area: the result is written beside it. -/
theorem limitsAnswered_record (canonical : Memory.wf (limitsPut s n).mem = true) :
    Memory.holds (limitsAnswered s n).mem (argAddr n 0) (limitsBytes (formedLimits s n)) := by
  have limits : (limitsPut s n).limits = formedLimits s n := congrArg Kept.limits (putLimits_kept ..)
  have back := writeBackLimits_mem (limitsPut s n) n
  have length := limitsBytes_length (formedLimits s n)
  rw [limits] at back
  generalize limitsBytes (formedLimits s n) = record at back length ⊢
  have beside : ∀ k < record.length, read8 (limitsAnswered s n).mem (argAddr n 0 + k) =
      read8 (writeBackLimits (limitsPut s n) n).mem (argAddr n 0 + k) := fun k inside =>
    writeResult_other _ _ _ _ _ _ (by simp only [resultByte, argAddr]; omega)
  rw [Memory.holds, readBytes_congr beside, back]
  exact holds_writeBytes _ _ canonical

/-- The warnings of an accepted record. -/
theorem clamped_toByte (m l : Limits) :
    { Warnings.empty with clamped := decide (m ≠ l) }.toByte = if m = l then 0 else 1 := by
  by_cases same : m = l <;> simp [same, Warnings.toByte, Warnings.empty]

/-- What the slot and the header show of a record in force. -/
theorem limitsDone_shown (taken : Taken s .setLimits n) (sound : Sound s) : let t := limitsDone s n
    let m := formedLimits s n
    Answered t n 0 ∧ read8 t.mem (slotAddr n + 5) = (if m = askedLimits s n then 0 else 1) ∧
      (∀ k < 24, read8 t.mem (slotAddr n + 40 + k) = 0) ∧ readBytes t.mem (argAddr n 0) 32 = limitsBytes m ∧
      readBytes t.mem 64 32 = limitsBytes m ∧ t.board.headerSeq = s.board.headerSeq + 2#16 ∧
      readU16 t.mem 10 = t.board.headerSeq.toNat := by
  obtain ⟨canonical, separate⟩ := sound
  obtain ⟨-, idle, head, -⟩ := taken
  intro t m
  have apart := limitsPut_apart idle head separate
  have put := apart.wf canonical
  have back : Memory.wf (writeBackLimits (limitsPut s n) n).mem = true := by
    rw [writeBackLimits_mem]
    exact writeBytes_wf _ _ _ put
  have own : Confined (· ≠ n) (limitsAnswered s n) (limitsAnswered s n) := .refl apart.opened apart.exchange
  have settled := own.settle
  have limits : (settle (limitsAnswered s n)).limits = m := congrArg Kept.limits
    ((kept_updateHeaderWith s _ _).symm.trans (limitsDone_kept s n))
  obtain ⟨header, seq, seqShown, notice⟩ := updateHeaderWith_limits s (settle (limitsAnswered s n))
    (settled.wf (writeResult_wf _ _ _ _ _ back))
  have within := limitsField_within (settle (limitsAnswered s n))
  have slot : ∀ a, slotAddr n ≤ a → a < slotAddr n + 64 → read8 t.mem a = read8 (limitsAnswered s n).mem a :=
    updateHeaderWith_settle_slot own s _ within
  have answered : Answered (limitsAnswered s n) n Code.ok.toNat := writeResult_answered _ _ _ _ _ back
  have record := limitsAnswered_record put
  have length := limitsBytes_length m
  rw [limits] at header
  change Memory.holds _ _ (limitsBytes m) at record
  generalize limitsBytes m = bytes at header record length ⊢
  rw [Memory.holds, length] at header record
  refine ⟨answered_afterEvent answered own within notice, ?_, fun k inside => ?_, ?_, header, ?_, seqShown⟩
  · exact (slot _ (by omega) (by omega)).trans ((writeResult_warnings _ _ _ _ _ back).trans (clamped_toByte ..))
  · exact (slot _ (by omega) (by omega)).trans (writeResult_getD _ _ _ _ _ back k inside)
  · have stands : ∀ k < 32, read8 t.mem (argAddr n 0 + k) = read8 (limitsAnswered s n).mem (argAddr n 0 + k) :=
      fun k inside => slot _ (by rw [argAddr]; omega) (by rw [argAddr]; omega)
    rw [readBytes_congr stands]
    exact record
  · exact seq.trans (congrArg (· + 2#16) (settled.headerSeq.trans apart.headerSeq))

/-- A record in force changes neither the figure nor the window of the Wind Monitor. -/
theorem windAfter_standing (s : State) (m : Limits) :
    (windAfter s m).figure = s.wind.figure ∧ (windAfter s m).window = s.wind.window := by
  unfold windAfter
  split <;> exact ⟨rfl, rfl⟩

end Sys2Proof.Machine

open Sys2Proof Sys2Proof.Machine

/-- Settles O19. What the record changes is read off the groups the event keeps, the slot and the header off the stores of
the take and of its header write; the values in force fit their bytes, each being within its range. -/
theorem setLimitsTaken : Obligations.SetLimitsTaken := by
  constructor
  · intro s n l m taken canonical asked formed
    subst asked formed
    have refused := limitsRefused_iff s.wind.fleetLock (askedLimits s n)
    refine ⟨fun bad => setLimits_refused taken canonical (refused.mpr bad), fun steps t12 t23 c01 c12 => ?_⟩
    have fields := limitsDone_kept s n
    have wind : (limitsDone s n).wind = windAfter s (formedLimits s n) := congrArg Kept.wind fields
    obtain ⟨figure, window⟩ := windAfter_standing s (formedLimits s n)
    rw [← wind] at figure window
    refine ⟨limitsDone s n, setLimits_accepted taken fun r => refused.mp r ⟨steps, t12, t23, c01, c12⟩,
      congrArg Kept.limits fields, congrArg Kept.fix fields, congrArg Kept.fixGen fields, congrArg Kept.lines fields,
      congrArg Kept.power fields, congrArg Kept.telem fields, congrArg Kept.pending fields, congrArg Kept.intake fields,
      figure, window, fun same => ?_, fun other primed => ?_, fun a => ?_, fun sound => limitsDone_shown taken sound⟩
    · exact wind.trans (if_pos (same.symm.imp_right Eq.symm))
    · refine wind.trans (if_neg ?_)
      rw [primed]
      exact fun h => h.elim Bool.false_ne_true fun same => other same.symm
    · have sensed : (limitsDone s n).kept.axis a = s.kept.axis a := by rw [fields]; cases a <;> rfl
      rw [← sensed_axis, ← sensed_axis] at sensed
      exact congrArg Prod.fst sensed
  · intro l fleet m into period on bound
    have free := formLimits_free fleet l
    have c0 := formLimits_c0 fleet l
    refine ⟨congrArg Limits.initialStep free, congrArg Limits.minStep free, congrArg Limits.threshold free,
      congrArg Limits.probeLimit free, congrArg Limits.watchDrop free, congrArg Limits.anemoK free,
      congrArg Limits.budget free, congrArg Limits.settle free, congrArg Limits.roof free,
      congrArg Limits.telemPeriod free, congrArg Limits.alarmPeriod free, congrArg Limits.alarmOn free,
      (formLimits_t1 fleet l).trans (fleetCap_eq ..), (formLimits_t2 fleet l).trans (fleetCap_eq ..),
      (formLimits_t3 fleet l).trans (fleetCap_eq ..), c0, (formLimits_c1 fleet l).trans (fleetCap_eq ..),
      (formLimits_c2 fleet l).trans (fleetCap_eq ..), (formLimits_residency fleet l).trans (fleetFloor_eq ..), ?_⟩
    exact fun mem a canonical => readLimits_written a (formLimits_fit fleet l) canonical
end
